-- ==== Sys2Proof/Word.lean ====
section
/-! DEFINITION. The word types of the VS251: octets, 32- and 64-bit words, 128-bit payloads, and the numbers that
name cores, registers, rings and ports. -/

namespace Sys2Proof

abbrev Byte := BitVec 8
abbrev W16 := BitVec 16
abbrev W32 := BitVec 32
abbrev W64 := BitVec 64
/-- A register or granule payload (04 R130). -/
abbrev Payload := BitVec 128
/-- An octet string. -/
abbrev Octets := List Byte

/-- A ledger core, 0 to 63 (01 summary figures). -/
abbrev CoreId := Fin 64
/-- A 5-bit register field (05 R168). -/
abbrev Reg := Fin 32
/-- A bank of a core: 0 to 15 the task banks, 16 bank T (05 R180). -/
abbrev BankId := Fin 17
/-- A ring, 0 to 4,095 (03 R83). -/
abbrev RingId := Fin 4096
/-- A chain port CP0 to CP3 (14 R573). -/
abbrev Port := Fin 4

/-- Bank T's number (05 R180). -/
def bankT : BankId := 16

/-- Whether a number is a multiple of another. -/
def dvd (m n : Nat) : Bool := n % m == 0

/-- Ceiling division. -/
def cdiv (a b : Nat) : Nat := (a + b - 1) / b

end Sys2Proof
end

