-- ==== Sys2Proof/Syntax.lean ====
section
/-! DEFINITION. The commands the block takes: one constructor per row of spec/opcode_table.json, with the operands that
the outside world supplies (register fields of an instruction, the value written to a register, the octets a read
returned, a reading of a sensor). What the block itself holds is no operand. -/

namespace Sys2Proof

/-- A lane of a chain port (14 R575). -/
inductive Lane where
  | control | acknowledgement | record | attestation | update
  deriving DecidableEq, Repr

/-- The common header of a chain frame (14 R576). -/
structure ChainHdr where
  ver     : Byte
  cls     : Byte
  src     : Byte
  dst     : Byte
  hops    : Byte
  flags   : Byte
  len     : Nat
  chainId : W32
  spanLen : W16
  seq     : W64
  deriving DecidableEq, Repr

/-- A frame received on a chain port (14 R574, R576): its DA and EtherType, whether its FCS is good, its header, and the octets
after the header: payload (encrypted for every class but attestation, R577) and GCM tag. -/
structure RxFrame where
  port  : Port
  da    : Octets
  etherType : BitVec 16
  fcsOk : Bool
  hdr   : ChainHdr
  body  : Octets
  tag   : Octets
  deriving DecidableEq, Repr

/-- What the error correction finds at the unit a command reads (12 R496 to R498): no error, a corrected error, or an
uncorrectable one. Log entry 9. -/
inductive Ecc where
  | clean | corrected | uncorrectable
  deriving DecidableEq, Repr

/-- A unit the scrub engine reads (12 R503). -/
inductive ScrubUnit where
  | bench (c : CoreId) (g : Nat)
  | bay (g : Nat)
  | hbm (block : Nat)
  deriving DecidableEq, Repr

/-- A chain's streams. -/
inductive ChainStream where
  | a | b | z
  deriving DecidableEq, Repr

/-- An uncorrectable error met by a running chain (12 R498, R501): in a granule of an element of a stream (of stream Z, ACC's
element or a TALLY bin, by its number), in a granule of an index, or in the engine's internal buffers at an element. `granule`
counts from 0 the granules that hold the element or the index. -/
inductive ChainEcc where
  | element (stream : ChainStream) (element granule : Nat)
  | index (stream : ChainStream) (element granule : Nat)
  | buffer (element : Nat)
  deriving DecidableEq, Repr

/-- Why a queued mover command cannot go on, as far as the outside world decides it (12 R515): an uncorrectable source
granule at an offset of the command, a host read that failed after some octets had arrived (or a host write after as many
had been written), an uncorrectable persistent block; `state` for
the causes the block's own state decides (POISON met, a frame or region changed). -/
inductive MoverTrouble where
  | state
  | sourceEcc (offset : Nat)
  | hostError (moved : Octets)
  | persistent (offset : Nat)
  deriving DecidableEq, Repr

/-- The errors that the reads of one instruction find: an address, and what the error correction finds at its granule. An
address the instruction does not read brings nothing. Log entry 9. -/
abbrev Errs := List (Nat × Ecc)

/-- What a packed, string or editing instruction meets in the memories: errors at the granules it reads, and a machine check
(an uncorrectable error in the bench write path and the like, 12 R501, or at the vendor microword `word`, 13 R520, R531) between
two interruption points, which ends it as PARTIAL (07 R290, 08 R349); with the check, the offsets of the octets of its result
already written. -/
structure Meets where
  errs  : Errs
  check : Option (List Nat)
  word  : Option (Fin 16384)
  deriving DecidableEq, Repr

/-- Nothing met. -/
def Meets.none : Meets := ⟨[], .none, .none⟩

/-- The conditions a power-on or reset meets on the board and in the silicon (19 R742, 20 R762 to R770): supplies, REFCLK, the
hottest die sensor, the lid and the loop, the step from 4 to 9 at which the booted image hangs, less 4 (19 R744), whether its
firmware reads every settings record and finds every value in range (18 R725), and the raw entropy bits that the source
delivers: those of the start-up tests, then those that seed the two instances (16 R628, R630). -/
structure BootEnv where
  vin48    : Bool
  refclk   : Bool
  dieWarm  : Bool
  lidOpen  : Bool
  ohms     : Nat
  hangsAt  : Option (Fin 6)
  settingsOk : Bool
  raw      : List Bool
  deriving DecidableEq, Repr

/-- A label record found in zone 0 of a cartridge (15 R610): its octets and, where another device wrote it, that device's
certificate as this one obtained it, empty where it did not (log entry 105). -/
structure LabelRec where
  octets : Octets
  cert   : Octets
  deriving DecidableEq, Repr

/-- A cartridge's answers in an SPDM exchange (15 R611), in the order of the requests: VERSION, CAPABILITIES, ALGORITHMS, DIGESTS,
the CERTIFICATE portions, and CHALLENGE_AUTH up to its signature, with that signature; empty from where it no longer answers. -/
structure SpdmRun where
  version      : Octets
  capabilities : Octets
  algorithms   : Octets
  digests      : Octets
  portions     : List Octets
  challenge    : Octets
  signature    : Octets
  deriving DecidableEq, Repr

/-- A cartridge's namespaces (15 R603): how many there are, and of the first the command set (2 Zoned Namespace), data octets and
metadata octets of an LBA, zones, LBAs of a zone, and a zone's capacity. -/
structure CartNs where
  count   : Nat
  cmdSet  : Nat
  lbaData : Nat
  lbaMeta : Nat
  zones   : Nat
  size    : Nat
  cap     : Nat
  deriving DecidableEq, Repr

/-- What the device learns of a cartridge at its insertion (15 R611, R612, R620): the answers in the SPDM exchange, none where
the link does not train; the namespaces; zone 0's records; the LBAs written in the data zones (Full zones counted whole), and
the unit of the highest address among them, empty where there is none. -/
structure CartInfo where
  spdm     : Option SpdmRun
  ns       : CartNs
  labels   : List LabelRec
  dataLbas : Nat
  lastUnit : Octets
  deriving DecidableEq, Repr

/-- A debug-port access (17 R679): what D1, D2 and D3 give. -/
inductive DebugOp where
  | idcode
  | challenge
  | trace (c : CoreId)
  | readSetup (off : BitVec 20) (width : Nat)
  | step (c : CoreId)
  | readReg (c : CoreId) (b : BankId) (win : Fin 6) (code : Reg)
  | readBench (c : CoreId) (g : Nat)
  | readBay (g : Nat)
  | setBreak (c : CoreId) (addr : W32)
  | clearBreak (c : CoreId) (addr : W32)
  | writeReg (c : CoreId) (b : BankId) (win : Fin 6) (code : Reg) (tag : BitVec 4) (v : Payload)
  | writeBench (c : CoreId) (g : Nat) (tag : BitVec 4) (v : Payload)
  | writeBay (g : Nat) (tag : BitVec 4) (v : Payload)
  | writeHbm (g : Nat) (tag : BitVec 4) (v : Payload)
  | readMicro (c : CoreId) (a : Nat)
  | writeMicro (c : CoreId) (a : Nat) (w : W32)
  | scanCore (c : CoreId)
  | scanLve
  | scanMover
  deriving DecidableEq, Repr

/-- The fields of a form F instruction (05 R196). -/
structure FormF where
  base1 : Reg
  base2 : Reg
  len1  : BitVec 7
  len2  : BitVec 7
  disp1 : W16
  disp2 : W16
  deriving DecidableEq, Repr

/-- The commands of the VS251: one constructor per row of spec/opcode_table.json, in its order. Each docstring names
the row and the rule the table cites. -/
inductive Instr where
  /-- SILL_START (R59). -/
  | sillStart
  /-- DOORBELL_ARRAY_RETURN (R90). -/
  | doorbellArrayReturn (array : Option Octets)
  /-- DESCRIPTOR_FETCH_RETURN (R66). -/
  | descriptorFetchReturn (ring : RingId) (data : Option (List Octets))
  /-- DECIDE (R68). -/
  | decide
  /-- POSTED_COMMAND (R119). -/
  | postedCommand
  /-- SILL_END (R67). -/
  | sillEnd
  /-- POST_START (R408). -/
  | postStart
  /-- POST_END (R410). -/
  | postEnd
  /-- PLATE_START (R553). -/
  | plateStart
  /-- TIMEIN_PULSE (R40). -/
  | timeinPulse
  /-- TIMEIN_LOSS (R44). -/
  | timeinLoss
  /-- SYNC (R584). -/
  | sync (f : RxFrame)
  /-- DELAY_REQ (R584). -/
  | delayReq (f : RxFrame)
  /-- DELAY_RESP (R584). -/
  | delayResp (f : RxFrame)
  /-- SYNC_TIMEOUT (R586). -/
  | syncTimeout
  /-- COMPLETION_WRITE (R100). -/
  | completionWrite
  /-- MOD_TIME_EXPIRY (R123). -/
  | modTimeExpiry (ring : RingId)
  /-- BUS_MASTER_ENABLE (R81). -/
  | busMasterEnable
  /-- HOST_LINK_CHANGE (R81). -/
  | hostLinkChange (l0 dll : Bool)
  /-- NOP_COMMAND (R115). -/
  | nopCommand
  /-- CREATE_RING (R107). -/
  | createRing
  /-- START_RING (R107). -/
  | startRing
  /-- STOP_RING (R117). -/
  | stopRing
  /-- RESIZE_RING (R107). -/
  | resizeRing
  /-- DELETE_RING (R107). -/
  | deleteRing
  /-- SET_QUOTA (R107). -/
  | setQuota
  /-- SET_MODERATION (R107). -/
  | setModeration
  /-- STOP_GROUP (R107). -/
  | stopGroup
  /-- START_GROUP (R107). -/
  | startGroup
  /-- LOAD_CERT (R49). -/
  | loadCert
  /-- UPD_OPEN (R712). -/
  | updOpen
  /-- UPD_PIECE (R710). -/
  | updPiece
  /-- UPD_STATUS (R718). -/
  | updStatus
  /-- UPD_ABORT (R713). -/
  | updAbort
  /-- UPD_ACTIVATE (R722). -/
  | updActivate
  /-- UPD_VERDICT (R726). -/
  | updVerdict
  /-- UPD_RESOLVE (R733). -/
  | updResolve
  /-- CHAIN_CONFIG (R598). -/
  | chainConfig
  /-- WITNESS_SET (R597). -/
  | witnessSet
  /-- LATENCY_CHECK (R590). -/
  | latencyCheck
  /-- JOURNAL_READ (R597). -/
  | journalRead
  /-- LEAF_PROOF (R597). -/
  | leafProof
  /-- CART_STATUS (R624). -/
  | cartStatus
  /-- CART_EJECT (R623). -/
  | cartEject
  /-- CART_READ (R623). -/
  | cartRead (data : Octets)
  /-- CART_TIME (R623). -/
  | cartTime
  /-- DRAW_STATUS (R657). -/
  | drawStatus
  /-- ENTROPY_RETEST (R657). -/
  | entropyRetest (raw : List Bool)
  /-- POWER_SET (R689). -/
  | powerSet
  /-- LIFECYCLE_SEAL (R672). -/
  | lifecycleSeal
  /-- KEY_LOAD (R666). -/
  | keyLoad
  /-- DEBUG_CLOSE (R695). -/
  | debugClose
  /-- RETIRE (R673). -/
  | retire
  /-- LIFECYCLE_STATUS (R697). -/
  | lifecycleStatus
  /-- SETUP_WRITE (R802). -/
  | setupWrite (off : BitVec 20) (width : Nat) (v : W64)
  /-- SPAN_CFG_WRITE (R809). -/
  | spanCfgWrite (width : Nat) (v : W64)
  /-- ADM_CFG_WRITE (R812). -/
  | admCfgWrite (n : Fin 3) (width : Nat) (v : W64)
  /-- CTRL_RING_ENABLE (R814). -/
  | ctrlRingEnable (width : Nat) (v : W64)
  /-- CTRL_RING_DISABLE (R814). -/
  | ctrlRingDisable (width : Nat) (v : W64)
  /-- CTRL_RING_RESET (R111). -/
  | ctrlRingReset (width : Nat) (v : W64)
  /-- DEV_RESET (R808). -/
  | devReset (width : Nat) (v : W64) (env : BootEnv)
  /-- PROGRESS_LATCH (R819). -/
  | progressLatch (slot : Fin 5)
  /-- TR_ENTRY_READ (R823). -/
  | trEntryRead
  /-- PROVISION (R670). -/
  | provision (width : Nat) (v : W64)
  /-- MAILBOX_RETIRE (R673). -/
  | mailboxRetire (width : Nat) (v : W64)
  /-- MAILBOX_STATUS (R697). -/
  | mailboxStatus (width : Nat) (v : W64)
  /-- MAILBOX_MANIFEST (R734). -/
  | mailboxManifest (width : Nat) (v : W64)
  /-- MAILBOX_PIECE (R734). -/
  | mailboxPiece (width : Nat) (v : W64)
  /-- MAILBOX_UPD_STATUS (R821). -/
  | mailboxUpdStatus (width : Nat) (v : W64)
  /-- DEBUG_TOKEN (R681). -/
  | debugToken (token : Octets)
  /-- CHALLENGE_RENEWAL (R681). -/
  | challengeRenewal
  /-- DEBUG_EXPIRY (R682). -/
  | debugExpiry
  /-- TRST_N (R682). -/
  | trstN (asserted : Bool)
  /-- DEBUG_HALT (R683). -/
  | debugHalt (c : CoreId)
  /-- DEBUG_HALT_RELEASE (R683). -/
  | debugHaltRelease (c : CoreId)
  /-- DEBUG_ACCESS (R679). -/
  | debugAccess (op : DebugOp)
  /-- SMB_STATUS (R751). -/
  | smbStatus
  /-- SMB_ALERT_READ (R751). -/
  | smbAlertRead
  /-- SMB_ALERT_WRITE (R752). -/
  | smbAlertWrite (v : W32) (pec : Bool)
  /-- SMB_TEMP (R751). -/
  | smbTemp (die case : W16)
  /-- SMB_POWER (R751). -/
  | smbPower (millivolts decawatts : W32)
  /-- SMB_VCORE (R751). -/
  | smbVcore
  /-- SMB_MARGIN (R751). -/
  | smbMargin
  /-- SMB_AGE (R749). -/
  | smbAge
  /-- SMB_RELEVEL_PROG (R751). -/
  | smbRelevelProg
  /-- TR_INFO (R751). -/
  | trInfo
  /-- TR_SEEK (R751). -/
  | trSeek (v : W64) (pec : Bool)
  /-- TR_READ (R751). -/
  | trRead
  /-- WAKE (R741). -/
  | wake (pec : Bool) (env : BootEnv)
  /-- RELEVEL (R746). -/
  | relevel (pec : Bool)
  /-- FREEZE (R654). -/
  | freeze (frame : Octets)
  /-- RESUME (R654). -/
  | resume (frame : Octets)
  /-- ATTEST_NOW (R654). -/
  | attestNow (frame : Octets)
  /-- HEARTBEAT (R650). -/
  | heartbeat
  /-- PERIODIC_ATTEST_REPORT (R654). -/
  | periodicAttestReport
  /-- REG_LINK_UP (R651). -/
  | regLinkUp
  /-- LEAF_WRITE (R546). -/
  | leafWrite
  /-- BACKFILL (R571). -/
  | backfill
  /-- WITNESS_RECORD (R565). -/
  | witnessRecord (f : RxFrame)
  /-- WITNESS_ACKNOWLEDGEMENT (R567). -/
  | witnessAcknowledgement (f : RxFrame)
  /-- WITNESS_DEADLINE (R568). -/
  | witnessDeadline
  /-- NAK (R566). -/
  | nak (f : RxFrame)
  /-- CATCHUP (R596). -/
  | catchup (f : RxFrame)
  /-- ECHO (R581). -/
  | echo (f : RxFrame)
  /-- ECHO_REPLY (R590). -/
  | echoReply (f : RxFrame)
  /-- PERIODIC_LATENCY_CHECK (R590). -/
  | periodicLatencyCheck
  /-- PORT_LINK_CHANGE (R593). -/
  | portLinkChange (p : Port) (up : Bool)
  /-- HELLO (R591). -/
  | hello (f : RxFrame)
  /-- HELLO_RESEND (R592). -/
  | helloResend (p : Port)
  /-- PORT_RETRY (R594). -/
  | portRetry (p : Port)
  /-- MANIFEST_FRAME (R716). -/
  | manifestFrame (f : RxFrame)
  /-- PIECE_FRAME (R710). -/
  | pieceFrame (f : RxFrame)
  /-- WANT (R716). -/
  | want (f : RxFrame)
  /-- BUSY (R716). -/
  | busy (f : RxFrame)
  /-- ABORT_FRAME (R713). -/
  | abortFrame (f : RxFrame)
  /-- MANIFEST_RESEND (R716). -/
  | manifestResend
  /-- SESSION_EXPIRY (R713). -/
  | sessionExpiry
  /-- UPDATE_INSTALL (R714). -/
  | updateInstall
  /-- PREPARE (R722). -/
  | prepare (f : RxFrame)
  /-- READY (R722). -/
  | ready (f : RxFrame)
  /-- REFUSE (R722). -/
  | refuse (f : RxFrame)
  /-- CONFIRM (R721). -/
  | confirm (f : RxFrame)
  /-- REPORT (R727). -/
  | report (f : RxFrame)
  /-- QUERY (R721). -/
  | query (f : RxFrame)
  /-- PREPARE_RESEND (R722). -/
  | prepareResend
  /-- QUERY_TIMER (R721). -/
  | queryTimer
  /-- ACTIVATION_DECIDE (R722). -/
  | activationDecide
  /-- UPDATE_HOLD (R722). -/
  | updateHold
  /-- ACTIVATION_RESTART (R724). -/
  | activationRestart (env : BootEnv)
  /-- SOAK_END (R726). -/
  | soakEnd
  /-- REPORT_DEADLINE (R727). -/
  | reportDeadline
  /-- CONFIRM_TIMEOUT (R727). -/
  | confirmTimeout
  /-- DRAIN_UNIT_WRITE (R608). -/
  | drainUnitWrite
  /-- DRAIN_UNIT_ACK (R601). -/
  | drainUnitAck
  /-- CART_INSERT (R612). -/
  | cartInsert (cart : CartInfo)
  /-- CART_REMOVE (R622). -/
  | cartRemove
  /-- DRAW_DONE (R638). -/
  | drawDone (raw : List Bool)
  /-- ENTROPY_FAIL (R629). -/
  | entropyFail (raw : List Bool)
  /-- RECEIPT_DONE (R644). -/
  | receiptDone (c : CoreId) (b : BankId)
  /-- SEAL_DONE (R648). -/
  | sealDone (c : CoreId) (b : BankId) (errs : Errs)
  /-- CHAIN_ENQUEUE (R417). -/
  | chainEnqueue (entry : Fin 64)
  /-- CHAIN_START (R412). -/
  | chainStart
  /-- CHAIN_DONE (R440). -/
  | chainDone (corrected : Nat)
  /-- CHAIN_FAULTED (R445). -/
  | chainFaulted (ecc : Option ChainEcc) (corrected : Nat)
  /-- CHAIN_STOPPED (R441). -/
  | chainStopped (corrected : Nat)
  /-- WAIT_CHAINS_RELEASE (R417). -/
  | waitChainsRelease (c : CoreId) (b : BankId)
  /-- MOVER_ENQUEUE (R512). -/
  | moverEnqueue (c : CoreId) (b : BankId) (slot : Fin 8)
  /-- MOVER_DONE (R517). -/
  | moverDone (c : CoreId) (b : BankId) (slot : Fin 8) (host : Octets) (corrected : Nat)
  /-- MOVER_FAIL (R515). -/
  | moverFail (c : CoreId) (b : BankId) (slot : Fin 8) (why : MoverTrouble) (corrected : Nat)
  /-- WAIT_MOVES_RELEASE (R512). -/
  | waitMovesRelease (c : CoreId) (b : BankId)
  /-- WAIT_SEALS_RELEASE (R648). -/
  | waitSealsRelease (c : CoreId) (b : BankId)
  /-- QUEUE_ROOM (R269). -/
  | queueRoom (c : CoreId) (b : BankId)
  /-- WAIT_UNTIL_REACHED (R406). -/
  | waitUntilReached (c : CoreId) (b : BankId)
  /-- COMPLETION_PORT_WRITE (R206). -/
  | completionPortWrite (c : CoreId)
  /-- ENTRY (R382); the errors that its reads of the HDT and the TSB find. -/
  | entry (c : CoreId) (mcheck : Bool) (errs : Errs)
  /-- TAKEOVER (R384). -/
  | takeover (c : CoreId) (src : Fin 512)
  /-- BANK_SWITCH (R402). -/
  | bankSwitch (c : CoreId)
  /-- BUDGET (R72). -/
  | budget (c : CoreId) (b : BankId)
  /-- BUDGET_FREEZE (R73). -/
  | budgetFreeze (c : CoreId) (b : BankId)
  /-- P2_CORE_STOP (R686). -/
  | p2CoreStop (c : CoreId)
  /-- SCRUB (R503). -/
  | scrub (at_ : ScrubUnit) (ecc : Ecc)
  /-- PSCRUB_PASS (R504). -/
  | pscrubPass (corrected : Nat) (bad : List Nat)
  /-- MONITOR_READ (R745). -/
  | monitorRead (slacks : List Nat)
  /-- RELEVEL_RUN (R746). -/
  | relevelRun (readings : List (List Nat))
  /-- RELEVEL_OVERDUE (R746). -/
  | relevelOverdue
  /-- TAMPER_SAMPLE (R675). -/
  | tamperSample (lidOpen : Bool) (ohms : Nat)
  /-- LID_SWITCH (R799). -/
  | lidSwitch
  /-- VAUX_POWER_ON (R742). -/
  | vauxPowerOn (env : BootEnv)
  /-- VIN48_POWER_ON (R742). -/
  | vin48PowerOn (env : BootEnv)
  /-- BOOT_TIMEOUT (R744). -/
  | bootTimeout (env : BootEnv)
  /-- VIN48_LOSS (R690). -/
  | vin48Loss
  /-- VAUX_LOSS (R767). -/
  | vauxLoss
  /-- MRST_N (R736). -/
  | mrstN (nanoseconds : Nat) (env : BootEnv)
  /-- PERST_N (R738). -/
  | perstN
  /-- REFCLK_LOSS (R770). -/
  | refclkLoss
  /-- THERMAL_SHUTDOWN (R796). -/
  | thermalShutdown
  /-- UNDEFINED_OPCODE (R198). -/
  | undefinedOpcode (c : CoreId) (w : W32)
  /-- ADD (R232). -/
  | add (c : CoreId) (d a b : Reg)
  /-- SUB (R232). -/
  | sub (c : CoreId) (d a b : Reg)
  /-- MUL (R234). -/
  | mul (c : CoreId) (d a b : Reg)
  /-- MULH (R234). -/
  | mulh (c : CoreId) (d a b : Reg)
  /-- DIV (R235). -/
  | div (c : CoreId) (d a b : Reg)
  /-- REM (R235). -/
  | rem (c : CoreId) (d a b : Reg)
  /-- MOV (R232). -/
  | mov (c : CoreId) (d a : Reg)
  /-- ADDI (R232). -/
  | addi (c : CoreId) (d a : Reg) (imm : BitVec 14)
  /-- MOVI (R232). -/
  | movi (c : CoreId) (d : Reg) (imm : BitVec 14)
  /-- ADDIS (R232). -/
  | addis (c : CoreId) (d a : Reg) (imm : BitVec 14)
  /-- AND (R236). -/
  | andR (c : CoreId) (d a b : Reg)
  /-- OR (R236). -/
  | orR (c : CoreId) (d a b : Reg)
  /-- XOR (R236). -/
  | xorR (c : CoreId) (d a b : Reg)
  /-- ANDN (R236). -/
  | andn (c : CoreId) (d a b : Reg)
  /-- SLL (R236). -/
  | sll (c : CoreId) (d a b : Reg)
  /-- SRL (R236). -/
  | srl (c : CoreId) (d a b : Reg)
  /-- SRA (R236). -/
  | sra (c : CoreId) (d a b : Reg)
  /-- POPC (R236). -/
  | popc (c : CoreId) (d a : Reg)
  /-- SLLI (R236). -/
  | slli (c : CoreId) (d a : Reg) (amount : BitVec 7)
  /-- SRLI (R236). -/
  | srli (c : CoreId) (d a : Reg) (amount : BitVec 7)
  /-- SRAI (R236). -/
  | srai (c : CoreId) (d a : Reg) (amount : BitVec 7)
  /-- ANDI (R236). -/
  | andi (c : CoreId) (d a : Reg) (imm : BitVec 14)
  /-- ORI (R236). -/
  | ori (c : CoreId) (d a : Reg) (imm : BitVec 14)
  /-- XORI (R236). -/
  | xori (c : CoreId) (d a : Reg) (imm : BitVec 14)
  /-- LD1 (R237). -/
  | ld1 (c : CoreId) (d base : Reg) (disp : BitVec 14) (errs : Errs)
  /-- LD2 (R237). -/
  | ld2 (c : CoreId) (d base : Reg) (disp : BitVec 14) (errs : Errs)
  /-- LD4 (R237). -/
  | ld4 (c : CoreId) (d base : Reg) (disp : BitVec 14) (errs : Errs)
  /-- LD8 (R237). -/
  | ld8 (c : CoreId) (d base : Reg) (disp : BitVec 14) (errs : Errs)
  /-- LD1S (R237). -/
  | ld1s (c : CoreId) (d base : Reg) (disp : BitVec 14) (errs : Errs)
  /-- LD2S (R237). -/
  | ld2s (c : CoreId) (d base : Reg) (disp : BitVec 14) (errs : Errs)
  /-- LD4S (R237). -/
  | ld4s (c : CoreId) (d base : Reg) (disp : BitVec 14) (errs : Errs)
  /-- LD8S (R237). -/
  | ld8s (c : CoreId) (d base : Reg) (disp : BitVec 14) (errs : Errs)
  /-- LDG (R237). -/
  | ldg (c : CoreId) (d base : Reg) (disp : BitVec 14) (errs : Errs)
  /-- LDU8 (R239). -/
  | ldu8 (c : CoreId) (d base : Reg) (disp : BitVec 14) (errs : Errs)
  /-- ST1 (R237). -/
  | st1 (c : CoreId) (s base : Reg) (disp : BitVec 14)
  /-- ST2 (R237). -/
  | st2 (c : CoreId) (s base : Reg) (disp : BitVec 14)
  /-- ST4 (R237). -/
  | st4 (c : CoreId) (s base : Reg) (disp : BitVec 14)
  /-- ST8 (R237). -/
  | st8 (c : CoreId) (s base : Reg) (disp : BitVec 14)
  /-- STG (R237). -/
  | stg (c : CoreId) (s base : Reg) (disp : BitVec 14)
  /-- STU8 (R239). -/
  | stu8 (c : CoreId) (s base : Reg) (disp : BitVec 14)
  /-- CB (R241). -/
  | cb (c : CoreId) (a b : Reg) (cond : Fin 8) (disp : BitVec 11)
  /-- BCC (R242). -/
  | bcc (c : CoreId) (mask : BitVec 4) (disp : BitVec 11)
  /-- BR (R240). -/
  | br (c : CoreId) (disp : BitVec 24)
  /-- CALL (R244). -/
  | call (c : CoreId) (disp : BitVec 24)
  /-- JR (R243). -/
  | jr (c : CoreId) (a : Reg)
  /-- CALLR (R244). -/
  | callr (c : CoreId) (a : Reg)
  /-- RET (R244). -/
  | ret (c : CoreId)
  /-- LOOP (R246). -/
  | loop (c : CoreId) (a : Reg) (len : BitVec 6)
  /-- RPT (R255). -/
  | rpt (c : CoreId) (i s : Bool) (count : Reg) (imm : BitVec 7) (next : W32) (iterations : Nat) (errs : Errs)
  /-- RETAG (R257). -/
  | retag (c : CoreId) (d a : Reg) (tag : BitVec 4)
  /-- RETAGU (R256). -/
  | retagu (c : CoreId) (d a : Reg) (tag : BitVec 4)
  /-- GTAG (R256). -/
  | gtag (c : CoreId) (d a : Reg)
  /-- REFN (R258). -/
  | refn (c : CoreId) (d a b : Reg)
  /-- REFGET (R256). -/
  | refget (c : CoreId) (d a : Reg) (which : Fin 3)
  /-- MFCR (R178). -/
  | mfcr (c : CoreId) (d cr : Reg)
  /-- MTCR (R179); the errors that the reload of R375 finds. -/
  | mtcr (c : CoreId) (cr a : Reg) (errs : Errs)
  /-- MFBW (R260). -/
  | mfbw (c : CoreId) (d code : Reg)
  /-- MTBW (R260). -/
  | mtbw (c : CoreId) (code a : Reg)
  /-- LTSW (R261). -/
  | ltsw (c : CoreId) (a : Reg)
  /-- NOP (R262). -/
  | nop (c : CoreId)
  /-- SVC (R263). -/
  | svc (c : CoreId) (fn : BitVec 24)
  /-- RSV (R262). -/
  | rsv (c : CoreId)
  /-- RTE (R389). -/
  | rte (c : CoreId) (errs : Errs)
  /-- IFLUSH (R193). -/
  | iflush (c : CoreId)
  /-- FMODE (R214). -/
  | fmode (c : CoreId) (service : Bool)
  /-- BRK (R262). -/
  | brk (c : CoreId) (fn : BitVec 24)
  /-- WAIT_EVENT (R407). -/
  | waitEvent (c : CoreId)
  /-- WAIT_UNTIL (R406). -/
  | waitUntil (c : CoreId) (arg : BitVec 20)
  /-- WAIT_CHAINS (R406). -/
  | waitChains (c : CoreId)
  /-- WAIT_MOVES (R406). -/
  | waitMoves (c : CoreId)
  /-- WAIT_SEALS (R406). -/
  | waitSeals (c : CoreId)
  /-- WAIT_DISPATCH (R409). -/
  | waitDispatch (c : CoreId) (errs : Errs)
  /-- WAIT_FREEZE (R406). -/
  | waitFreeze (c : CoreId)
  /-- FRCODE (R192). -/
  | frcode (c : CoreId) (a : Reg)
  /-- PCMD (R271). -/
  | pcmd (c : CoreId) (d a : Reg)
  /-- POST (R372). -/
  | post (c : CoreId) (a : Reg)
  /-- SCRIBE (R268). -/
  | scribe (c : CoreId) (d a b : Reg) (errs : Errs)
  /-- VCHAIN (R413). -/
  | vchain (c : CoreId) (d a : Reg) (errs : Errs)
  /-- VRESUME (R447). -/
  | vresume (c : CoreId) (d a : Reg) (errs : Errs)
  /-- MOVR (R510). -/
  | movr (c : CoreId) (d a : Reg) (errs : Errs)
  /-- DRAW (R635). -/
  | draw (c : CoreId) (d a : Reg) (errs : Errs)
  /-- SEAL (R645). -/
  | seal (c : CoreId) (d a : Reg) (errs : Errs)
  /-- RCPT (R643). -/
  | rcpt (c : CoreId) (d a b : Reg)
  /-- GFRM (R490). -/
  | gfrm (c : CoreId) (d a : Reg)
  /-- SFRM (R491). -/
  | sfrm (c : CoreId) (a b : Reg)
  /-- FZERO (R492). -/
  | fzero (c : CoreId) (a : Reg)
  /-- HBMS (R491). -/
  | hbms (c : CoreId) (a b : Reg)
  /-- HBMG (R490). -/
  | hbmg (c : CoreId) (d a : Reg)
  /-- DADD (R278). -/
  | dadd (c : CoreId) (d a b : Reg)
  /-- DSUB (R278). -/
  | dsub (c : CoreId) (d a b : Reg)
  /-- DMUL (R278). -/
  | dmul (c : CoreId) (d a b : Reg)
  /-- DDIVX (R278). -/
  | ddivx (c : CoreId) (d a b : Reg)
  /-- DCMP (R278). -/
  | dcmp (c : CoreId) (a b : Reg)
  /-- DNEG (R278). -/
  | dneg (c : CoreId) (d a : Reg)
  /-- DABS (R278). -/
  | dabs (c : CoreId) (d a : Reg)
  /-- DRESC (R278). -/
  | dresc (c : CoreId) (d a : Reg) (scale : BitVec 6)
  /-- DRND (R279). -/
  | drnd (c : CoreId) (d a : Reg) (scale : BitVec 6)
  /-- DDIVB (R281). -/
  | ddivb (c : CoreId) (d a b : Reg)
  /-- DMULW (R278). -/
  | dmulw (c : CoreId) (d a b : Reg)
  /-- DADDW (R278). -/
  | daddw (c : CoreId) (d a b : Reg)
  /-- DSUBW (R278). -/
  | dsubw (c : CoreId) (d a b : Reg)
  /-- DNARW (R278). -/
  | dnarw (c : CoreId) (d a : Reg)
  /-- PADD (R286). -/
  | padd (c : CoreId) (f : FormF) (m : Meets)
  /-- PSUB (R286). -/
  | psub (c : CoreId) (f : FormF) (m : Meets)
  /-- PMOV (R286). -/
  | pmov (c : CoreId) (f : FormF) (m : Meets)
  /-- PMUL (R286). -/
  | pmul (c : CoreId) (f : FormF) (m : Meets)
  /-- PDIV (R287). -/
  | pdiv (c : CoreId) (f : FormF) (m : Meets)
  /-- PREM (R287). -/
  | prem (c : CoreId) (f : FormF) (m : Meets)
  /-- PCMP (R286). -/
  | pcmp (c : CoreId) (f : FormF) (m : Meets)
  /-- BTD (R291). -/
  | btd (c : CoreId) (d a : Reg)
  /-- DTB (R291). -/
  | dtb (c : CoreId) (d a : Reg)
  /-- DTF (R291). -/
  | dtf (c : CoreId) (d a : Reg)
  /-- DFTD (R291). -/
  | dftd (c : CoreId) (d a : Reg) (scale : BitVec 6)
  /-- PTD (R291). -/
  | ptd (c : CoreId) (d a b : Reg) (scale : BitVec 6) (errs : Errs) (badWord : Option (Fin 16384))
  /-- TTD (R291). -/
  | ttd (c : CoreId) (d a b : Reg) (scale : BitVec 6) (errs : Errs) (badWord : Option (Fin 16384))
  /-- DTP (R291). -/
  | dtp (c : CoreId) (d a b : Reg) (scale : BitVec 6) (badWord : Option (Fin 16384))
  /-- DTT (R291). -/
  | dtt (c : CoreId) (d a b : Reg) (scale : BitVec 6) (badWord : Option (Fin 16384))
  /-- DFADD (R301). -/
  | dfadd (c : CoreId) (d a b : Reg)
  /-- DFSUB (R301). -/
  | dfsub (c : CoreId) (d a b : Reg)
  /-- DFMUL (R301). -/
  | dfmul (c : CoreId) (d a b : Reg)
  /-- DFDIV (R301). -/
  | dfdiv (c : CoreId) (d a b : Reg)
  /-- DFSQRT (R301). -/
  | dfsqrt (c : CoreId) (d a : Reg)
  /-- DFQUA (R301). -/
  | dfqua (c : CoreId) (d a b : Reg)
  /-- DFSCB (R301). -/
  | dfscb (c : CoreId) (d a b : Reg)
  /-- DFNEG (R301). -/
  | dfneg (c : CoreId) (d a : Reg)
  /-- DFABS (R301). -/
  | dfabs (c : CoreId) (d a : Reg)
  /-- DFFMA (R301). -/
  | dffma (c : CoreId) (d a b : Reg)
  /-- DFTB (R301). -/
  | dftb (c : CoreId) (d a : Reg)
  /-- BTDF (R301). -/
  | btdf (c : CoreId) (d a : Reg)
  /-- DFCB (R303). -/
  | dfcb (c : CoreId) (a b : Reg) (cond : Fin 8) (disp : BitVec 11)
  /-- BFADD (R305). -/
  | bfadd (c : CoreId) (d a b : Reg)
  /-- BFSUB (R305). -/
  | bfsub (c : CoreId) (d a b : Reg)
  /-- BFMUL (R305). -/
  | bfmul (c : CoreId) (d a b : Reg)
  /-- BFDIV (R305). -/
  | bfdiv (c : CoreId) (d a b : Reg)
  /-- BFSQRT (R305). -/
  | bfsqrt (c : CoreId) (d a : Reg)
  /-- BFRINT (R305). -/
  | bfrint (c : CoreId) (d a : Reg)
  /-- BFSCB (R305). -/
  | bfscb (c : CoreId) (d a b : Reg)
  /-- BFNEG (R305). -/
  | bfneg (c : CoreId) (d a : Reg)
  /-- BFABS (R305). -/
  | bfabs (c : CoreId) (d a : Reg)
  /-- BFFMA (R305). -/
  | bffma (c : CoreId) (d a b : Reg)
  /-- BFCB (R303). -/
  | bfcb (c : CoreId) (a b : Reg) (cond : Fin 8) (disp : BitVec 11)
  /-- FBAR (R313). -/
  | fbar (c : CoreId)
  /-- MOVS (R328). -/
  | movs (c : CoreId) (f : FormF) (m : Meets)
  /-- CMPS (R326). -/
  | cmps (c : CoreId) (f : FormF) (m : Meets)
  /-- XLTS (R329). -/
  | xlts (c : CoreId) (f : FormF) (m : Meets)
  /-- FILS (R326). -/
  | fils (c : CoreId) (f : FormF) (m : Meets)
  /-- MOVL (R342). -/
  | movl (c : CoreId) (d a b : Reg) (m : Meets)
  /-- CMPL (R344). -/
  | cmpl (c : CoreId) (d a b : Reg) (m : Meets)
  /-- XLTL (R345). -/
  | xltl (c : CoreId) (d b : Reg) (m : Meets)
  /-- XSCL (R346). -/
  | xscl (c : CoreId) (d a b : Reg) (m : Meets)
  /-- FIND (R347). -/
  | find (c : CoreId) (d b : Reg) (m : Meets)
  /-- EDIT (R358). -/
  | edit (c : CoreId) (d a b : Reg) (m : Meets)
  /-- CUSTOMER_INSTRUCTION (R535); the errors its loads find, and a micro-address whose word has become uncorrectable (R520). -/
  | customerInstruction (c : CoreId) (opcode : BitVec 4) (d a b : Reg) (fn : BitVec 9) (errs : Errs) (badWord : Option (Fin 24576))
  /-- MSIX_UNMASK (R124). -/
  | msixUnmask (v : Fin 2048)
  /-- BUS_MASTER_ENABLE_CLEAR (R81). -/
  | busMasterEnableClear
  /-- REG_LINK_DOWN (R651). -/
  | regLinkDown
  /-- COMMAND_BLOCK_RETURN (R82). -/
  | commandBlockReturn (data : Option Octets)
  /-- PAUSE_FRAME (R575). -/
  | pauseFrame (p : Port) (lane : Lane) (on : Bool)
  /-- REFCLK_VALID (R770). -/
  | refclkValid (env : BootEnv)
  /-- DIE_SENSOR_ABOVE_0C (R796). -/
  | dieSensorAbove0c (env : BootEnv)
  /-- THERMAL_ALERT (R752). -/
  | thermalAlert
  deriving DecidableEq, Repr

end Sys2Proof
end

