-- ==== Sys2Proof/Decode.lean ====
section
/-! DEFINITION. Reading words: the host's table word (no row of spec/opcode_table.json gives bits), and which 32-bit
instruction words of the ledger core no table defines (05 R198, 06 R230, R231). -/

namespace Sys2Proof

/-- The command a table word spells: no row of the opcode table gives bits, so none. -/
def decodeTableWord (_nbits _w : Nat) : Option Instr := none

/-- Bits hi down to lo of an instruction word. -/
def fld (w : W32) (hi lo : Nat) : Nat := (w.toNat / 2 ^ lo) % 2 ^ (hi - lo + 1)

/-- The d, a and b fields and the function of form A (05 R196). -/
def fldD (w : W32) : Nat := fld w 23 19
def fldA (w : W32) : Nat := fld w 18 14
def fldB (w : W32) : Nat := fld w 13 9
def fldFn (w : W32) : Nat := fld w 8 0

/-- Form A words of 06 with function `fn`, whose unused fields must be zero (06 R231). -/
def formAOk (w : W32) (fn : Nat) (useD useA useB : Bool) : Bool :=
  fldFn w == fn && (useD || fldD w == 0) && (useA || fldA w == 0) && (useB || fldB w == 0)

/-- Whether a word of opcode 0x50 is defined (06 R256, R259; 09 R372). -/
def defined50 (w : W32) : Bool :=
  let fn := fldFn w
  formAOk w 0 true true false || formAOk w 1 true true false || formAOk w 2 true true false
    || formAOk w 3 true true false || formAOk w 4 false true false
    || (0x010 ≤ fn && fn ≤ 0x02F && fldB w == 0 && !(0xB ≤ fn % 16 && fn % 16 ≤ 0xE))
    || formAOk w 0x030 true true false || formAOk w 0x031 true true true
    || ((fn == 0x032 || fn == 0x033 || fn == 0x034) && fldB w == 0)
    || formAOk w 0x040 false true false

/-- A form A word with a function field of a list, and fields the list's instructions use. -/
def formAAny (w : W32) (fns : List Nat) (d a b : Bool) : Bool := fns.any (fun f => formAOk w f d a b)

/-- Whether a word of the decimal and float opcodes 0x80 to 0xBF or of the string opcodes 0xC0 to 0xDF is defined (07, 08),
opcode by opcode as the tables list them. A scale is 0 to 32. -/
def definedCommercial (w : W32) : Bool :=
  let op := fld w 31 24
  let fn := fldFn w
  let scaled := fn % 64 ≤ 32
  match op with
  | 0x80 => formAAny w [0, 1, 2, 3] true true true || formAAny w [8] false true true || formAAny w [9, 0xA] true true false
  | 0x81 | 0x82 => fld w 13 6 == 0 && fld w 5 0 ≤ 32
  | 0x83 => formAAny w [0] true true true
  | 0x84 => formAAny w [0, 1, 2] true true true || formAAny w [3] true true false
  | 0x85 => formAAny w [0, 1, 2] true true false || (fldB w == 0 && fn / 64 == 1 && scaled)
  | 0x86 => fn / 64 ≤ 3 && scaled
  | 0x88 => formAAny w [0, 1, 2, 3, 5, 6, 0xC] true true true || formAAny w [4, 0xA, 0xB, 0x10, 0x11] true true false
  | 0x8C => true
  | 0x90 => formAAny w [0, 1, 2, 3, 6, 0xC] true true true || formAAny w [4, 5, 0xA, 0xB] true true false
  | 0x9C => true
  | 0xA8 | 0xA9 | 0xAA | 0xAB | 0xAC | 0xAD | 0xAE => true
  | 0xB0 => fld w 23 0 == 0
  | 0xC4 | 0xC5 | 0xC6 | 0xC7 => true
  | 0xD8 | 0xD9 | 0xDB | 0xDD => fn == 0
  | 0xDA | 0xDC => fn == 0 && fldA w == 0
  | _ => false

/-- Whether the tables of the manual define an instruction word (05 R196 to R199; 06 R230, R231). The words of the
customer opcodes 0xE0 to 0xEF are defined or not by the package loaded (13). -/
def definedWord (w : W32) : Bool :=
  let op := fld w 31 24
  match op with
  | 0x01 | 0x03 | 0x04 | 0x05 => fld w 23 0 == 0
  | 0x02 | 0x07 => true
  | 0x06 => fld w 23 1 == 0
  | 0x08 =>
    let kind := fld w 23 20
    kind ≤ 6 && ((kind == 1 && fld w 19 0 != 0) || (kind != 1 && fld w 19 0 == 0))
  | 0x09 => formAOk w 0 false true false
  | 0x0A => formAOk w 0 true true false
  | 0x10 => [0, 1, 4, 5, 8, 9].any (fun f => formAOk w f true true true) || formAOk w 0x10 true true false
  | 0x11 | 0x13 => true
  | 0x12 => fldA w == 0
  | 0x20 => [0, 1, 2, 3, 8, 9, 0xA].any (fun f => formAOk w f true true true) || formAOk w 0xC true true false
  | 0x21 | 0x22 | 0x23 => fld w 13 7 == 0
  | 0x24 | 0x25 | 0x26 => true
  | 0x40 => true
  | 0x41 => fld w 19 11 == 0
  | 0x42 | 0x43 => true
  | 0x44 => formAOk w 0 false true false || formAOk w 1 false true false || formAOk w 2 false false false
  | 0x45 => fldD w == 0 && fld w 13 6 == 0
  | 0x50 => defined50 w
  | 0x60 => formAOk w 0 true true true
  | 0x61 | 0x62 | 0x63 | 0x64 | 0x65 => formAOk w 0 true true false
  | 0x66 => formAOk w 0 true true true
  | 0x68 => formAOk w 0 true true false
  | 0x69 => formAOk w 0 false true true
  | 0x6A => formAOk w 0 false true false
  | 0x6B => formAOk w 0 false true true || formAOk w 1 true true false
  | 0xF0 =>
    let i := fld w 23 23; let s := fld w 22 22; let cr := fld w 21 17; let imm := fld w 6 0
    fld w 16 7 == 0 && ((i == 0 && s == 0 && cr == 0 && imm < 64) || (i == 1 && s == 1 && imm == 0))
  | _ => (0x30 ≤ op && op ≤ 0x3F) || (0x80 ≤ op && op ≤ 0xDF && definedCommercial w) || (0xE0 ≤ op && op ≤ 0xEF)

end Sys2Proof
end

