-- ==== Sys2Proof/Machine/Octets.lean ====
section
/-! DEFINITION. Octet strings: byte orders, slices, fields (00 R7), CRC-32C (19 R753). -/

namespace Sys2Proof.Machine

/-- The n octets of a number, least significant first (00 R7). -/
def leBytes : Nat → Nat → Octets
  | 0, _ => []
  | n + 1, v => BitVec.ofNat 8 v :: leBytes n (v / 256)

/-- The number an octet string spells, least significant octet first. -/
def leNat : Octets → Nat
  | [] => 0
  | b :: r => b.toNat + 256 * leNat r

/-- Most significant octet first. -/
def beBytes (n v : Nat) : Octets := (leBytes n v).reverse
def beNat (l : Octets) : Nat := leNat l.reverse

/-- The octets from an offset. -/
def slice (l : Octets) (off len : Nat) : Octets := (l.drop off).take len

/-- The little-endian field at an offset. -/
def fieldAt (l : Octets) (off len : Nat) : Nat := leNat (slice l off len)

/-- n zero octets. -/
def zeros (n : Nat) : Octets := List.replicate n 0

/-- Whether every octet of a range is zero. -/
def zeroAt (l : Octets) (off len : Nat) : Bool := (slice l off len).all (fun b => b == 0)

/-- The string with octets replaced from an offset on. -/
def putAt (l : Octets) (off : Nat) (d : Octets) : Octets := l.take off ++ d ++ l.drop (off + d.length)

/-- Padded with zeros, or cut, to n octets. -/
def padTo (n : Nat) (l : Octets) : Octets := (l ++ zeros (n - l.length)).take n

/-- The 16 octets of a payload (04 R132). -/
def payloadBytes (v : Payload) : Octets := leBytes 16 v.toNat

/-- The payload 16 octets hold (04 R132). -/
def bytesPayload (l : Octets) : Payload := BitVec.ofNat 128 (leNat l)

/-- ASCII text. -/
def ascii (t : String) : Octets := t.toList.map (fun ch => BitVec.ofNat 8 ch.toNat)

/-- One bit step of the reflected CRC-32C. -/
def crcBit (c : BitVec 32) : BitVec 32 :=
  if c.getLsbD 0 then (c >>> 1) ^^^ 0x82F63B78#32 else c >>> 1

/-- Eight bit steps after an octet is taken in. -/
def crcByte (c : BitVec 32) (b : Byte) : BitVec 32 :=
  crcBit (crcBit (crcBit (crcBit (crcBit (crcBit (crcBit (crcBit (c ^^^ b.setWidth 32))))))))

/-- CRC-32C of an octet string (19 R753). -/
def crc32c (l : Octets) : BitVec 32 := ~~~ (l.foldl crcByte 0xFFFFFFFF#32)

/-- CRC-8 of SMBus packet error checking is checked by the port; the operand says whether it was valid (19 R751). -/
def octet (n : Nat) : Byte := BitVec.ofNat 8 n

end Sys2Proof.Machine
end

