-- ==== Sys2Proof/Machine/Aes.lean ====
section
/-! DEFINITION. AES-256 (FIPS 197), its Galois/Counter Mode (SP 800-38D) and the key unwrap of RFC 3394, which the
manual names for links, seal requests, pieces and key loads (14 R577, 16 R646, 17 R664, 18 R709). -/

namespace Sys2Proof.Machine

/-- Multiplication by x in the AES field. -/
def xtime (a : Byte) : Byte := (a <<< 1) ^^^ (if a.getLsbD 7 then 0x1b else 0)

/-- Multiplication in the AES field. -/
def gmul (a b : Byte) : Byte :=
  ((List.range 8).foldl (fun (acc, x) i => (if b.getLsbD i then acc ^^^ x else acc, xtime x)) ((0 : Byte), a)).1

/-- The inverse in the AES field, zero for zero: the 254th power. -/
def ginv (a : Byte) : Byte :=
  let a2 := gmul a a; let a4 := gmul a2 a2; let a8 := gmul a4 a4; let a16 := gmul a8 a8
  let a32 := gmul a16 a16; let a64 := gmul a32 a32; let a128 := gmul a64 a64
  gmul a2 (gmul a4 (gmul a8 (gmul a16 (gmul a32 (gmul a64 a128)))))

/-- The S-box. -/
def sbox (a : Byte) : Byte :=
  let b := ginv a
  b ^^^ b.rotateLeft 1 ^^^ b.rotateLeft 2 ^^^ b.rotateLeft 3 ^^^ b.rotateLeft 4 ^^^ 0x63

/-- The inverse S-box: the octet whose S-box value is given. -/
def invSbox (a : Byte) : Byte :=
  ginv (a.rotateLeft 1 ^^^ a.rotateLeft 3 ^^^ a.rotateLeft 6 ^^^ 0x05)

def xorOctets (a b : Octets) : Octets := (a.zip b).map (fun (x, y) => x ^^^ y)

/-- The words of the AES-256 key schedule, newest first. -/
def keyWords : Nat → Nat → Byte → List Octets → List Octets
  | 0, _, _, ws => ws
  | n + 1, i, rcon, ws =>
    let prev := ws.getD 0 []
    let back := ws.getD 7 []
    let t := if i % 8 = 0 then
        match prev with
        | [a, b, c, d] => [sbox b ^^^ rcon, sbox c, sbox d, sbox a]
        | p => p
      else if i % 8 = 4 then prev.map sbox else prev
    keyWords n (i + 1) (if i % 8 = 0 then xtime rcon else rcon) (xorOctets back t :: ws)

/-- The fifteen round keys of AES-256. -/
def roundKeys (key : Octets) : List Octets :=
  let ws := (keyWords 52 8 1 ((List.range 8).map (fun i => slice key (4 * i) 4)).reverse).reverse
  (List.range 15).map (fun i => ((ws.drop (4 * i)).take 4).flatten)

/-- Row shift by columns: octet 4c + r comes from column c + r. -/
def shiftRows (s : Octets) : Octets := (List.range 16).map (fun i => s.getD (4 * ((i / 4 + i % 4) % 4) + i % 4) 0)
def invShiftRows (s : Octets) : Octets := (List.range 16).map (fun i => s.getD (4 * ((i / 4 + 4 - i % 4) % 4) + i % 4) 0)

/-- One column times a circulant row. -/
def mixWith (k : List Byte) (s : Octets) : Octets :=
  (List.range 16).map fun i =>
    let c := i / 4; let r := i % 4
    (List.range 4).foldl (fun acc j => acc ^^^ gmul (k.getD ((j + 4 - r) % 4) 0) (s.getD (4 * c + j) 0)) 0

/-- AES-256 of one block. -/
def aesEnc (rks : List Octets) (blk : Octets) : Octets :=
  let s0 := xorOctets blk (rks.getD 0 [])
  let s := (List.range 13).foldl
    (fun s i => xorOctets (mixWith [2, 3, 1, 1] (shiftRows (s.map sbox))) (rks.getD (i + 1) [])) s0
  xorOctets (shiftRows (s.map sbox)) (rks.getD 14 [])

/-- The inverse cipher of one block. -/
def aesDec (rks : List Octets) (blk : Octets) : Octets :=
  let s0 := (invShiftRows (xorOctets blk (rks.getD 14 []))).map invSbox
  let s := (List.range 13).foldl
    (fun s i => (invShiftRows (mixWith [14, 11, 13, 9] (xorOctets s (rks.getD (13 - i) [])))).map invSbox) s0
  xorOctets s (rks.getD 0 [])

/-- Multiplication in GHASH's field; bit 0 is the most significant. -/
def ghMul (x y : BitVec 128) : BitVec 128 :=
  ((List.range 128).foldl
    (fun (z, v) i =>
      (if x.getMsbD i then z ^^^ v else z, (v >>> 1) ^^^ (if v.getLsbD 0 then 0xE1000000000000000000000000000000#128 else 0)))
    ((0 : BitVec 128), y)).1

/-- GHASH of whole blocks. -/
def ghash (h : BitVec 128) (d : Octets) : BitVec 128 :=
  (List.range (d.length / 16)).foldl (fun y i => ghMul (y ^^^ BitVec.ofNat 128 (beNat (slice d (16 * i) 16))) h) 0

/-- Padded to whole blocks. -/
def pad16 (l : Octets) : Octets := l ++ zeros ((16 - l.length % 16) % 16)

/-- Counter mode from a counter block's last word on. -/
def ctrXor (rks : List Octets) (iv : Octets) (ctr : Nat) (d : Octets) : Octets :=
  let ks := (List.range ((d.length + 15) / 16)).flatMap (fun i => aesEnc rks (iv ++ beBytes 4 (ctr + i)))
  xorOctets d ks

/-- The GCM tag of a ciphertext. -/
def gcmTag (rks : List Octets) (iv aad ct : Octets) : Octets :=
  let h := BitVec.ofNat 128 (beNat (aesEnc rks (zeros 16)))
  let y := ghash h (pad16 aad ++ pad16 ct ++ beBytes 8 (8 * aad.length) ++ beBytes 8 (8 * ct.length))
  xorOctets (beBytes 16 y.toNat) (aesEnc rks (iv ++ beBytes 4 1))

/-- AES-256-GCM with a 96-bit nonce: ciphertext and tag. -/
def gcmSeal (key iv aad pt : Octets) : Octets × Octets :=
  let rks := roundKeys key
  let ct := ctrXor rks iv 2 pt
  (ct, gcmTag rks iv aad ct)

/-- AES-256-GCM opened: none where the tag fails. -/
def gcmOpen (key iv aad ct tag : Octets) : Option Octets :=
  let rks := roundKeys key
  if gcmTag rks iv aad ct = tag then some (ctrXor rks iv 2 ct) else none

/-- One step of RFC 3394's unwrap: block i of round j. -/
def unwrapStep (rks : List Octets) (n : Nat) (st : Octets × List Octets) (t : Nat) : Octets × List Octets :=
  let i := (t - 1) % n
  let a := xorOctets st.1 (beBytes 8 t)
  let b := aesDec rks (a ++ st.2.getD i [])
  (b.take 8, st.2.set i (b.drop 8))

/-- RFC 3394 key unwrap: none where the integrity check fails. -/
def keyUnwrap (kek w : Octets) : Option Octets :=
  let n := w.length / 8 - 1
  let rks := roundKeys kek
  let r0 := (List.range n).map (fun i => slice w (8 * (i + 1)) 8)
  let st := (List.range (6 * n)).foldl (fun st j => unwrapStep rks n st (6 * n - j)) (w.take 8, r0)
  if st.1 = List.replicate 8 0xA6 then some st.2.flatten else none

end Sys2Proof.Machine
end

