-- ==== Sys2Proof/Machine/Hash.lean ====
section
/-! DEFINITION. The hash functions the manual names: SHA-256, SHA-384 (FIPS 180-4), HMAC (RFC 2104), HKDF-SHA-384
(RFC 5869) and the Merkle tree hash of RFC 9162 (14 R550). -/

namespace Sys2Proof.Machine

/-- The message padded for a hash with blocks of `blk` octets and a length field of `lf` octets. -/
def shaPad (blk lf : Nat) (m : Octets) : Octets :=
  m ++ [0x80] ++ zeros ((blk - (m.length + 1 + lf) % blk) % blk) ++ beBytes lf (8 * m.length)

/-- Big-endian words of w octets. -/
def beWords (w : Nat) (l : Octets) : List Nat :=
  (List.range (l.length / w)).map (fun i => beNat (slice l (w * i) w))

/-- The first primes, from whose roots the constants are taken (FIPS 180-4). -/
def primes80 : List Nat :=
  [2, 3, 5, 7, 11, 13, 17, 19, 23, 29, 31, 37, 41, 43, 47, 53, 59, 61, 67, 71, 73, 79, 83, 89, 97, 101, 103, 107, 109,
   113, 127, 131, 137, 139, 149, 151, 157, 163, 167, 173, 179, 181, 191, 193, 197, 199, 211, 223, 227, 229, 233, 239,
   241, 251, 257, 263, 269, 271, 277, 281, 283, 293, 307, 311, 313, 317, 331, 337, 347, 349, 353, 359, 367, 373, 379,
   383, 389, 397, 401, 409]

/-- The integer p-th root by bisection over `n` bits. -/
def rootBits (p x : Nat) : Nat → Nat → Nat
  | 0, acc => acc
  | n + 1, acc => if (acc + 2 ^ n) ^ p ≤ x then rootBits p x n (acc + 2 ^ n) else rootBits p x n acc

/-- The first w bits of the fractional part of the p-th root of x. -/
def fracRoot (p w x : Nat) : Nat := rootBits p (x * 2 ^ (p * w)) (w + 8) 0 % 2 ^ w

/-- The round constants: cube roots. -/
def shaK (w n : Nat) : List Nat := (primes80.take n).map (fracRoot 3 w)

/-- SHA-256's initial value: square roots of the first eight primes. -/
def sha256H0 : List Nat := (primes80.take 8).map (fracRoot 2 32)

/-- SHA-384's initial value: square roots of the ninth to sixteenth primes. -/
def sha384H0 : List Nat := ((primes80.drop 8).take 8).map (fracRoot 2 64)

/-- Rotation and shift amounts of a SHA-2 function. -/
structure ShaParams where
  w : Nat
  rounds : Nat
  bigA : Nat × Nat × Nat
  bigE : Nat × Nat × Nat
  small0 : Nat × Nat × Nat
  small1 : Nat × Nat × Nat
  k : List Nat

/-- Rotate right within w bits. -/
def rotr (w n x : Nat) : Nat := (x >>> n) ||| ((x <<< (w - n)) % 2 ^ w)

/-- Three rotations exclusive-or'd. -/
def rot3 (w : Nat) (t : Nat × Nat × Nat) (x : Nat) : Nat := rotr w t.1 x ^^^ rotr w t.2.1 x ^^^ rotr w t.2.2 x

/-- Two rotations and a shift exclusive-or'd. -/
def rot2s (w : Nat) (t : Nat × Nat × Nat) (x : Nat) : Nat := rotr w t.1 x ^^^ rotr w t.2.1 x ^^^ (x >>> t.2.2)

/-- The message schedule, newest word first. -/
def shaSched (p : ShaParams) : Nat → List Nat → List Nat
  | 0, ws => ws
  | n + 1, ws =>
    let at_ := fun i => ws.getD i 0
    shaSched p n ((rot2s p.w p.small1 (at_ 1) + at_ 6 + rot2s p.w p.small0 (at_ 14) + at_ 15) % 2 ^ p.w :: ws)

/-- One round over the eight working variables. -/
def shaRound (p : ShaParams) (v : List Nat) (kw : Nat × Nat) : List Nat :=
  match v with
  | [a, b, c, d, e, f, g, h] =>
    let m := 2 ^ p.w
    let ch := (e &&& f) ^^^ ((m - 1 - e) &&& g)
    let maj := (a &&& b) ^^^ (a &&& c) ^^^ (b &&& c)
    let t1 := h + rot3 p.w p.bigE e + ch + kw.1 + kw.2
    let t2 := rot3 p.w p.bigA a + maj
    [(t1 + t2) % m, a, b, c, (d + t1) % m, e, f, g]
  | v => v

/-- One block. -/
def shaBlock (p : ShaParams) (h : List Nat) (blk : List Nat) : List Nat :=
  let ws := (shaSched p (p.rounds - 16) blk.reverse).reverse
  let v := (p.k.zip ws).foldl (shaRound p) h
  (h.zip v).map (fun (a, b) => (a + b) % 2 ^ p.w)

/-- A SHA-2 hash over blocks of 16 words. -/
def shaHash (p : ShaParams) (h0 : List Nat) (m : Octets) : Octets :=
  let wo := p.w / 8
  let d := shaPad (16 * wo) (2 * wo) m
  let hs := (List.range (d.length / (16 * wo))).foldl (fun h i => shaBlock p h (beWords wo (slice d (16 * wo * i) (16 * wo)))) h0
  hs.flatMap (beBytes wo)

def sha256Params : ShaParams := ⟨32, 64, (2, 13, 22), (6, 11, 25), (7, 18, 3), (17, 19, 10), shaK 32 64⟩
def sha512Params : ShaParams := ⟨64, 80, (28, 34, 39), (14, 18, 41), (1, 8, 7), (19, 61, 6), shaK 64 80⟩

/-- SHA-256. -/
def sha256 (m : Octets) : Octets := shaHash sha256Params sha256H0 m

/-- SHA-384. -/
def sha384 (m : Octets) : Octets := (shaHash sha512Params sha384H0 m).take 48

/-- HMAC with a hash of block size `blk`. -/
def hmac (h : Octets → Octets) (blk : Nat) (key m : Octets) : Octets :=
  let k := padTo blk (if key.length > blk then h key else key)
  h (k.map (· ^^^ 0x5c) ++ h (k.map (· ^^^ 0x36) ++ m))

def hmacSha256 (key m : Octets) : Octets := hmac sha256 64 key m
def hmacSha384 (key m : Octets) : Octets := hmac sha384 128 key m

/-- The first 32 octets of HKDF-SHA-384 (RFC 5869): one expansion block suffices. -/
def hkdf384 (salt ikm info : Octets) : Octets :=
  (hmacSha384 (hmacSha384 salt ikm) (info ++ [1])).take 32

/-- A leaf hash and a node hash (14 R550). -/
def leafHash (d : Octets) : Octets := sha256 (0x00 :: d)
def nodeHash (l r : Octets) : Octets := sha256 (0x01 :: (l ++ r))

/-- The largest power of two below n, for n above 1. -/
def splitPoint (n : Nat) : Nat := 2 ^ (Nat.log2 (n - 1))

/-- The Merkle tree hash of leaf hashes (14 R550); `fuel` bounds the depth. -/
def merkle : Nat → List Octets → Octets
  | _, [] => sha256 []
  | _, [h] => h
  | 0, h :: _ => h
  | fuel + 1, hs => nodeHash (merkle fuel (hs.take (splitPoint hs.length))) (merkle fuel (hs.drop (splitPoint hs.length)))

/-- The root of a span's leaves (14 R550). -/
def spanRoot (leaves : List Octets) : Octets := merkle 17 (leaves.map leafHash)

/-- The inclusion path of leaf m, leaf end first (RFC 9162; 14 R597). -/
def merklePath : Nat → Nat → List Octets → List Octets
  | 0, _, _ => []
  | fuel + 1, m, hs =>
    if hs.length ≤ 1 then [] else
      let k := splitPoint hs.length
      if m < k then merklePath fuel m (hs.take k) ++ [merkle 17 (hs.drop k)]
      else merklePath fuel (m - k) (hs.drop k) ++ [merkle 17 (hs.take k)]

end Sys2Proof.Machine
end

