-- ==== Sys2Proof/Machine/Ecc.lean ====
section
/-! DEFINITION. P-384 (FIPS 186-5): public keys, ECDSA over a digest, ECDH (14 R551, R592; 16 R646; 17 R665, R824). -/

namespace Sys2Proof.Machine

def p384P : Nat := 2 ^ 384 - 2 ^ 128 - 2 ^ 96 + 2 ^ 32 - 1
def p384N : Nat :=
  0xffffffffffffffffffffffffffffffffffffffffffffffffc7634d81f4372ddf581a0db248b0a77aecec196accc52973
def p384B : Nat :=
  0xb3312fa7e23ee7e4988e056be3f82d19181d9c6efe8141120314088f5013875ac656398d8a2ed19d2a85c8edd3ec2aef
def p384G : Nat × Nat :=
  (0xaa87ca22be8b05378eb1c71ef320ad746e1d3b628ba79b9859f741e082542a385502f25dbf55296c3a545e3872760ab7,
   0x3617de4a96262c6f5d9e98bf9292dc29f8f41dbd289a147ce9da3113b5f0b8c00a60b1ce1d7e819d7a431d7c90ea0e5f)

/-- Power modulo m by squaring, over `n` bits of the exponent. -/
def powMod (m b : Nat) : Nat → Nat → Nat
  | 0, _ => 1 % m
  | n + 1, e => let h := powMod m (b * b % m) n (e / 2); if e % 2 = 1 then h * b % m else h

/-- The inverse modulo a prime. -/
def invMod (m a : Nat) : Nat := powMod m (a % m) 384 (m - 2)

/-- A point; none is the point at infinity. -/
abbrev Point := Option (Nat × Nat)

/-- Addition of points. -/
def ptAdd (a b : Point) : Point :=
  match a, b with
  | none, q => q
  | q, none => q
  | some (x1, y1), some (x2, y2) =>
    let p := p384P
    if x1 = x2 ∧ (y1 + y2) % p = 0 then none else
      let l := if x1 = x2 then (3 * x1 * x1 + (p - 3)) * invMod p (2 * y1) % p
        else (y2 + p - y1) * invMod p (x2 + p - x1) % p
      let x3 := (l * l + 2 * p - x1 - x2) % p
      some (x3, (l * (x1 + p - x3) + p - y1) % p)

/-- A multiple of a point, over `n` bits of the scalar. -/
def ptMul (q : Point) : Nat → Nat → Point
  | 0, _ => none
  | n + 1, k => let h := ptMul (ptAdd q q) n (k / 2); if k % 2 = 1 then ptAdd h q else h

/-- The 97-octet uncompressed form of a point (17 R824). -/
def ptOctets : Point → Octets
  | none => zeros 97
  | some (x, y) => 0x04 :: (beBytes 48 x ++ beBytes 48 y)

/-- The point an uncompressed form spells, if it lies on the curve. -/
def ptOf (l : Octets) : Point :=
  let x := beNat (slice l 1 48); let y := beNat (slice l 49 48)
  if l.length = 97 ∧ l.head? = some 0x04 ∧ x < p384P ∧ y < p384P
      ∧ y * y % p384P = (x * x * x + (p384P - 3) * x + p384B) % p384P then some (x, y) else none

/-- The public key of a private key. -/
def ecPublic (priv : Octets) : Octets := ptOctets (ptMul (some p384G) 384 (beNat priv))

/-- The KEY_ID of a P-384 public key (17 R824). -/
def keyIdOf (pub : Octets) : Octets := (sha256 pub).take 16

/-- ECDSA verification of r and s over a 48-octet digest. -/
def ecdsaVerify (pub digest sig : Octets) : Bool :=
  let r := beNat (sig.take 48); let s := beNat (slice sig 48 48)
  match ptOf pub with
  | none => false
  | some q =>
    if sig.length = 96 ∧ 1 ≤ r ∧ r < p384N ∧ 1 ≤ s ∧ s < p384N then
      let w := invMod p384N s
      let u1 := beNat digest * w % p384N; let u2 := r * w % p384N
      match ptAdd (ptMul (some p384G) 384 u1) (ptMul (some q) 384 u2) with
      | none => false
      | some (x, _) => x % p384N = r
    else false

/-- ECDSA signature of a digest under a private key with a nonce's octets (log entry 15). -/
def ecdsaSign (priv nonce digest : Octets) : Octets :=
  let k := beNat nonce % (p384N - 1) + 1
  match ptMul (some p384G) 384 k with
  | none => zeros 96
  | some (x, _) =>
    let r := x % p384N
    let s := invMod p384N k * (beNat digest + r * beNat priv) % p384N
    beBytes 48 r ++ beBytes 48 s

/-- The ECDH secret: the x-coordinate, none where the peer's key is no point. -/
def ecdh (priv pub : Octets) : Option Octets :=
  match ptOf pub with
  | none => none
  | some q => match ptMul (some q) 384 (beNat priv) with
    | none => none
    | some (x, _) => some (beBytes 48 x)

/-- Whether a signature over a message's SHA-384 verifies. -/
def sigOk (pub msg sig : Octets) : Bool := ecdsaVerify pub (sha384 msg) sig

end Sys2Proof.Machine
end

