-- ==== Sys2Proof/Config.lean ====
section
/-! DEFINITION. What an implementation fixes and the spec leaves open: the free values. None has a body a proof can
see (they are opaque), so a claim holds whatever they are. -/

namespace Sys2Proof

/-- Fresh random octets: nonces, challenges, ephemeral private keys, generated private keys and ECDSA nonces
(16 R631, 17 R670, 17 R681, 14 R592). The argument is State.freeCtr. Log entry 15. -/
opaque Config.freeOctet : Nat → Byte

/-- The verdict on an X.509 certificate under an issuer's public key (17 R669, 14 R591): the subject's public key, or
none where the certificate fails. The spec fixes X.509 in DER and gives no profile. Log entry 16. -/
opaque Config.x509Subject : (issuer : Octets) → (cert : Octets) → Option Octets

/-- The serialNumber of a certificate (15 R624). Log entry 16. -/
opaque Config.x509Serial : Octets → Octets

/-- The notBefore time of a certificate in seconds since 1970 (15 R614). Log entry 16. -/
opaque Config.x509NotBefore : Octets → Nat

/-- A value the spec leaves open where the machine goes on. The arguments are a tag of the place and State.freeCtr.
Log entry 17. -/
opaque Config.freeValue : Nat → Nat → Nat

/-- The private keys made at manufacture for key slots 1 and 2 (17 R662): 48 octets each. Log entry 12. -/
opaque Config.manufactureKey : (slot : Nat) → Octets

/-- The device's manufacture certificate, X.509 in DER (17 R662). Log entry 12. -/
opaque Config.manufactureCert : Octets

/-- The Sudithar public keys in boot ROM (17 R661): device CA, enrolment, microcode, cartridge root, vendor update,
debug, by a number from 0 to 5; 97 octets each. Log entry 12. -/
opaque Config.romKey : (which : Nat) → Octets

/-- The octets of a part of the set a module is shipped with, by TYPE (18 R700). Log entry 4. -/
opaque Config.shippedPart : (typ : Nat) → Octets

/-- The initial bench memory of a core from the SUPERVISOR part's octets (18 R700; 19 R742 step 8): the spec gives the part no
format. Log entry 90. -/
opaque Config.supervisorBench : (part : Octets) → (core : Nat) → Octets

end Sys2Proof
end

