-- ==== Sys2Proof/Machine/SMap.lean ====
section
/-! DEFINITION. The sparse table: a list of (key, value) pairs with strictly rising keys and no pair whose value is what
an unlisted key reads as, so that equal tables are equal lists. Memories, frame tables and rings are held this way. -/

namespace Sys2Proof.Machine

/-- A sparse table over natural keys. -/
abbrev SMap (α : Type) := List (Nat × α)

namespace SMap

variable {α : Type}

/-- The value at a key; `d` is what an unlisted key reads as. -/
def get (d : α) : SMap α → Nat → α
  | [], _ => d
  | (k', v) :: m, k => if k' = k then v else get d m k

/-- The table without a key. -/
def erase : SMap α → Nat → SMap α
  | [], _ => []
  | (k', v) :: m, k => if k' = k then m else (k', v) :: erase m k

/-- The table with a pair put at its place. -/
def insert : SMap α → Nat → α → SMap α
  | [], k, v => [(k, v)]
  | (k', v') :: m, k, v =>
    if k < k' then (k, v) :: (k', v') :: m
    else if k = k' then (k, v) :: m
    else (k', v') :: insert m k v

/-- Writing a value: the canonical form is kept, so writing what an unlisted key reads as removes the pair. -/
def set [DecidableEq α] (d : α) (m : SMap α) (k : Nat) (v : α) : SMap α :=
  if v = d then erase m k else insert m k v

/-- Every key is above a bound, keys rise strictly and no value is the default. -/
def wfFrom [DecidableEq α] (d : α) : Option Nat → SMap α → Bool
  | _, [] => true
  | lo, (k, v) :: m => (match lo with | none => true | some b => decide (b < k)) && decide (v ≠ d) && wfFrom d (some k) m

/-- The canonical form. -/
def wf [DecidableEq α] (d : α) (m : SMap α) : Bool := wfFrom d none m

end SMap

end Sys2Proof.Machine
end

