-- ==== Sys2Proof/Machine/CoreState.lean ====
section
/-! DEFINITION. The state of a ledger core: tagged values, frame entries, banks, jobs, entries in progress (04, 05, 09). -/

namespace Sys2Proof.Machine

/-- A register or granule: 4-bit tag and 128-bit payload (04 R130, R131). -/
structure TVal where
  tag : BitVec 4
  val : Payload
  deriving DecidableEq, Repr

/-- Tag RAW, payload zero: what registers and memories hold at reset (04 R135, 12 R494). -/
def TVal.zero : TVal := ⟨0, 0⟩

/-- The states of a frame (12 R488). -/
inductive FrameSt where
  | free | data | code
  deriving DecidableEq, Repr

/-- A frame entry (12 R488). -/
structure FrameEntry where
  key : BitVec 4
  fp  : Bool
  st  : FrameSt
  deriving DecidableEq, Repr

/-- The reset value of a frame entry (12 R488). -/
def FrameEntry.zero : FrameEntry := ⟨0, false, .free⟩

/-- The core's copy of LEVEL, TARGET and FLAGS.WAKE of an event source (09 R375). -/
structure EvCopy where
  level  : Nat
  target : Nat
  wake   : Bool
  deriving DecidableEq, Repr

/-- A disabled source (09 R368). -/
def EvCopy.zero : EvCopy := ⟨0, 0, false⟩

/-- A pending event source: its number, its detail, and the bank it targets (09 R368, R373, R380). -/
structure Pending where
  src    : Nat
  detail : Nat
  bank   : BankId
  deriving DecidableEq, Repr

/-- The resource figures of a cost certificate (02 R48). -/
structure Cert where
  cls         : Nat
  serial      : Nat
  ctrl        : Bool
  data        : Bool
  bankPri     : Nat
  coreCyc     : Nat
  waitCyc     : Nat
  vecCyc      : Nat
  scrRec      : Nat
  movBytes    : Nat
  notBefore   : Nat
  notAfter    : Nat
  imageDigest : Octets
  deriving DecidableEq, Repr

/-- A consumed descriptor that runs as a job (02 R68): its place in the order of consumption, the ring, its HEAD count,
the span, the descriptor whole and the certificate it was admitted under. -/
structure Job where
  id    : Nat
  ring  : Nat
  count : W32
  span  : Nat
  desc  : Octets
  cert  : Cert
  deriving DecidableEq, Repr

/-- A job dispatched into a bank, with what it has used of its certificate (02 R72). -/
structure JobRun where
  job     : Job
  vecUsed : Nat
  movUsed : Nat
  scrUsed : Nat
  deriving DecidableEq, Repr

/-- The queues of 06 R269 a bank may wait for. -/
inductive QueueKind where
  | scribe | chains | moves | draw | seal | receipt
  deriving DecidableEq, Repr

/-- What a BLOCKED bank waits for (09 R406, 06 R269). -/
inductive Wait where
  | event
  | until (clock : Nat)
  | chains | moves | seals
  | queue (q : QueueKind)
  deriving DecidableEq, Repr

/-- The states of a task bank (09 R401). -/
inductive BankSt where
  | free | ready | running | blocked | frozen
  deriving DecidableEq, Repr

/-- A pending imprecise float record (07 R308). -/
structure FptRec where
  pc    : W32
  flags : BitVec 5
  mode  : Bool
  mask  : BitVec 4
  deriving DecidableEq, Repr

/-- A held chain fault (10 R445, R446). -/
structure VFault where
  cause  : Nat
  addr   : W32
  handle : W32
  deriving DecidableEq, Repr

/-- A bank of a core: its registers and its copies of the control registers (05 R167 to R177), and what the scheduler and the
engines keep for it (09 R401 to R405). `buffered` says that its hardware loop was running from the loop buffer when another bank
took the core (05 R221); `heldBudget` holds the BUDGET causes not yet entered, the earliest first; `vposKept` holds the SEQ and
the progress of the oldest chain that has ended STOPPED or ABANDONED (10 R442); `lastFault` is the vector and cause of the
bank's last fault (09 R394, R410). -/
structure Bank where
  regs   : Vector TVal 104
  pc     : W32
  tsw    : W64
  tsbr   : W32
  svcp   : W32
  svct   : W64
  splp   : W32
  spll   : W32
  fpsf   : W32
  lcnt   : W32
  lend   : W32
  vpos   : BitVec 96
  vposKept : Option (W16 × BitVec 96)
  cycb   : W32
  st     : BankSt
  wait   : Option Wait
  readySince  : Nat
  preemptedBy : Option BankId
  selfBlocked : Bool
  buffered : Bool
  charge : Bool
  job    : Option JobRun
  fpt    : Option FptRec
  heldBudget  : List Nat
  heldV       : List VFault
  budgetDue   : Bool
  budgetTaken : Option (Nat × Nat)
  chainSeq : W16
  moverSeq : W16
  drawSeq  : W16
  sealSeq  : W16
  rcptSeq  : W16
  lastFault : Nat × Nat
  deferred  : Option Nat
  deriving DecidableEq, Repr

/-- The reset TSW: MODE 1, MASK 15, WVAL 1, every other field 0 (05 R174). -/
def tswReset : W64 := 0x8780010000000000

/-- A bank at reset, in a given scheduler state (04 R135, 05 R174, R179). -/
def Bank.reset (st : BankSt) : Bank where
  regs := Vector.replicate 104 TVal.zero
  pc := 0
  tsw := tswReset
  tsbr := 0
  svcp := 0
  svct := 0
  splp := 0
  spll := 0
  fpsf := 0
  lcnt := 0
  lend := 0
  vpos := 0
  vposKept := none
  cycb := 0
  st := st
  wait := none
  readySince := 0
  preemptedBy := none
  selfBlocked := false
  buffered := false
  charge := false
  job := none
  fpt := none
  heldBudget := []
  heldV := []
  budgetDue := false
  budgetTaken := none
  chainSeq := 0
  moverSeq := 0
  drawSeq := 0
  sealSeq := 0
  rcptSeq := 0
  lastFault := (0, 0)
  deferred := none

/-- What bank T is doing (09 R365, R393). -/
inductive Service where
  | wovf | wunf | esc
  deriving DecidableEq, Repr

/-- What an entry delivers (09 R361, R364, R380): a synchronous fault, BREAK among them; a held BUDGET; a held VFAULT;
an event source; a machine check; an escalation left by a dispatch whose HDT entry or TSB fails its check (09 R408). -/
inductive EntryKind where
  | fault | budget | vfault | event | mcheck
  deriving DecidableEq, Repr

/-- An entry in progress (09 R382 to R386): the fields its frame gets, and whether the frame is already written and
the entry waits at C7 for a spill. -/
structure Entering where
  kind    : EntryKind
  bank    : BankId
  vector  : Nat
  cause   : W16
  addr    : W32
  xpc     : W32
  info    : W16
  savedPc : W32
  isPartial : Bool
  takenOver : Bool
  spanCyc : W32
  atC7    : Bool
  deriving DecidableEq, Repr

/-- A result of a long unit on its way to the completion port (05 R205, R206): the bank and register that get it (none once a
window advance or a dispatch has cleared that register, 05 R170), and for a float the sticky flags and trap record it brings (07
R306 to R308). -/
structure PortEntry where
  bank  : BankId
  slot  : Option (Fin 104)
  val   : TVal
  flags : BitVec 5
  fpt   : Option FptRec
  deriving DecidableEq, Repr

/-- A pending machine check: the bank it is delivered to and its frame fields (09 R371, R381). -/
structure MCheckPend where
  bank      : BankId
  isPartial : Bool
  addr      : W32
  octets    : W16
  deriving DecidableEq, Repr

/-- A ledger core (05, 09). `micro` holds the microwords that a debug write has put in place of the package's (17 R679);
`badWords` are the micro-addresses whose words were found uncorrectable since the core's last reset (13 R520); `capZero` says
that a halt requested before this sill gives the core no data capacity in it (17 R683); `step` lets a halted core take one step
(17 R679); `loopOwner` names the bank whose loop the loop buffer takes, and whether it holds the whole body (05 R218); `loaded`
the register that the instruction before loaded from bench memory (05 R203). -/
structure Core where
  banks   : Vector Bank 17
  running : Option BankId
  tActive : Bool
  service : Service
  served  : BankId
  stopped : Bool
  haltReq : Bool
  step    : Bool
  halted  : Bool
  capZero : Bool
  held    : Bool
  p2stopped : Bool
  serviceMode : Bool
  loopOwner : Option (BankId × Bool)
  loaded  : Option (BankId × Fin 104)
  hdtr  : W32
  svce  : W32
  bwin  : W32
  mcver : W32
  ev    : SMap EvCopy
  pend  : List Pending
  mcheck : Option MCheckPend
  entering : Option Entering
  port  : List PortEntry
  jobQueue : List Job
  frames : SMap FrameEntry
  bench : SMap TVal
  micro : SMap (Option W32)
  badWords : List Nat
  deriving DecidableEq, Repr

/-- A core at reset (05 R174, R177, R214; 09 R401): bank 0 READY, banks 1 to 15 FREE, plain mode. `held` says whether
the core is held in reset. Log entries 4, 5 and 6. -/
def Core.reset (held : Bool) (mcver : W32) : Core where
  banks := (Vector.replicate 17 (Bank.reset .free)).set 0 (Bank.reset .ready)
  running := none
  tActive := false
  service := .esc
  served := 0
  stopped := false
  haltReq := false
  step := false
  halted := false
  capZero := false
  held := held
  p2stopped := false
  serviceMode := false
  loopOwner := none
  loaded := none
  hdtr := 0
  svce := 0
  bwin := 0
  mcver := mcver
  ev := []
  pend := []
  mcheck := none
  entering := none
  port := []
  jobQueue := []
  frames := []
  bench := []
  micro := []
  badWords := []

end Sys2Proof.Machine
end

