-- ==== Sys2Proof/Machine/HostState.lean ====
section
/-! DEFINITION. What the block sends, and the state of the host interface and of admission: rings, completions, interrupts, ring-0 registers, the
admission settings and the sums of a sill (02, 03, 21). -/

namespace Sys2Proof.Machine

/-- The lands that sequence the cartridge port (20 R791). -/
inductive CartLand where
  | cpwren | crefclk | cperstN
  deriving DecidableEq, Repr

/-- What the block sends to the outside (the model's own record, log entry 14): writes to host memory, read requests,
MSI-X messages, chain frames, pause frames, regulator frames, replies over SMBus, BAR0 and the debug port, appends to the
cartridge and its label records, SPDM requests to it, and the changes of its port's lands (CPWREN high, CREFCLK running, CPERST_N
released, or the reverse). -/
inductive Emission where
  | hostWrite (addr : Nat) (data : Octets)
  | hostRead (addr len : Nat)
  | msix (vector : Nat) (addr : W64) (data : W32)
  | frame (port : Port) (eth : Octets) (hdr : ChainHdr) (body tag : Octets)
  | regFrame (eth payload : Octets)
  | reply (data : Octets)
  | nack
  | cartAppend (zone : Nat) (lba : Octets)
  | cartClose (zone : Nat)
  | cartSpdm (request : Octets)
  | cartLand (land : CartLand) (up : Bool)
  | releveled (millivolts : Nat)
  deriving DecidableEq, Repr

/-- The states of a ring (03 R105). -/
inductive RingSt where
  | absent | active | stopped | faulted
  deriving DecidableEq, Repr

/-- A ring context (03 R116). -/
structure RingCtx where
  subBase  : W64
  cplBase  : W64
  subOrder : Nat
  cplOrder : Nat
  pri      : Nat
  group    : Nat
  quota    : Nat
  msixVec  : Nat
  modCount : Nat
  modTime  : Nat
  winBase  : W64
  winLimit : W64
  deriving DecidableEq, Repr

/-- The context of a ring that does not exist. -/
def RingCtx.zero : RingCtx := ⟨0, 0, 0, 0, 0, 0, 0, 0, 0, 0, 0, 0⟩

/-- A ring (03 R86, R105, R116, R123; 02 R62 to R65). `gen` counts how often its counts were zeroed; `fresh` says that
the ring was created or started in this sill (03 R109); `fetched` holds the descriptors read in this sill, the first at
count HEAD; `decided` counts the descriptors decided in this sill and `refused` says one was refused in it (02 R62);
`refusals` counts the consecutive sills in which the head descriptor was refused, anew from its promotion mark on; `aged` is the
place in the order of ageing. -/
structure Ring where
  st         : RingSt
  ctx        : RingCtx
  head       : W32
  tail       : W32
  cplWritten : W32
  cplHead    : W32
  gen        : Nat
  u          : Nat
  t0         : Nat
  refusals   : Nat
  promoted   : Bool
  aged       : Option Nat
  fresh      : Bool
  fetched    : List Octets
  decided    : Nat
  refused    : Bool
  deriving DecidableEq, Repr

/-- A ring that is ABSENT. -/
def Ring.absent : Ring :=
  ⟨.absent, RingCtx.zero, 0, 0, 0, 0, 0, 0, 0, 0, false, none, false, [], 0, false⟩

/-- A completion promised to the host (03 R99, R104): the order of its consumption, its fields, and the rings whose
earlier completions must be written first (03 R112: ring, HEAD count, generation). `journalled` says that its DURABILITY
is that of its span; `byDispatch` that WAIT DISPATCH ended its job (12 R516). -/
structure Cpl where
  order   : Nat
  ring    : Nat
  count   : W32
  tag     : W32
  span    : Nat
  status  : Nat
  detail  : Nat
  resBytes : Nat
  jobWord : W32
  records : Nat
  irq     : Bool
  journalled : Bool
  durability : Nat
  after   : List (Nat × W32 × Nat)
  byDispatch : Bool
  deriving DecidableEq, Repr

/-- A consumed device command not yet carried out (03 R108, R113), with its host block where it has one: `none` until
the read returns, `some none` if it failed (03 R82). -/
structure DevCmd where
  order : Nat
  cls   : Nat
  count : W32
  span  : Nat
  desc  : Octets
  block : Option (Option Octets)
  deriving DecidableEq, Repr

/-- A posted ring command (06 R271, R272): `group` a STOP_GROUP. -/
structure PostedCmd where
  group  : Bool
  target : Nat
  flush  : Bool
  deriving DecidableEq, Repr

/-- An MSI-X table entry and pending bit (03 R124, 21 R805). -/
structure MsixEntry where
  addr    : W64
  data    : W32
  masked  : Bool
  pending : Bool
  deriving DecidableEq, Repr

/-- An MSI-X entry at reset: masked. Log entry 9. -/
def MsixEntry.zero : MsixEntry := ⟨0, 0, true, false⟩

/-- The ring-0 registers and DB_BASE (21 R813, R815). -/
structure CtrlRegs where
  sub    : W64
  cpl    : W64
  wbase  : W64
  wlimit : W64
  irq    : W64
  dbBase : W64
  en     : Bool
  deriving DecidableEq, Repr

/-- SETUP_STATUS (21 R806). -/
structure SetupStatus where
  reject : Bool
  count  : Nat
  reason : Nat
  offset : Nat
  deriving DecidableEq, Repr

/-- RING_FAULT (21 R817). -/
structure RingFault where
  valid  : Bool
  more   : Nat
  reason : Nat
  ring   : Nat
  deriving DecidableEq, Repr

/-- The service mailbox (21 R821): the message in progress is one step, so BUSY is never left set. -/
structure Mailbox where
  result : Nat
  busy   : Bool
  done   : Bool
  buf    : SMap Byte
  deriving DecidableEq, Repr

/-- The admission settings (02 R52). -/
structure AdmCfg where
  coreRsv  : Nat
  vecCap   : Nat
  movCap   : Nat
  r0Desc   : Nat
  r0Mov    : Nat
  r0Scr    : Nat
  r0Core   : Nat
  r0CoreId : CoreId
  deriving DecidableEq, Repr

/-- The defaults of the admission settings for span length k (02 R52, 21 R810, R812). -/
def AdmCfg.default (k : Nat) : AdmCfg where
  coreRsv := k * 12500
  vecCap := k * 425000
  movCap := k * 6800000
  r0Desc := 32
  r0Mov := 1048576
  r0Scr := 64
  r0Core := 0
  r0CoreId := 0

/-- A flush in progress (03 R117, R118): the ring, the descriptors flushed so far, and the completion of its STOP_RING. -/
structure Flush where
  ring  : Nat
  count : Nat
  cpl   : Cpl
  deriving DecidableEq, Repr

/-- What the host sees and sends (03, 21). `ended` holds the completions of jobs that have ended and whose mover commands or
draw and seal requests have not (09 R409), `waiting` those that wait for their span's durability, `queue` those queued to be
written. `dbReq` says that the doorbell read of this sill has been issued, `dbBack` that it has returned, `dbLate` counts the
reads of earlier sills that have not; `dbDue` says that DB_BASE was not 0 at its first cycle (02 R59, R67). `msixOn` and
`msixMask` are MSI-X Enable and Function Mask of the MSI-X capability (03 R124, 21 R805). `postDue` counts the posted commands
that this sill decides (03 R119). `held` holds the orders of completions that were queued while Bus Master Enable was clear and
count as late (03 R81). `linkq` holds the requests that wait in the link until it is in L0 again (03 R81). Completions of
descriptors consumed before order `discardBelow` are discarded (19 R738). -/
structure HostIf where
  bme      : Bool
  linkL0   : Bool
  dllUp    : Bool
  rings    : SMap Ring
  ctrl     : CtrlRegs
  posted   : W32
  postQueue : List PostedCmd
  postDue  : Nat
  dbReq    : Bool
  dbDue    : Bool
  dbBack   : Bool
  dbLate   : Nat
  flush    : Option Flush
  notice   : BitVec 6
  ringFault : RingFault
  setup    : SetupStatus
  lateDb   : Nat
  lateCpl  : Nat
  msix     : SMap MsixEntry
  msixOn   : Bool
  msixMask : Bool
  ended    : List Cpl
  waiting  : List Cpl
  queue    : List Cpl
  held     : List Nat
  linkq    : List Emission
  mbx      : Mailbox
  progress : List Octets
  discardBelow : Nat
  trSeek   : W64
  trLatched : Octets
  deriving DecidableEq, Repr

/-- The host interface at reset (21). Log entries 9 and 10. -/
def HostIf.reset : HostIf where
  bme := false
  linkL0 := true
  dllUp := true
  rings := []
  ctrl := ⟨0, 0, 0, 0, 0, 0, false⟩
  posted := 0
  postQueue := []
  postDue := 0
  dbReq := false
  dbDue := false
  dbBack := false
  dbLate := 0
  flush := none
  notice := 0
  ringFault := ⟨false, 0, 0, 0⟩
  setup := ⟨false, 0, 0, 0⟩
  lateDb := 0
  lateCpl := 0
  msix := []
  msixOn := true
  msixMask := false
  ended := []
  waiting := []
  queue := []
  held := []
  linkq := []
  mbx := ⟨0, false, false, []⟩
  progress := List.replicate 5 (List.replicate 16 0)
  discardBelow := 0
  trSeek := 0
  trLatched := List.replicate 128 0

/-- The admission controller (02 R47 to R71): certificates by class, those that take effect at the next sill (R50) and
those loaded for a pending image set; the settings in force and written; the sums of the sill; the job core assignments;
the pauses; the consumed device commands; the ring decided first in each class (R63)
in the last sill and in this one, and the ring whose turn in its class has begun. -/
structure Adm where
  certs     : SMap (Option Cert)
  certsNext : List Cert
  cfg       : AdmCfg
  cfgNext   : AdmCfg
  vAdm      : Nat
  movAdm    : Nat
  scrAdm    : Nat
  r0Mov     : Nat
  r0Scr     : Nat
  r0Decided : Nat
  admitted  : List (CoreId × Bool × Cert)
  firstServed : SMap (Option Nat)
  firstThis : SMap (Option Nat)
  current   : Option Nat
  order     : Nat
  agedCount : Nat
  devCmds   : List DevCmd
  paused    : BitVec 5
  deriving DecidableEq, Repr

/-- Admission at reset, with the default settings of k = 4 (02 R52). -/
def Adm.reset : Adm where
  certs := []
  certsNext := []
  cfg := AdmCfg.default 4
  cfgNext := AdmCfg.default 4
  vAdm := 0
  movAdm := 0
  scrAdm := 0
  r0Mov := 0
  r0Scr := 0
  r0Decided := 0
  admitted := []
  firstServed := []
  firstThis := []
  current := none
  order := 0
  agedCount := 0
  devCmds := []
  paused := 0x10

end Sys2Proof.Machine
end

