-- ==== Sys2Proof/Machine/EngState.lean ====
section
/-! DEFINITION. The state of the engines: chains of the long-vector engine, mover commands, the scribe and hot journal,
the chain ports, the cartridge, the draw unit, the seal engine and the regulator port (10, 12, 14, 15, 16). -/

namespace Sys2Proof.Machine

/-- States of a chain that holds an entry (10 R418). -/
inductive ChainSt where
  | queued | running | faulted
  deriving DecidableEq, Repr

/-- Where a chain met a fault (10 R444, R445). -/
structure ChainFault where
  stage  : Nat
  cause  : Nat
  detail : Nat
  pos    : Nat
  addr   : Nat
  deriving DecidableEq, Repr

/-- An element in the pipes (11 R451): the bits of a lane, BIN or bitset; a tagged value; a DW pair; or the mark of a
running value that cannot be held, with its FDETAIL (11 R471). -/
inductive El where
  | int (n : Nat)
  | val (v : TVal)
  | dw (hi lo : Payload)
  | bad (detail : Nat)
  deriving DecidableEq, Repr

/-- A chain entry (10 R414 to R418, R438, R448): the handle, the issuing core, bank and job (its order of consumption),
the descriptor's address and copy, the TSW at VCHAIN, whether it has entered the queue (10 R417) and its place there,
the element it starts from, the elements committed, the running REDUCE result or TALLY bins held (`acc`), the running
values of its VPFX stages (`pfx`), the cycles charged, and the clock at its start. -/
structure ChainEnt where
  handle  : W32
  core    : CoreId
  bank    : BankId
  job     : Option Nat
  addr    : W32
  desc    : Octets
  tsw     : W64
  st      : ChainSt
  entered : Bool
  place   : Nat
  start   : Nat
  pos     : Nat
  acc     : List El
  pfx     : List El
  cycles  : Nat
  since   : Nat
  fault   : Option ChainFault
  deriving DecidableEq, Repr

/-- The long-vector engine: 64 entries (10 R415), the next place in the queue. -/
structure Lve where
  chains : SMap (Option ChainEnt)
  nextPlace : Nat
  deriving DecidableEq, Repr

/-- A mover command between its MOVR and its end (12 R508 to R517): its issuer, slot, job, address in bench memory, the 32
octets copied, the TSW at MOVR, whether it has entered its queue and its order there, whether a host access it needed has been
cut off (03 R81), and the clock at which it began to run. -/
structure MovCmd where
  core    : CoreId
  bank    : BankId
  slot    : Nat
  job     : Option Nat
  addr    : W32
  cmd     : Octets
  tsw     : W64
  entered : Bool
  order   : Nat
  cut     : Bool
  since   : Nat
  deriving DecidableEq, Repr

/-- The mover: its commands in the order of their MOVR (12 R512, R514). -/
structure Mover where
  cmds  : List MovCmd
  order : Nat
  deriving DecidableEq, Repr

/-- A leaf of the present span (14 R544, R545): its data, the bank and job that appended it, whether it has been written
to the hot journal and whether it has had its receipt (16 R643). -/
structure Leaf where
  data     : Octets
  core     : CoreId
  bank     : BankId
  job      : Option Nat
  written  : Bool
  receipted : Bool
  deriving DecidableEq, Repr

/-- An acknowledgement slot's contents (14 R557): the payload and its STATE. -/
structure AckSlot where
  payload : Octets
  st      : Nat
  deriving DecidableEq, Repr

/-- A segment of the hot journal (14 R557), own or witnessed: where it and the segment before it start (absolute positions, as
its start block was written; fixed when its header is written, log entry 41), the source, the span, the quorum in force at the
seal, its leaves by index, its header once sealed, the quorum and the witness list in force in it, its acknowledgement slots,
the devices whose valid acknowledgement counts (14 R567), whether the span is QUORUM_SHORT, its completions are decided, the
blocks the drain has written, and the clock since which it may be drained (15 R608). Of a witnessed span: headers that wait for
leaves that are missing, in the order of arrival, whether a leaf came twice with different data (14 R566), and whether a header
of it came with FLAGS.RESENT (14 R571). -/
structure Segment where
  start    : Nat
  prev     : Nat
  own      : Bool
  source   : Nat
  span     : Nat
  spanLen  : Nat
  leaves   : SMap (Option Octets)
  header   : Option Octets
  waiting  : List Octets
  conflict : Bool
  quorum   : Nat
  witness  : List Nat
  acks     : List (Option AckSlot)
  acked    : List Nat
  onTime   : List Nat
  short    : Bool
  decided  : Bool
  drained  : Nat
  accepted : Bool
  blocks   : Nat
  readyAt  : Nat
  resent   : Bool
  deriving DecidableEq, Repr

/-- The scribe and hot journal (14 R545 to R572): leaves of the span, bank-0 records, evidence waiting for the next
span, open and kept segments, the next absolute position, the last header sealed, the chain-state record, and the banks
that wait for a slot of the scribe's buffer, in the order in which they found it full (R547). -/
structure Scribe where
  leaves     : List Leaf
  bank0      : Nat
  carried    : List Octets
  spanOpen   : Bool
  sealing    : Bool
  segments   : List Segment
  hjPos      : Nat
  lastHeader : Option Octets
  lastSpan   : Nat
  prevStart  : Nat
  fullRaised : Bool
  spanPaused : Bool
  waitq      : List (CoreId × BankId)
  deriving DecidableEq, Repr

/-- The states of a chain port (14 R593). -/
inductive PortSt where
  | down | training | attesting | member | refused
  deriving DecidableEq, Repr

/-- A frame that waits on a paused lane, or on the control lane for the next span (14 R575): its class, origin, destination,
hops, flags and payload. -/
structure TxFrame where
  cls   : Nat
  src   : Nat
  dst   : Nat
  hops  : Nat
  flags : Nat
  body  : Octets
  deriving DecidableEq, Repr

/-- A chain port (14 R573 to R594). `ctlSent` counts the control-lane frames sent in this span (R575). -/
structure ChainPort where
  st       : PortSt
  linkUp   : Bool
  reason   : Nat
  peer     : Nat
  helloOk  : Bool
  sendKey  : Octets
  recvKey  : Octets
  seqSent  : Nat
  seqLane  : List Nat
  paused   : List Bool
  nonce    : Octets
  ephPriv  : Octets
  discards : Nat
  retryAt  : Nat
  txq      : List TxFrame
  ctlSent  : Nat
  deriving DecidableEq, Repr

/-- A port at reset. -/
def ChainPort.reset : ChainPort :=
  ⟨.down, false, 0, 0, false, [], [], 0, [0, 0, 0, 0, 0], [false, false, false, false, false], [], [], 0, 0, [], 0⟩

/-- The chain configuration (14 R598). -/
structure ChainCfg where
  chainId  : W32
  device   : Nat
  quorum   : Nat
  master   : Nat
  portEn   : BitVec 4
  portMode : BitVec 4
  witness  : List Nat
  asym     : List Int
  routes   : Octets
  deriving DecidableEq, Repr

/-- The configuration before CHAIN_CONFIG: no chain, no route (14 R598). Log entry 11. -/
def ChainCfg.none : ChainCfg :=
  ⟨0, 0, 0, 0, 0, 0, [], [0, 0, 0, 0], List.replicate 256 0x77⟩

/-- A latency check in progress (14 R590): the device command it answers, the configuration it decides, the ECHO frames left for
the witness being measured, those still to measure, and the worst round trip and port so far. -/
structure LatCheck where
  order     : Option DevCmd
  cfg       : ChainCfg
  witness   : List Nat
  quorum    : Nat
  left      : Nat
  current   : Nat
  todo      : List Nat
  sentAt    : Nat
  worst     : Nat
  worstPort : Nat
  deriving DecidableEq, Repr

/-- The chain (14 R563 to R599): configuration, the witness list that takes effect next span, ports, span keys learned
of other devices (public key and KEY_ID), the first QUORUM_SHORT span not yet healthy, backfill cursors, latency check
and the span from which the next periodic one is due (R590), span-sync measurement: the DELAY_REQ that is out, by its port and
clock, and half the round trip of a link, by its port. -/
structure Chain where
  cfg      : ChainCfg
  cfgNext  : Option (List Nat × Nat)
  ports    : Vector ChainPort 4
  peers    : SMap (Option (Octets × Octets))
  srcHeld  : SMap (Option Octets)
  shortSpan : Nat
  backfill : SMap Nat
  resend   : SMap Nat
  latency  : Option LatCheck
  checkAt  : Nat
  reqSent  : Option (Nat × Nat)
  upDelay  : Option (Nat × Int)
  depth    : Nat
  deriving DecidableEq, Repr

/-- The mount states of the cartridge (15 R624). -/
inductive Mount where
  | absent | attesting | bound | archive | refused | ejecting | safe
  deriving DecidableEq, Repr

/-- A drain unit whose append is outstanding (15 R606, R625). -/
structure DrainUnit where
  kind  : Nat
  pos   : Nat
  count : Nat
  deriving DecidableEq, Repr

/-- The cartridge port (15). `late` holds the positions of acknowledgement slots filled after their blocks were written, and the
clock at which each was; `reach` the position after the last journal block appended to any cartridge, acknowledged or not;
`zoneOpen` says that a data zone has been appended to in this mount and is not Full (R604); `warned` the warnings given since
the mount (15 R615, R616): 9,000, 9,700, 10,000 basis points, 9 years. -/
structure Cart where
  mount    : Mount
  leafCert : Octets
  serial   : Octets
  boundDev : Nat
  labels   : Nat
  lbas     : Nat
  nextSeq  : Nat
  inserts  : Nat
  utc      : Option W64
  nextPos  : Nat
  unit     : Option DrainUnit
  late     : List (Nat × Nat)
  reach    : Nat
  warned   : BitVec 4
  zoneOpen : Bool
  deriving DecidableEq, Repr

/-- States of the draw unit (16 R629, R657). -/
inductive DrawSt where
  | ready | failed | testing
  deriving DecidableEq, Repr

/-- A queued draw or seal request (16 R635, R645): its issuer and job, the block's address and copy, the TSW in force,
the span and the clock of issue, and the key a seal request was queued with (17 R666). -/
structure EngReq where
  core  : CoreId
  bank  : BankId
  job   : Option Nat
  addr  : W32
  block : Octets
  tsw   : W64
  span  : Nat
  at_   : Nat
  key   : Octets
  keyOk : Bool
  deriving DecidableEq, Repr

/-- A queued receipt (16 R643), with the clock of its issue. -/
structure RcptReq where
  core : CoreId
  bank : BankId
  job  : Option Nat
  addr : W32
  at_  : Nat
  span : Nat
  leaf : Nat
  hash : Octets
  key  : Octets
  deriving DecidableEq, Repr

/-- The continuous health tests (16 R628): the bit before and the length of its run; the window of 1,024 bits: its place, first bit,
that bit's occurrences so far, the longest run in it. -/
structure EntropyMon where
  last   : Option Bool
  run    : Nat
  pos    : Nat
  first  : Bool
  count  : Nat
  runMax : Nat
  deriving DecidableEq, Repr

/-- The tests before the first bit. -/
def EntropyMon.start : EntropyMon := ⟨none, 0, 0, false, 0, 0⟩

/-- An instance of CTR_DRBG with AES-256 (16 R631): Key, V, and the generate requests since it was last seeded. -/
structure Drbg where
  key      : Octets
  v        : Octets
  requests : Nat
  deriving DecidableEq, Repr

/-- The draw unit and the seal engine (16); `inst` and `service` are the draw instance and the service instance, none where not
instantiated (R629, R631). Of the receipt pipe and of the bulk unit: the clock from which it takes the next request, and the core it
served last (R644, R647). -/
structure DrawSeal where
  st       : DrawSt
  draws    : List EngReq
  reseeds  : Nat
  done     : Nat
  health   : W32
  seals    : List EngReq
  rcpts    : List RcptReq
  mon      : EntropyMon
  inst     : Option Drbg
  service  : Option Drbg
  rcptFree : Nat
  rcptLast : CoreId
  sealFree : Nat
  sealLast : CoreId
  deriving DecidableEq, Repr

/-- The regulator port (16 R649 to R655): `since` holds the payloads sent since the last heartbeat, `held` the messages
that wait for the link (message code and body). -/
structure Regulator where
  up      : Bool
  seqOut  : Nat
  lastCseq : Nat
  since   : List Octets
  first   : Nat
  held    : List (Nat × Octets)
  frozen  : Bool
  deriving DecidableEq, Repr

end Sys2Proof.Machine
end

