-- ==== Sys2Proof/Machine/SvcState.lean ====
section
/-! DEFINITION. The state of the security domain, the power states, field update and the service core (13, 17, 18, 19, 20). -/

namespace Sys2Proof.Machine

/-- The lifecycle states (17 R658). -/
inductive Lifecycle where
  | blank | provisioned | sealed | tampered | retired
  deriving DecidableEq, Repr

/-- Types of keys (17 R664). -/
inductive KeyType where
  | aes | hmac | priv | pub
  deriving DecidableEq, Repr

/-- A key of the key store (17 R662). -/
structure Key where
  typ    : KeyType
  uses   : Nat
  serial : Nat
  keyId  : Octets
  key    : Octets
  deriving DecidableEq, Repr

/-- The security domain (17 R658 to R683). -/
structure Sec where
  life      : Lifecycle
  slots     : SMap (Option Key)
  slotSerial : SMap Nat
  keysNext  : List (Nat × Option Key × Nat)
  mfgCert   : Octets
  devCert   : Octets
  lidLatched : Bool
  lidSeen   : Bool
  loopArmed : Bool
  loopOhms  : Nat
  badReads  : Nat
  loopEvent : Bool
  dbgLevel  : Nat
  dbgLeft   : Nat
  dbgSince  : Nat
  challenge : Octets
  refusals  : Nat
  trstLow   : Bool
  breaks    : List (CoreId × W32)
  sealAt    : Option Nat
  deriving DecidableEq, Repr

/-- The power states (17 R684). -/
inductive PowerSt where
  | p0 | p1 | p2 | p3 | p4
  deriving DecidableEq, Repr

/-- Power (17 R684 to R691; 20). `since` is the span in which a P2 reason first arose, while P2 is being entered;
`next` a P0/P1 change for the next sill; `p3At` the POWER_SET to P3 waiting for the end of a plate (its completion's
order, and the span once written). -/
structure Power where
  st      : PowerSt
  reasons : BitVec 4
  since   : Option Nat
  next    : Option PowerSt
  p3At    : Option (Nat × Option Nat)
  vin48   : Bool
  vaux    : Bool
  refclk  : Bool
  dieWarm : Bool
  lossAt  : Option Nat
  deriving DecidableEq, Repr

/-- States of a boot slot (18 R703). -/
inductive SlotSt where
  | empty | installing | valid
  deriving DecidableEq, Repr

/-- A part of an image set (18 R700, R702): type, version, digest, octets. -/
structure Part where
  typ     : Nat
  version : Nat
  digest  : Octets
  data    : Octets
  deriving DecidableEq, Repr

/-- A boot slot (18 R703): the slot header's fields, `digest` the image digest of its set (18 R702) and `table` its PARTS, then the
parts. -/
structure BootSlot where
  st       : SlotSt
  version  : Nat
  digest   : Octets
  table    : Octets
  parts    : List Part
  manifest : Octets
  deriving DecidableEq, Repr

/-- The 212 octets of PARTS (18 R702). -/
def partsOctets (l : List Part) : Octets :=
  [1, 2, 3, 4].flatMap (fun (t : Nat) => match l.find? (fun a => a.typ == t) with
    | some a => octet t :: leBytes 4 a.version ++ padTo 48 a.digest
    | none => octet t :: zeros 52)

/-- The image digest of a set (18 R702). -/
def imageDigest (l : List Part) : Octets := sha384 (partsOctets l)

/-- A VALID slot as an installation leaves it (18 R703, R714): the header with PARTS and their digest. -/
def BootSlot.valid (version : Nat) (parts : List Part) (manifest : Octets) : BootSlot :=
  ⟨.valid, version, imageDigest parts, partsOctets parts, parts, manifest⟩

/-- Whether a slot's parts match PARTS, and PARTS the image digest (18 R703). -/
def BootSlot.sound (b : BootSlot) : Bool :=
  partsOctets (b.parts.map (fun (a : Part) => { a with digest := sha384 a.data })) == b.table && sha384 b.table == b.digest

/-- A part of a slot. -/
def BootSlot.part (b : BootSlot) (typ : Nat) : Option Part := b.parts.find? (fun a => a.typ == typ)

/-- Whether a set holds a SUPERVISOR (18 R735). -/
def BootSlot.supervised (b : BootSlot) : Bool := (b.part 4).isSome

/-- The states of a staging session (18 R711). At SWITCHED it ends (R713): its manifest alone stays, the activation's, until
CONVERTED or FELL_BACK (log entry 96). -/
inductive SessSt where
  | staging | installing | installed | ended
  deriving DecidableEq, Repr

/-- A staging session (18 R711 to R718): opener 0 the host, otherwise a neighbour's identifier; the boot slot it is installed
into; the manifest's digest and encoding; the pieces held, by part × 65,536 + piece, as the ciphertext and tag; the spans
since a piece was accepted, and that time in units of 250 µs; the ports whose neighbour has answered the manifest, those
whose neighbour took the session from here, the pieces asked for by port, and the span of the last sending of the manifest. -/
structure Session where
  st       : SessSt
  opener   : Nat
  slot     : Nat
  digest   : Octets
  manifest : Octets
  payload  : Octets
  key      : Octets
  pieces   : SMap (Option Octets)
  failures : Nat
  idle     : Nat
  idleTime : Nat
  answered : List Nat
  opened   : List Nat
  wanted   : List (Nat × Nat)
  sentAt   : Option Nat
  deriving DecidableEq, Repr

/-- An intent record (18 R719). -/
structure Intent where
  step   : Nat
  role   : Nat
  seq    : Nat
  span   : Nat
  boot   : Nat
  arg    : Nat
  digest : Octets
  deriving DecidableEq, Repr

/-- The activation's volatile part (18 R721 to R729, R733): the participants' answers and reports, the soak spans completed
and whether it runs, the span of the last PREPARE or QUERY, the time without a MEMBER route to the coordinator in units of
250 µs, the reason reported and its span, the span after whose seal the restart is made, and the messages that wait for a route
to their device (log entry 88). -/
structure Activ where
  answers  : List (Nat × Bool)
  reports  : List (Nat × Nat)
  soak     : Nat
  soaking  : Bool
  lastSent : Nat
  lostSpans : Nat
  reported : Option Nat
  reportSpan : Nat
  restartAt : Option Nat
  unsent   : List (Nat × Octets)
  deriving DecidableEq, Repr

/-- No activation. -/
def Activ.none : Activ := ⟨[], [], 0, false, 0, 0, Option.none, 0, Option.none, []⟩

/-- The end of an activation: what still waits for a route is sent once there is one (18 R721, R727). -/
def Activ.over (a : Activ) : Activ := { Activ.none with unsent := a.unsent }

/-- A settings generation (18 R725, R728): its number and format, and the settings it holds. -/
structure Generation where
  gen     : Nat
  format  : Nat
  k       : Nat
  sync    : Nat
  adm     : AdmCfg
  certs   : SMap (Option Cert)
  corrThr : Nat
  pscrubH : Nat
  deriving DecidableEq, Repr

/-- Field update (18). `rxBuf` holds manifests and piece records arriving in frames, by neighbour port; `saved` the current
generation during probation, `kept` the one before the current one.-/
structure Upd where
  slotA    : BootSlot
  slotB    : BootSlot
  active   : Nat
  session  : Option Session
  rxBuf    : SMap (Option (Octets × Nat))
  intents  : List Intent
  act      : Activ
  floor    : Nat
  gen      : Nat
  format   : Nat
  staged   : List Cert
  saved    : Option Generation
  kept     : Option Generation
  reason   : Nat
  deriving DecidableEq, Repr

/-- How far a boot has come (19 R742, R743; 20 R770, R796): running; holding in reset for REFCLK or for a warm die; hung before
step 9, with or without another slot still to try; waiting for the source that sets the span counter; in ROM recovery; or not
booted (P3, P4). -/
inductive BootStage where
  | running | waitEnv | hung (last : Bool) | waitTimein | waitSync | recovery | off
  deriving DecidableEq, Repr

/-- The sources of a reset, in the order of 19 R736. -/
inductive ResetSrc where
  | vaux | vin48 | mrst | host | activation | perst
  deriving DecidableEq, Repr

/-- A committed trouble-record entry (19 R753 to R755): its slot, SEQ, and 128 octets. -/
structure TrEntry where
  slot : Nat
  seq  : Nat
  data : Octets
  deriving DecidableEq, Repr

/-- The service core (13, 19): boot, ageing, telemetry, trouble record, microcode packages. `seconds` counts the time in P0 and
P1, `lastRelevel` that of the last re-level, `dueFor` the seconds a due re-level has waited, `days` the projection made after
the last one, `flooring` says that floor steps go on (19 R745 to R749); `resetDue` that the RESET entry of the boot in progress
is not yet written (19 R756). -/
structure Svc where
  bootCount : Nat
  stage     : BootStage
  source    : ResetSrc
  resetDue  : Bool
  vcore     : Nat
  seconds   : Nat
  relevels  : List (Nat × Nat)
  lastRelevel : Nat
  margin    : Nat
  lowest    : Nat
  due       : Bool
  requested : Bool
  dueFor    : Nat
  overdueSaid : Bool
  days      : Option Nat
  daysWarned : Nat
  flooring  : Bool
  alerts    : BitVec 7
  smbSeek   : W64
  tr        : List TrEntry
  trSeq     : Nat
  trRing    : Nat
  trPinned  : Nat
  trLost    : Nat
  memCorr   : W32
  memPoisoned : Nat
  corrCount : Nat
  corrThr   : Nat
  pscrubH   : Nat
  scrubPos  : Nat
  relevelPos : Nat
  relevelTotal : Nat
  releveling : Bool
  vendorPackage : Option Octets
  mcPackage : Option Octets
  deriving DecidableEq, Repr

end Sys2Proof.Machine
end

