-- ==== Sys2Proof/Machine/State.lean ====
section
/-! DEFINITION. The state of the VS251 block: every piece of state the spec gives it, the queue of waiting commands, and
the reasons a step can stop. -/

namespace Sys2Proof.Machine

/-- Why a step stops with a fault. -/
inductive Fault where
  /-- A command whose operands lie outside what the spec gives the command (WellFormed.lean): raised by a meaning whose
  operand is out of its range. Safe: the spec has no such command. -/
  | illFormed (check : String)
  deriving DecidableEq, Repr

/-- Why a step is refused. -/
inductive Refusal where
  /-- No meaning has been written for the command: raised by the dispatcher only. Safe. -/
  | notModelled (mnemonic : String)
  deriving DecidableEq, Repr

/-- The phases of a span (02 R30); `none` while no span runs. -/
inductive Phase where
  | none | sill | post | plate
  deriving DecidableEq, Repr

/-- The steering states (02 R43). -/
inductive SyncSt where
  | free | acquire | locked | holdover
  deriving DecidableEq, Repr

/-- The span counter and its steering (02 R29 to R46). `clock` counts core cycles since reset; `anchor` is (pulse time,
boundary) of R40; `corr` the last correction applied to a plate guard. -/
structure Spans where
  clock    : Nat
  cyc      : Nat
  phase    : Phase
  span     : Nat
  lastStarted : Nat
  run      : Bool
  k        : Nat
  lenNext  : Option Nat
  sync     : Nat
  syncNext : Option Nat
  syncSt   : SyncSt
  anchor   : Option (Nat × Nat)
  offset   : Int
  inLock   : Nat
  corr     : Int
  lastPulse : Option Nat
  lastSync : Nat
  startClock : Nat
  deriving DecidableEq, Repr

/-- The module variants (01; 21 R807). -/
inductive Variant where
  | h48 | h96
  deriving DecidableEq, Repr

/-- The state of the block. -/
structure State where
  pending  : List Instr
  t        : Spans
  cores    : Vector Core 64
  bay      : SMap TVal
  bayFrames : SMap FrameEntry
  hbm      : SMap TVal
  hbmRegions : SMap FrameEntry
  variant  : Variant
  pmem     : SMap Byte
  host     : HostIf
  adm      : Adm
  lve      : Lve
  mover    : Mover
  scribe   : Scribe
  chain    : Chain
  cart     : Cart
  ds       : DrawSeal
  reg      : Regulator
  sec      : Sec
  power    : Power
  upd      : Upd
  svc      : Svc
  out      : List Emission
  freeCtr  : Nat
  deriving DecidableEq, Repr

/-- The span counter at reset (02 R29, R43). -/
def Spans.reset : Spans :=
  ⟨0, 0, .none, 0, 0, false, 4, none, 0, none, .free, none, 0, 0, 0, none, 0, 0⟩

/-- The scribe and hot journal at reset: nothing sealed (14 R551). -/
def Scribe.reset : Scribe := ⟨[], 0, [], false, true, [], 0, none, 0, 0, false, false, []⟩

/-- The chain at reset: not configured (14 R598). -/
def Chain.reset : Chain :=
  ⟨ChainCfg.none, none, Vector.replicate 4 ChainPort.reset, [], [], 0, [], [], none, 0, none, none, 0⟩

/-- The cartridge port at reset: no cartridge (15 R624). -/
def Cart.reset : Cart := ⟨.absent, [], [], 0, 0, 0, 1, 0, none, 0, none, [], 0, 0, false⟩

/-- The draw unit and seal engine after the boot's start-up tests (16 R628; 19 R742); the rotation begins with core 0, the model's
choice: log entry 112. -/
def DrawSeal.reset : DrawSeal := ⟨.ready, [], 0, 0, 0, [], [], EntropyMon.start, none, none, 0, 63, 0, 63⟩

/-- An instance as the boot seeded it, from entropy that is open (log entry 106). -/
def seededDrbg (place : Nat) : Drbg :=
  ⟨(List.range 32).map (fun i => BitVec.ofNat 8 (Config.freeValue place i)),
    (List.range 16).map (fun i => BitVec.ofNat 8 (Config.freeValue place (32 + i))), 0⟩

/-- The regulator port at reset (16 R649 to R655). -/
def Regulator.reset : Regulator := ⟨false, 0, 0, [], 1, [], false⟩

/-- A key made at manufacture (17 R662). Its KEY_ID is derived when it is used (17 R824). Log entry 12. -/
def shippedKey (slot : Nat) : Key := ⟨.priv, 0, 0, [], Config.manufactureKey slot⟩

/-- The security domain as shipped: BLANK, slots 1 and 2 made at manufacture (17 R658, R662). Log entries 3, 12 and 15. -/
def Sec.reset : Sec where
  life := .blank
  slots := [(1, some (shippedKey 1)), (2, some (shippedKey 2))]
  slotSerial := []
  keysNext := []
  mfgCert := Config.manufactureCert
  devCert := Config.manufactureCert
  lidLatched := false
  lidSeen := false
  loopArmed := false
  loopOhms := 0
  badReads := 0
  loopEvent := false
  dbgLevel := 0
  dbgLeft := 0
  dbgSince := 0
  challenge := (List.range 32).map Config.freeOctet
  refusals := 0
  trstLow := false
  breaks := []
  sealAt := none

/-- Power as shipped and booted: P2 with reason LIFECYCLE (17 R685, R692), supplies in range. -/
def Power.reset : Power := ⟨.p2, 0x8, none, none, none, true, true, true, true, none⟩

/-- An empty boot slot (18 R703). -/
def BootSlot.emptySlot : BootSlot := ⟨.empty, 0, [], [], [], []⟩

/-- A part of the shipped set: SERVICE or VENDOR_MC, VERSION 1 (18 R700; log entry 4). -/
def shippedPart (typ : Nat) : Part := ⟨typ, 1, sha384 (Config.shippedPart typ), Config.shippedPart typ⟩

/-- Field update as shipped: slot A holds the shipped set (log entry 4), floor 1 (18 R723). -/
def Upd.reset : Upd where
  slotA := BootSlot.valid 1 [shippedPart 1, shippedPart 2] []
  slotB := BootSlot.emptySlot
  active := 0
  session := none
  rxBuf := []
  intents := []
  act := Activ.none
  floor := 1
  gen := 0
  format := 0
  staged := []
  saved := none
  kept := none
  reason := 0

/-- The service core as shipped (19; 12 R497, R504): VCORE 745 mV (log entry 13). -/
def Svc.reset : Svc where
  bootCount := 0
  stage := .running
  source := .vaux
  resetDue := false
  vcore := 745
  seconds := 0
  relevels := []
  lastRelevel := 0
  margin := 0
  lowest := 0
  due := false
  requested := false
  dueFor := 0
  overdueSaid := false
  days := none
  daysWarned := 0
  flooring := false
  alerts := 0
  smbSeek := 0
  tr := []
  trSeq := 0
  trRing := 131072
  trPinned := 0
  trLost := 0
  memCorr := 0
  memPoisoned := 0
  corrCount := 0
  corrThr := 64
  pscrubH := 24
  scrubPos := 0
  relevelPos := 0
  relevelTotal := 0
  releveling := false
  vendorPackage := some (Config.shippedPart 2)
  mcPackage := none

/-- MCVER as shipped: VENDOR 1, no customer package (13 R543). Log entry 4. -/
def mcverShipped : W32 := 0x00010000

/-- The machine right after reset: the module as shipped (17 R658 BLANK), every block at its reset state (19 R737).
Log entry 3. -/
def State.reset : State where
  pending := []
  t := Spans.reset
  cores := Vector.replicate 64 (Core.reset true mcverShipped)
  bay := []
  bayFrames := []
  hbm := []
  hbmRegions := []
  variant := .h48
  pmem := []
  host := HostIf.reset
  adm := Adm.reset
  lve := ⟨[], 0⟩
  mover := ⟨[], 0⟩
  scribe := Scribe.reset
  chain := Chain.reset
  cart := Cart.reset
  ds := { DrawSeal.reset with inst := some (seededDrbg 97), service := some (seededDrbg 98) }
  reg := Regulator.reset
  sec := Sec.reset
  power := Power.reset
  upd := Upd.reset
  svc := Svc.reset
  out := []
  freeCtr := 32

/-- What a meaning answers. -/
abbrev Res := Host.Outcome State Fault Refusal

end Sys2Proof.Machine
end

