-- ==== Sys2Proof/Machine/Ops.lean ====
section
/-! DEFINITION. The named operations over cores, banks, registers, control fields and memories (04, 05, 12). -/

namespace Sys2Proof.Machine

/-! ### Cores and banks -/

/-- The core's state. -/
def State.core (s : State) (c : CoreId) : Core := s.cores[c]

/-- The state with a core's replaced. -/
def State.setCore (s : State) (c : CoreId) (k : Core) : State := { s with cores := s.cores.set c k }

/-- The state with a core changed. -/
def State.modCore (s : State) (c : CoreId) (f : Core → Core) : State := s.setCore c (f (s.core c))

/-- A bank of a core. -/
def Core.bank (k : Core) (b : BankId) : Bank := k.banks[b]

/-- The core with a bank replaced. -/
def Core.setBank (k : Core) (b : BankId) (v : Bank) : Core := { k with banks := k.banks.set b v }

/-- The core with a bank changed. -/
def Core.modBank (k : Core) (b : BankId) (f : Bank → Bank) : Core := k.setBank b (f (k.bank b))

/-- A bank of a core of the state. -/
def State.bank (s : State) (c : CoreId) (b : BankId) : Bank := (s.core c).bank b

/-- The state with a bank changed. -/
def State.modBank (s : State) (c : CoreId) (b : BankId) (f : Bank → Bank) : State :=
  s.modCore c (fun k => k.modBank b f)

/-- The bank whose instructions the core executes: bank T while it serves (09 R366), otherwise the RUNNING bank. -/
def Core.current (k : Core) : Option BankId := if k.tActive then some bankT else k.running

/-- Every core number. -/
def allCores : List CoreId := List.finRange 64

/-- Every task bank (05 R167). -/
def taskBanks : List BankId := [0, 1, 2, 3, 4, 5, 6, 7, 8, 9, 10, 11, 12, 13, 14, 15]

/-- A step over every core, in ascending order. -/
def State.forCores (s : State) (f : CoreId → State → State) : State := allCores.foldl (fun t c => f c t) s

/-- Whether the cores run at all (17 R684, R692; 19 R742): the device booted and not in P3 or P4. -/
def Core.able (k : Core) : Bool :=
  !k.stopped && (!k.halted || k.step) && !k.held && (!k.p2stopped || k.step)

/-! ### Fields of the TSW (05 R174) -/

/-- The field of a 64-bit register at bits lo to lo + len - 1. -/
def getField (w : W64) (lo len : Nat) : Nat := w.toNat / 2 ^ lo % 2 ^ len

/-- The register with a field replaced. -/
def setField (w : W64) (lo len v : Nat) : W64 :=
  (w &&& ~~~ (BitVec.ofNat 64 ((2 ^ len - 1) * 2 ^ lo))) ||| BitVec.ofNat 64 (v % 2 ^ len * 2 ^ lo)

def tswMode (w : W64) : Bool := w.getLsbD 63
def tswKey (w : W64) : BitVec 4 := w.extractLsb' 59 4
def tswMask (w : W64) : Nat := getField w 55 4
def tswCc (w : W64) : Nat := getField w 53 2
def tswFpm (w : W64) : Nat := getField w 51 2
def tswDrm (w : W64) : Nat := getField w 48 3
def tswBrm (w : W64) : Nat := getField w 46 2
def tswCwp (w : W64) : Nat := getField w 43 3
def tswWval (w : W64) : Nat := getField w 40 3

/-- Whether no field of a TSW holds a reserved value and bits [39:0] are zero (05 R174, R175). -/
def tswLegal (w : W64) : Bool :=
  tswFpm w ≤ 2 && tswDrm w ≤ 4 && tswCwp w ≤ 5 && 1 ≤ tswWval w && tswWval w ≤ 5 && getField w 0 40 == 0

/-- The TSW of a bank with a condition code. -/
def setCc (w : W64) (cc : Nat) : W64 := setField w 53 2 cc

/-! ### Registers (05 R168 to R173) -/

/-- Where a register code lies among a bank's 104 registers, through a window: G0 to G7 first, then the physical sets of
eight; the passed set of window w is set 2w, its private set 2w + 1, its handoff set the passed set of the next window
(05 R170). Bank T's W registers are plain (05 R168). -/
def slotOf (isT : Bool) (win : Nat) (r : Reg) : Fin 104 :=
  if r.val < 8 ∨ isT = true then ⟨r.val, by omega⟩
  else if r.val < 16 then ⟨8 + 2 * (win % 6) * 8 + r.val % 8, by omega⟩
  else if r.val < 24 then ⟨8 + (2 * (win % 6) + 1) * 8 + r.val % 8, by omega⟩
  else ⟨8 + 2 * ((win + 1) % 6) * 8 + r.val % 8, by omega⟩

/-- The slot of a register code in a bank under the bank's own window. -/
def Bank.slot (k : Bank) (b : BankId) (r : Reg) : Fin 104 := slotOf (b == bankT) (tswCwp k.tsw) r

/-- A register of a bank through its current window. -/
def Bank.reg (k : Bank) (b : BankId) (r : Reg) : TVal := k.regs[k.slot b r]

/-- The bank with a register slot written. -/
def Bank.setSlot (k : Bank) (i : Fin 104) (v : TVal) : Bank := { k with regs := k.regs.set i v }

/-- The bank with a register written through its current window. -/
def Bank.setReg (k : Bank) (b : BankId) (r : Reg) (v : TVal) : Bank := k.setSlot (k.slot b r) v

/-- The state with a register of a bank written. -/
def State.setReg (s : State) (c : CoreId) (b : BankId) (r : Reg) (v : TVal) : State :=
  s.modBank c b (fun k => k.setReg b r v)

/-- The private set of a window set to RAW zero (05 R170). -/
def clearPrivate (regs : Vector TVal 104) (win : Nat) : Vector TVal 104 :=
  regs.mapFinIdx fun i v _ => if i ≥ 8 ∧ (i - 8) / 8 = 2 * (win % 6) + 1 then TVal.zero else v

/-- The window advance where WVAL is below 5 (05 R172, R170). -/
def Bank.advance (k : Bank) : Bank :=
  let w := (tswCwp k.tsw + 1) % 6
  { k with tsw := setField (setField k.tsw 43 3 w) 40 3 (tswWval k.tsw + 1), regs := clearPrivate k.regs w }

/-- The results in flight for a bank's registers that are set to RAW zero: an instruction of the cleared window must not
meet them later (05 R170, R209). Their float flags and records stay. -/
def Core.dropResults (k : Core) (b : BankId) (gone : Fin 104 → Bool) : Core :=
  { k with port := k.port.map (fun e => if e.bank = b ∧ e.slot.any gone then { e with slot := none } else e) }

/-- Whether a slot lies in a window's private set. -/
def privateSlot (win : Nat) (i : Fin 104) : Bool := i.val ≥ 8 && (i.val - 8) / 8 == 2 * (win % 6) + 1

/-- The window advance of a bank of a core: the new window's private set reads as RAW zero, whatever is in flight (05 R170,
R172). -/
def Core.advance (k : Core) (b : BankId) : Core :=
  (k.dropResults b (privateSlot ((tswCwp (k.bank b).tsw + 1) % 6))).modBank b Bank.advance

/-- The window advance in the state. -/
def State.advance (s : State) (c : CoreId) (b : BankId) : State := s.modCore c (fun k => k.advance b)

/-- The window retreat where WVAL is above 1 (05 R172). -/
def Bank.retreat (k : Bank) : Bank :=
  { k with tsw := setField (setField k.tsw 43 3 ((tswCwp k.tsw + 5) % 6)) 40 3 (tswWval k.tsw - 1) }

/-! ### Tags (04 R136) -/

abbrev tRAW : BitVec 4 := 0x0
abbrev tBIN : BitVec 4 := 0x1
abbrev tDEC : BitVec 4 := 0x2
abbrev tDFF : BitVec 4 := 0x3
abbrev tDFI : BitVec 4 := 0x4
abbrev tDFQ : BitVec 4 := 0x5
abbrev tDFS : BitVec 4 := 0x6
abbrev tB64 : BitVec 4 := 0x7
abbrev tREF : BitVec 4 := 0x8
abbrev tDWH : BitVec 4 := 0x9
abbrev tDWL : BitVec 4 := 0xA
abbrev tPOISON : BitVec 4 := 0xF

/-- A BIN value of a natural number modulo 2^128. -/
def binNat (n : Nat) : TVal := ⟨tBIN, BitVec.ofNat 128 n⟩

/-- Bits lo to lo + len - 1 of a payload. -/
def bits (v : Payload) (lo len : Nat) : Nat := v.toNat / 2 ^ lo % 2 ^ len

/-- A tag from 0xB to 0xE (04 R136, R825). -/
def reservedTag (t : BitVec 4) : Bool := 0xB ≤ t.toNat && t.toNat ≤ 0xE

/-- Whether a payload is malformed under its tag (04 R138). -/
def malformed (v : TVal) : Bool :=
  match v.tag with
  | 0x2 => bits v.val 110 11 != 0 || bits v.val 121 6 > 32
  | 0x3 => bits v.val 110 5 != 0
  | 0x4 => bits v.val 0 127 != 0
  | 0x5 | 0x6 => bits v.val 110 17 != 0
  | 0x7 => bits v.val 64 64 != 0
  | 0x8 => bits v.val 70 58 != 0 || bits v.val 0 32 + bits v.val 32 32 > 2 ^ 32
  | 0x9 => bits v.val 110 11 != 0 || bits v.val 121 6 > 32
  | 0xA => bits v.val 110 18 != 0
  | 0xF => bits v.val 8 120 != 0
  | _ => false

/-! ### Memories (04 R131, R134; 05 R183; 12 R481) -/

/-- Where an address of the core address map lies: the core's own bench memory or bay memory, and the granule. -/
inductive Loc where
  | bench (g : Nat)
  | bay (g : Nat)
  deriving DecidableEq, Repr

/-- The granule that holds a byte address (05 R183). -/
def locOf (addr : Nat) : Option Loc :=
  if addr ≤ 0x7FFFF then some (.bench (addr / 16))
  else if 0x10000000 ≤ addr ∧ addr ≤ 0x13EBFFFF then some (.bay ((addr - 0x10000000) / 16))
  else none

/-- Whether an address lies in bay memory. -/
def isBay (addr : Nat) : Bool := 0x10000000 ≤ addr && addr ≤ 0x13EBFFFF

/-- Whether an address lies in bench memory. -/
def isBench (addr : Nat) : Bool := addr ≤ 0x7FFFF

/-- A granule of a core's address map; an unmapped one reads as RAW zero, and no access reaches it. -/
def State.gran (s : State) (c : CoreId) (addr : Nat) : TVal :=
  match locOf addr with
  | some (.bench g) => (s.core c).bench.get TVal.zero g
  | some (.bay g) => s.bay.get TVal.zero g
  | none => TVal.zero

/-- A granule written whole. -/
def State.setGran (s : State) (c : CoreId) (addr : Nat) (v : TVal) : State :=
  match locOf addr with
  | some (.bench g) => s.modCore c (fun k => { k with bench := k.bench.set TVal.zero g v })
  | some (.bay g) => { s with bay := s.bay.set TVal.zero g v }
  | none => s

/-- The frame entry of the frame that holds an address (12 R488, R489). -/
def State.frame (s : State) (c : CoreId) (addr : Nat) : Option FrameEntry :=
  match locOf addr with
  | some (.bench _) => some ((s.core c).frames.get FrameEntry.zero (addr / 4096))
  | some (.bay _) => some (s.bayFrames.get FrameEntry.zero ((addr - 0x10000000) / 4096))
  | none => none

/-- The frame entry written. -/
def State.setFrame (s : State) (c : CoreId) (addr : Nat) (e : FrameEntry) : State :=
  match locOf addr with
  | some (.bench _) => s.modCore c (fun k => { k with frames := k.frames.set FrameEntry.zero (addr / 4096) e })
  | some (.bay _) => { s with bayFrames := s.bayFrames.set FrameEntry.zero ((addr - 0x10000000) / 4096) e }
  | none => s

/-- One octet of a core's address map. -/
def State.byte (s : State) (c : CoreId) (addr : Nat) : Byte :=
  BitVec.ofNat 8 (((s.gran c addr).val.toNat / 2 ^ (8 * (addr % 16))) % 256)

/-- n octets from an address on. -/
def State.octets (s : State) (c : CoreId) (addr n : Nat) : Octets :=
  (List.range n).map (fun i => s.byte c (addr + i))

/-- An octet of a payload replaced. -/
def putByte (v : Payload) (i : Nat) (b : Byte) : Payload :=
  (v &&& ~~~ (BitVec.ofNat 128 (255 * 2 ^ (8 * i)))) ||| BitVec.ofNat 128 (b.toNat * 2 ^ (8 * i))

/-- One octet stored: the granule becomes RAW and keeps its other octets (04 R161). -/
def State.setByte (s : State) (c : CoreId) (addr : Nat) (b : Byte) : State :=
  s.setGran c addr ⟨tRAW, putByte (s.gran c addr).val (addr % 16) b⟩

/-- Octets stored from an address on (04 R161). -/
def State.setOctets (s : State) (c : CoreId) : Nat → Octets → State
  | _, [] => s
  | addr, b :: r => (s.setByte c addr b).setOctets c (addr + 1) r

/-- The HBM capacity in octets (12 R485). -/
def Variant.gib : Variant → Nat
  | .h48 => 48
  | .h96 => 96

/-- A granule of HBM. -/
def State.hbmGran (s : State) (off : Nat) : TVal := s.hbm.get TVal.zero (off / 16)

/-- A granule of HBM written. -/
def State.setHbmGran (s : State) (off : Nat) (v : TVal) : State := { s with hbm := s.hbm.set TVal.zero (off / 16) v }

/-! ### Small helpers -/

/-- The state with an emission added. -/
def State.emit (s : State) (e : Emission) : State := { s with out := s.out ++ [e] }

/-- The state after a reply. -/
def State.reply (s : State) (d : Octets) : State := s.emit (.reply d)

/-- The next n free octets (16 R631). Log entry 15. -/
def freeOctets (s : State) (n : Nat) : Octets := (List.range n).map (fun i => Config.freeOctet (s.freeCtr + i))

/-- The state with n free values used. -/
def State.useFree (s : State) (n : Nat) : State := { s with freeCtr := s.freeCtr + n }

/-- The control core (02 R52). -/
def State.controlCore (s : State) : CoreId := s.adm.cfg.r0CoreId

/-- The span length in cycles (02 R29). -/
def spanCycles (k : Nat) : Nat := k * 500000

/-- The cycle within the span as a 32-bit field (09 R378). -/
def State.spanCyc32 (s : State) : W32 := BitVec.ofNat 32 s.t.cyc

/-- The device in service: booted, cores not all held (19 R742). -/
def State.booted (s : State) : Bool := s.svc.stage == .running

/-- Whether the boot has come as far as step 10 (19 R742, R743). -/
def State.bootDone (s : State) : Bool := s.svc.stage == .running || s.svc.stage == .waitTimein || s.svc.stage == .waitSync

/-- Whether the module is powered: P0, P1 or P2. -/
def State.powered (s : State) : Bool := s.power.st != .p3 && s.power.st != .p4

/-- A saturating increment. -/
def satInc (n limit : Nat) : Nat := if n < limit then n + 1 else limit

end Sys2Proof.Machine
end

