-- ==== Sys2Proof/Machine/Records.lean ====
section
/-! DEFINITION. What the block writes down and sends: the regulator port's frames (16 R649, R650), the trouble record
(19 R753 to R757), interrupts and notices (03 R122 to R124), pauses (02 R70, 21 R807), completions (03 R99, R104). -/

namespace Sys2Proof.Machine

/-! ### Regulator port -/

/-- A frame's payload on the regulator port: the header of R649 and the body. -/
def regPayload (s : State) (msg : Nat) (body : Octets) : Octets :=
  [0x01, octet msg, octet s.chain.cfg.device, 0] ++ leBytes 2 body.length ++ zeros 2
    ++ leBytes 4 s.chain.cfg.chainId.toNat ++ zeros 4 ++ leBytes 8 (s.reg.seqOut + 1) ++ body

/-- The Ethernet header of a frame sent on the regulator port: DA broadcast, SA, EtherType 0x88B6 (16 R649). -/
def regEth (s : State) : Octets :=
  List.replicate 6 0xFF ++ [0x02, 0x56, 0x53, 0x01, 0x00, octet s.chain.cfg.device, 0x88, 0xB6]

/-- A message sent on the regulator port. While the link is down, span headers and evidence records wait (16 R651);
trouble entries come with the replay; the others are not sent. -/
def regSend (s : State) (msg : Nat) (body : Octets) : State :=
  if s.reg.up then
    let p := regPayload s msg body
    { s with reg := { s.reg with seqOut := s.reg.seqOut + 1, since := s.reg.since ++ [p] }, out := s.out ++ [.regFrame (regEth s) p] }
  else if msg = 2 ∨ msg = 4 then { s with reg := { s.reg with held := s.reg.held ++ [(msg, body)] } }
  else s

/-! ### Trouble record -/

/-- The octets of an entry (19 R753). -/
def trOctets (s : State) (pinned : Bool) (code source core : Nat) (data : Octets) : Octets :=
  let b := leBytes 4 0x54455254 ++ [0x5A, if pinned then 1 else 0] ++ leBytes 2 code ++ leBytes 8 (s.svc.trSeq + 1)
    ++ leBytes 6 s.t.span ++ [octet source, octet core] ++ leBytes 4 s.t.cyc ++ leBytes 4 s.svc.bootCount
    ++ padTo 64 data ++ zeros 28
  b ++ leBytes 4 (crc32c b).toNat

/-- Whether a slot holds a pinned entry. -/
def trPinnedAt (tr : List TrEntry) (slot : Nat) : Bool :=
  tr.any (fun e => e.slot == slot && e.data.getD 5 0 == 1)

/-- The next slot of the rolling area that holds no pinned entry, from p on (19 R755). -/
def trNext (tr : List TrEntry) : Nat → Nat → Option Nat
  | 0, _ => none
  | n + 1, p => if trPinnedAt tr p then trNext tr n (if p = 524287 then 131072 else p + 1) else some p

/-- The slot an entry goes to (19 R755). -/
def trSlot (s : State) (pinned : Bool) : Option Nat :=
  if pinned ∧ s.svc.trPinned < 131072 then some s.svc.trPinned else trNext s.svc.tr 393216 s.svc.trRing

/-- An alert bit set (19 R752). -/
def State.alert (s : State) (bit : Nat) : State :=
  { s with svc := { s.svc with alerts := s.svc.alerts ||| BitVec.ofNat 7 (2 ^ bit) } }

/-- An entry written to the trouble record (19 R755, R757) and sent on the regulator port (16 R650). -/
def State.trouble (s : State) (pinned : Bool) (code source core : Nat) (data : Octets) : State :=
  match trSlot s pinned with
  | none => ({ s with svc := { s.svc with trLost := s.svc.trLost + 1 } }).alert 5
  | some p =>
    let o := trOctets s pinned code source core data
    let s1 := { s with svc := { s.svc with
      tr := s.svc.tr.filter (fun e => e.slot != p) ++ [⟨p, s.svc.trSeq + 1, o⟩],
      trSeq := s.svc.trSeq + 1,
      trPinned := if p < 131072 then s.svc.trPinned + 1 else s.svc.trPinned,
      trRing := if p < 131072 then s.svc.trRing else if p = 524287 then 131072 else p + 1 } }
    regSend (if pinned then s1.alert 0 else s1) 5 o

/-! ### Interrupts, notices, pauses -/

/-- Whether a host access waits in the link: Bus Master Enable is set and the link is up but out of L0 (03 R81). -/
def State.linkWaits (s : State) : Bool := s.host.bme && s.host.dllUp && !s.host.linkL0

/-- A request that the link carries: sent at once in L0, otherwise waiting in the link until it returns to L0 (03 R81). -/
def State.linkEmit (s : State) (e : Emission) : State :=
  if s.host.linkL0 && s.host.dllUp then s.emit e else { s with host := { s.host with linkq := s.host.linkq ++ [e] } }

/-- Whether a vector's messages are sent: MSI-X Enable and Bus Master Enable set, the function and the vector not masked (03 R81,
R124; log entry 9). -/
def HostIf.mayMsix (h : HostIf) (v : Nat) : Bool :=
  h.msixOn && h.bme && !h.msixMask && !(h.msix.get MsixEntry.zero v).masked

/-- A message on a vector, or its pending bit (03 R81, R124). -/
def State.msixSend (s : State) (v : Nat) : State :=
  let e := s.host.msix.get MsixEntry.zero v
  if s.host.mayMsix v then s.linkEmit (.msix v e.addr e.data)
  else { s with host := { s.host with msix := s.host.msix.set MsixEntry.zero v { e with pending := true } } }

/-- A notice raised: a message on vector 0 at its change from clear to set (03 R122, 21 R816). -/
def State.raiseNotice (s : State) (bit : Nat) : State :=
  if s.host.notice.getLsbD bit then s
  else ({ s with host := { s.host with notice := s.host.notice ||| BitVec.ofNat 6 (2 ^ bit) } }).msixSend 0

/-! ### Completions (03 R99 to R104) -/

/-- Whether the completions of a span are decided: its quorum met or its deadline passed (14 R568). -/
def spanDecided (s : State) (n : Nat) : Bool := s.scribe.segments.any (fun g => g.own && g.span == n && g.decided)

/-- Whether a span is QUORUM_SHORT. -/
def spanShort (s : State) (n : Nat) : Bool := s.scribe.segments.any (fun g => g.own && g.span == n && g.short)

/-- The quorum of a sealed span (14 R551), or the one in force. -/
def spanQuorum (s : State) (n : Nat) : Nat :=
  match s.scribe.segments.find? (fun g => g.own && g.span == n && g.header.isSome) with
  | some g => g.quorum
  | none => s.chain.cfg.quorum

/-- The completion as its span's durability makes it (03 R104): DONE_QUORUM_SHORT has DETAIL 0. -/
def durable (s : State) (short : Bool) (c : Cpl) : Cpl :=
  if c.journalled then
    { c with status := if short ∧ c.status = 0 then 1 else c.status,
             detail := if short ∧ c.status = 0 then 0 else c.detail,
             durability := if short ∨ spanQuorum s c.span = 0 then 1 else 2 }
  else c

/-- A completion queued at once, or kept until its span's durability is decided (01 R23). -/
def State.complete (s : State) (c : Cpl) : State :=
  if c.order < s.host.discardBelow then s
  else if c.journalled ∧ !spanDecided s c.span then { s with host := { s.host with waiting := s.host.waiting ++ [c] } }
  else { s with host := { s.host with queue := s.host.queue ++ [durable s (spanShort s c.span) c] } }

/-- Insertion in order of consumption (03 R121). -/
def insertCpl (c : Cpl) : List Cpl → List Cpl
  | [] => [c]
  | d :: r => if c.order < d.order then c :: d :: r else d :: insertCpl c r

/-- The completions of a span queued, in order of consumption (03 R121, 14 R568). -/
def State.releaseSpan (s : State) (n : Nat) (short : Bool) : State :=
  let mine := (s.host.waiting.filter (fun c => c.span == n)).foldl (fun l c => insertCpl c l) []
  { s with host := { s.host with
      waiting := s.host.waiting.filter (fun c => c.span != n),
      queue := s.host.queue ++ mine.map (durable s short) } }

/-- The status codes of 03 R104. -/
abbrev stDONE : Nat := 0x00
abbrev stBADFIELD : Nat := 0x10
abbrev stBADCLASS : Nat := 0x11
abbrev stBADRING : Nat := 0x12
abbrev stBADCERT : Nat := 0x13
abbrev stBUDGET : Nat := 0x20
abbrev stJOBFAULT : Nat := 0x21
abbrev stCHAIN : Nat := 0x40

/-- The completion of a device command (03 R104): its one journal record counts. -/
def cmdCpl (d : DevCmd) (status detail resBytes : Nat) (jobWord : W32) : Cpl :=
  ⟨d.order, 0, d.count, BitVec.ofNat 32 (fieldAt d.desc 4 4), d.span, status, detail, resBytes, jobWord, 1,
   (d.desc.getD 2 0).getLsbD 0, true, 0, [], false⟩

/-- The completion of a job (03 R104; 02 R75). -/
def jobCpl (j : JobRun) (status detail resBytes : Nat) (jobWord : W32) : Cpl :=
  ⟨j.job.id, j.job.ring, j.job.count, BitVec.ofNat 32 (fieldAt j.job.desc 4 4), j.job.span, status, detail, resBytes,
   jobWord, j.scrUsed, (j.job.desc.getD 2 0).getLsbD 0, true, 0, [], false⟩

/-! ### Leaves (14 R544, R545) -/

/-- Leaf data: the scribe's 16 octets and the body. -/
def leafData (kind core bank cls ring count : Nat) (body : Octets) : Octets :=
  leBytes 2 body.length ++ [octet kind, octet core, octet bank, 0] ++ leBytes 2 cls ++ leBytes 2 ring ++ zeros 2
    ++ leBytes 4 count ++ body

/-- A leaf appended to the present span, after those it holds. -/
def State.appendLeaf (s : State) (data : Octets) (c : CoreId) (b : BankId) (job : Option Nat) : State :=
  { s with scribe := { s.scribe with leaves := s.scribe.leaves ++ [⟨data, c, b, job, false, false⟩] } }

/-! ### Free hot-journal space (14 R560, R561) -/

/-- Blocks of the hot journal. -/
abbrev hjBlocks : Nat := 33554432

/-- Whether a segment's blocks are free for reuse: drained, and for an own segment acknowledged by the quorum (14 R560). -/
def Segment.isFree (g : Segment) : Bool :=
  g.header.isSome && g.drained ≥ g.blocks && (!g.own || g.acked.length ≥ g.quorum)

/-- The free blocks of the hot journal (14 R561). -/
def freeBlocks (s : State) : Nat :=
  hjBlocks - (s.scribe.segments.foldl (fun n g => if g.isFree then n else n + g.blocks) 0)

/-- The room a span needs (14 R561). -/
def spanRoom (s : State) : Nat := s.t.k * 9000 + 15

/-- The leaf blocks of leaf data (14 R557). -/
def leafBlocks (d : Octets) : Nat := (d.length + 63) / 64

end Sys2Proof.Machine
end

