-- ==== Sys2Proof/Machine/Events.lean ====
section
/-! DEFINITION. Event sources and the wakes they bring (09 R362, R367 to R371, R407), and the changes of the pause
reasons (02 R70, 21 R807). -/

namespace Sys2Proof.Machine

/-- The bank a source targets: 31 names the bank executing, the one bank T serves, or bank 0 (09 R373). -/
def targetBank (k : Core) (t : Nat) : BankId :=
  if t = 31 then (if k.tActive then k.served else k.running.getD 0) 
  else if h : t < 17 then ⟨t, h⟩ else 0

/-- The source's level (09 R371 for MCHECK, otherwise from the copy of R375). -/
def sourceLevel (k : Core) (src : Nat) : Nat := (k.ev.get EvCopy.zero src).level

/-- The pending source of highest level, then lowest number, that is deliverable to a bank under a mask (09 R362, R369). -/
def bestPending (k : Core) (b : BankId) (mask : Nat) (skipWake : Bool) : Option Pending :=
  (k.pend.filter fun p => p.bank == b && sourceLevel k p.src > mask && !(skipWake && (k.ev.get EvCopy.zero p.src).wake)).foldl
    (fun best p => match best with
      | none => some p
      | some q => if sourceLevel k p.src > sourceLevel k q.src
          ∨ (sourceLevel k p.src = sourceLevel k q.src ∧ p.src < q.src) then some p else some q) none

/-- A bank made READY at a moment (09 R401, R402). -/
def Bank.makeReady (k : Bank) (now : Nat) : Bank := { k with st := .ready, wait := none, readySince := now }

/-- The TSB of a bank: the octets at an offset, written without a key check (09 R376); R376's frames only. -/
def State.tsbOk (s : State) (c : CoreId) (b : BankId) : Bool :=
  let a := (s.bank c b).tsbr.toNat
  isBench a && (match s.frame c a with | some e => e.st == .data | none => false)

/-- Octets written by an engine or by an entry: into DATA frames alone (05 R190, 12 R493), and a POISON granule keeps its
contents (04 R161; 12 R500). -/
def State.engPut (s : State) (c : CoreId) : Nat → Octets → State
  | _, [] => s
  | a, b :: r =>
    let open_ := (match s.frame c a with | some e => e.st == .data | none => false) && (s.gran c a).tag != tPOISON
    (if open_ then s.setByte c a b else s).engPut c (a + 1) r

/-- Octets of a bank's TSB written (09 R377). Log entry 18. -/
def State.tsbPut (s : State) (c : CoreId) (b : BankId) (off : Nat) (d : Octets) : State :=
  if s.tsbOk c b then s.engPut c ((s.bank c b).tsbr.toNat + off) d else s

/-- A field of a bank's TSB. -/
def State.tsbGet (s : State) (c : CoreId) (b : BankId) (off len : Nat) : Octets :=
  s.octets c ((s.bank c b).tsbr.toNat + off) len

/-- A bank no longer waits for a slot of the scribe's buffer (14 R547). -/
def State.leaveScribe (s : State) (c : CoreId) (b : BankId) : State :=
  { s with scribe := { s.scribe with waitq := s.scribe.waitq.filter (· != (c, b)) } }

/-- WOKEN of a task bank's TSB (09 R377, R407); in bank 0 the device writes no offset from 4 to 127. -/
def State.putWoken (s : State) (c : CoreId) (b : BankId) (src : Nat) : State :=
  if b = 0 then s else s.tsbPut c b 28 (leBytes 2 src)

/-- A BLOCKED bank of a core to which a source has become deliverable: a WAKE source ends a WAIT EVENT, its number in
WOKEN (09 R407); any other makes the bank READY (09 R401). -/
def State.wakeBank (s : State) (c : CoreId) (b : BankId) : State :=
  let k := s.core c
  let bk := k.bank b
  if bk.st = .blocked then
    match bestPending k b (tswMask bk.tsw) (bk.wait != some .event) with
    | none => s
    | some p =>
      let s1 := s.modBank c b (fun v => v.makeReady s.t.clock)
      if (k.ev.get EvCopy.zero p.src).wake then
        (s1.modCore c (fun k => { k with pend := k.pend.filter (· != p) })).putWoken c b p.src
      else s1
  else s

/-- A source raised on a core, with its detail (09 R368): a disabled or pending one changes nothing. -/
def State.raiseOn (s : State) (c : CoreId) (src detail : Nat) : State :=
  let k := s.core c
  let e := k.ev.get EvCopy.zero src
  if e.level = 0 ∨ k.pend.any (fun p => p.src == src) then s
  else
    let b := targetBank k e.target
    (s.modCore c (fun k => { k with pend := k.pend ++ [⟨src, detail, b⟩] })).wakeBank c b

/-- A source raised on the control core (09 R367). -/
def State.raise (s : State) (src detail : Nat) : State := s.raiseOn s.controlCore src detail

/-- A source raised on every running core (09 R367). -/
def State.raiseAll (s : State) (src detail : Nat) : State :=
  s.forCores (fun c t => if (t.core c).able then t.raiseOn c src detail else t)

/-- The pause reasons set; one that arises in a sill marks the span PAUSED (14 R551); a change raises PAUSE_CHANGE and source 11
(03 R122, 09 R367, 21 R807). -/
def State.setPaused (s : State) (p : BitVec 5) : State :=
  if p = s.adm.paused then s
  else
    (({ s with
      adm := { s.adm with paused := p }
      scribe := { s.scribe with spanPaused := s.scribe.spanPaused || (s.t.phase == Phase.sill && p != 0) } }).raiseNotice 5).raise 11 0

/-- One pause reason set or cleared: 0 FREEZE, 1 QUORUM_SHORT, 2 journal full, 3 settings check, 4 P2. -/
def State.pauseBit (s : State) (bit : Nat) (on : Bool) : State :=
  s.setPaused (if on then s.adm.paused ||| BitVec.ofNat 5 (2 ^ bit) else s.adm.paused &&& ~~~ (BitVec.ofNat 5 (2 ^ bit)))

/-- Poison made at an address: the count, source 14 and the trouble entry (12 R498). -/
def State.poisoned (s : State) (addr origin granules : Nat) : State :=
  (({ s with svc := { s.svc with memPoisoned := min (s.svc.memPoisoned + granules) (2 ^ 32 - 1) } }).raise 14 0).trouble
    false 0x0020 1 0xFF (leBytes 8 addr ++ [octet origin])

/-- A corrected error counted (12 R497). -/
def State.corrected (s : State) : State :=
  let n := s.svc.corrCount + 1
  let s1 := { s with svc := { s.svc with memCorr := s.svc.memCorr + 1, corrCount := if n ≥ s.svc.corrThr then 0 else n } }
  if n ≥ s.svc.corrThr then s1.raise 13 0 else s1

/-- Errors corrected in the reads of a run or a command (12 R497). -/
def State.correctedN (s : State) : Nat → State
  | 0 => s
  | n + 1 => s.corrected.correctedN n

/-- A POISON value of an origin (04 R148). -/
def poisonVal (origin : Nat) : TVal := ⟨tPOISON, BitVec.ofNat 128 origin⟩

/-- What the error correction does to the granule a core reads (12 R497, R498). -/
def State.eccGran (s : State) (c : CoreId) (addr : Nat) (e : Ecc) : State :=
  match e with
  | .clean => s
  | .corrected => s.corrected
  | .uncorrectable =>
    let o := if isBay addr then 2 else 1
    (s.setGran c addr (poisonVal o)).poisoned addr o 1

/-! ### The cartridge port (15 R611; 20 R791) -/

/-- Whether the cartridge port runs (17 R684, R692; 18 R734). -/
def State.cartOn (s : State) : Bool :=
  s.bootDone && (s.sec.life == .provisioned || s.sec.life == .sealed || s.sec.life == .tampered)
    && s.power.st != .p3 && s.power.st != .p4

/-- Whether the cartridge port is sequenced up (R791): the port runs, and a cartridge is in the slot and has not been released. -/
def State.cartPowered (s : State) : Bool := s.cartOn && s.cart.mount != .absent && s.cart.mount != .safe

/-- The port's lands in the order of R791: up at an insertion, down after an eject, or at once at a removal, which stops the clock
too. The times between them are left out. -/
def State.cartUp (s : State) : State := ((s.emit (.cartLand .cpwren true)).emit (.cartLand .crefclk true)).emit (.cartLand .cperstN true)
def State.cartDown (s : State) : State := ((s.emit (.cartLand .cperstN false)).emit (.cartLand .crefclk false)).emit (.cartLand .cpwren false)

end Sys2Proof.Machine
end

