-- ==== Sys2Proof/Machine/Frames.lean ====
section
/-! DEFINITION. Chain frames as a port sends them (14 R574 to R581), the intent records of field update (18 R719, R720), and
the P2 reasons (17 R685 to R688). -/

namespace Sys2Proof.Machine

/-- The octets of a frame's common header (14 R576). -/
def hdrOctets (h : ChainHdr) : Octets :=
  [h.ver, h.cls, h.src, h.dst, h.hops, h.flags] ++ leBytes 2 h.len ++ leBytes 4 h.chainId.toNat
    ++ leBytes 2 h.spanLen.toNat ++ zeros 2 ++ leBytes 8 h.seq.toNat

/-- The GCM nonce of a direction: the sender's identifier, its port, two zero octets, then SEQ (14 R577, R591). -/
def linkNonce (sender port : Nat) (seq : W64) : Octets :=
  [octet sender, octet port, 0, 0] ++ leBytes 8 seq.toNat

/-- The lane of a frame (14 R575): 0 control, 1 acknowledgement, 2 record, 3 attestation, 4 update. ECHO and ECHO_REPLY
take the acknowledgement lane. -/
def laneOf (cls : Nat) (body : Octets) : Nat :=
  match cls with
  | 1 => if body.head? = some 1 ∨ body.head? = some 2 then 1 else 0
  | 4 => 0
  | 3 => 1
  | 2 => 2
  | 6 => 3
  | _ => 4

/-- A port of the chain. -/
def State.port (s : State) (p : Port) : ChainPort := s.chain.ports[p]

/-- A port changed. -/
def State.modPort (s : State) (p : Port) (f : ChainPort → ChainPort) : State :=
  { s with chain := { s.chain with ports := s.chain.ports.set p (f (s.port p)) } }

/-- The station address of a device on a chain link (14 R574). -/
def station (dev : Nat) : Octets := [0x02, 0x56, 0x53, 0x00, 0x00, octet dev]

/-- The PCP of a lane (14 R575). -/
def lanePcp (lane : Nat) : Nat := [7, 6, 4, 2, 1].getD lane 1

/-- What precedes the common header of a sent frame (14 R574): DA, SA, the 802.1Q tag with VID 0, the EtherType. Which device is
the neighbour is known from its HELLO; until then the DA's last octet is open (log entry 104). -/
def State.ethHeader (s : State) (p : Port) (lane : Nat) : Octets :=
  let q := s.port p
  station (if q.helloOk then q.peer else Config.freeValue 96 p.val) ++ station s.chain.cfg.device
    ++ [0x81, 0x00, octet (32 * lanePcp lane), 0x00, 0x88, 0xB5]

/-- A frame put on a port: encrypted under the link key unless it is an attestation frame (14 R577). -/
def State.transmit (s : State) (p : Port) (x : TxFrame) : State :=
  let q := s.port p
  let seq : W64 := BitVec.ofNat 64 (q.seqSent + 1)
  let h : ChainHdr := ⟨1, octet x.cls, octet x.src, octet x.dst, octet x.hops, octet x.flags, x.body.length,
    s.chain.cfg.chainId, BitVec.ofNat 16 s.t.k, seq⟩
  let (body, tag) := if x.cls = 6 then (x.body, zeros 16)
    else gcmSeal q.sendKey (linkNonce s.chain.cfg.device p.val seq) (hdrOctets h) x.body
  let lane := laneOf x.cls x.body
  (s.modPort p (fun q => { q with seqSent := q.seqSent + 1, ctlSent := if lane = 0 then q.ctlSent + 1 else q.ctlSent })).emit
    (.frame p (s.ethHeader p lane) h body tag)

/-- The octets of a frame with a payload: Ethernet header and tag, common header, GCM tag, FCS (14 R574, R576). -/
def frameLength (body : Octets) : Nat := 18 + 24 + body.length + 16 + 4

/-- A frame sent on a port: only a MEMBER port carries classes 1 to 5 (14 R593); a paused lane keeps it; of the control lane, 64
frames go in a span and the others wait for the next one, and none is longer than 512 octets (14 R575; log entry 104). -/
def State.sendOn (s : State) (p : Port) (x : TxFrame) : State :=
  let q := s.port p
  let lane := laneOf x.cls x.body
  if x.cls != 6 && q.st != .member then s
  else if lane = 0 ∧ frameLength x.body > 512 then s
  else if q.paused.getD lane false || (lane == 0 && q.ctlSent ≥ 64) then s.modPort p (fun q => { q with txq := q.txq ++ [x] })
  else s.transmit p x

/-- The frames a port keeps of one lane taken out of its queue and sent. -/
def State.releaseLane (s : State) (p : Port) (n : Nat) : State :=
  let mine := (s.port p).txq.filter (fun x => laneOf x.cls x.body == n)
  mine.foldl (fun t x => t.sendOn p x)
    (s.modPort p (fun q => { q with txq := q.txq.filter (fun x => laneOf x.cls x.body != n) }))

/-- The control lanes in a new span (14 R575). -/
def State.newControlSpan (s : State) : State :=
  ([0, 1, 2, 3] : List Port).foldl (fun t p => (t.modPort p (fun q => { q with ctlSent := 0 })).releaseLane p 0) s

/-- A port number of a route entry; 7 is none (14 R598). -/
def routePort (n : Nat) : Option Port := if h : n < 4 then some ⟨n, h⟩ else none

/-- The port towards a device: the primary of its route if MEMBER, otherwise the alternate if that is (14 R578). -/
def State.route (s : State) (dst : Nat) : Option Port :=
  let e := (s.chain.cfg.routes.getD dst 0x77).toNat
  match routePort (e % 8), routePort (e / 16 % 8) with
  | some p, alt => if (s.port p).st = .member then some p else
      match alt with
      | some a => if (s.port a).st = .member then some a else none
      | none => none
  | none, some a => if (s.port a).st = .member then some a else none
  | none, none => none

/-- A frame sent to a device over its route (14 R578), HOPS 8 at the origin (14 R576). -/
def State.sendTo (s : State) (dst cls flags : Nat) (body : Octets) : State :=
  match s.route dst with
  | none => s
  | some p => s.sendOn p ⟨cls, s.chain.cfg.device, dst, 8, flags, body⟩

/-- A frame to the neighbour of a port only (14 R576). -/
def State.sendNear (s : State) (p : Port) (cls : Nat) (body : Octets) : State :=
  s.sendOn p ⟨cls, s.chain.cfg.device, 0, 8, 0, body⟩

/-- Every port. -/
def allPorts : List Port := [0, 1, 2, 3]

/-! ### Keys in use -/

/-- A key slot (17 R662). -/
def State.key (s : State) (slot : Nat) : Option Key := s.sec.slots.get none slot

/-- The octets of a key slot; empty where it holds none. -/
def State.keyOctets (s : State) (slot : Nat) : Octets :=
  match s.key slot with
  | some k => k.key
  | none => []

/-- A signature under a private slot over SHA-384 of a message, with the next 48 free octets as nonce; zero octets
where the slot is empty. -/
def State.sign (s : State) (slot : Nat) (msg : Octets) : Octets :=
  match s.key slot with
  | some k => ecdsaSign k.key (freeOctets s 48) (sha384 msg)
  | none => zeros 96

/-- The KEY_ID of a private slot (17 R824). -/
def State.privKeyId (s : State) (slot : Nat) : Octets :=
  match s.key slot with
  | some k => keyIdOf (ecPublic k.key)
  | none => zeros 16

/-- SHA-384 of the device certificate and of the manufacture certificate (17 R662). -/
def State.devCertDigest (s : State) : Octets := sha384 s.sec.devCert
def State.mfgCertDigest (s : State) : Octets := sha384 s.sec.mfgCert

/-- The active slot and the other one (18 R703). -/
def State.slotOf (s : State) (n : Nat) : BootSlot := if n = 0 then s.upd.slotA else s.upd.slotB
def State.activeSlot (s : State) : BootSlot := s.slotOf s.upd.active
def State.setSlot (s : State) (n : Nat) (b : BootSlot) : State :=
  if n = 0 then { s with upd := { s.upd with slotA := b } } else { s with upd := { s.upd with slotB := b } }

/-! ### Intent records and reports (18 R719 to R727, R731) -/

/-- The newest intent record. -/
def State.newestIntent (s : State) : Option Intent := s.upd.intents.getLast?

/-- The newest step, 0 where there is none. -/
def State.intentStep (s : State) : Nat := match s.newestIntent with | some i => i.step | none => 0

/-- An intent record written (18 R719); the log holds 16,384 blocks. -/
def State.writeIntent (s : State) (step role span boot arg : Nat) (digest : Octets) : State :=
  let seq := (match s.newestIntent with | some i => i.seq | none => 0) + 1
  let l := s.upd.intents ++ [⟨step, role, seq, span, boot, arg, digest⟩]
  { s with upd := { s.upd with intents := if l.length > 16384 then l.drop 1 else l } }

/-- The pinned entry of R731. -/
def State.updTrouble (s : State) (step reason : Nat) (digest : Octets) : State :=
  s.trouble true 0x0070 1 0xFF ([octet step, octet reason] ++ digest.take 32)

/-- An activation is in progress from PREPARED until ABORT, CONVERTED or FELL_BACK (18 R720). -/
def State.activating (s : State) : Bool :=
  let n := s.intentStep
  n == 2 || n == 3 || (5 ≤ n && n ≤ 9)

/-- The body of an activation message (18 R721). -/
def actBody (code arg span : Nat) (digest : Octets) : Octets :=
  [octet code, octet arg, 0, 0] ++ leBytes 6 span ++ zeros 6 ++ digest

/-- A CONFIRM or REPORT sent to a device; while no route to it is a MEMBER, as after a reset, it waits (18 R721, R732; log entry
88). -/
def State.sendAct (s : State) (dst : Nat) (body : Octets) : State :=
  if (s.route dst).isSome then s.sendTo dst 1 0 body
  else { s with upd := { s.upd with act := { s.upd.act with unsent := s.upd.act.unsent ++ [(dst, body)] } } }

/-- The messages of activation that now have a route, sent in their order. -/
def State.sendUnsent (s : State) : State :=
  if s.upd.act.unsent.all (fun m => (s.route m.1).isNone) then s
  else
    (s.upd.act.unsent.filter (fun m => (s.route m.1).isSome)).foldl (fun t m => t.sendTo m.1 1 0 m.2)
      { s with upd := { s.upd with act := { s.upd.act with unsent := s.upd.act.unsent.filter (fun m => (s.route m.1).isNone) } } }

/-- The coordinator a manifest payload names (18 R705). -/
def payloadCoord (p : Octets) : Nat := (p.getD 7 0).toNat

/-- The devices a manifest payload lists (18 R705, R707). -/
def payloadDevices (p : Octets) : List Nat :=
  let parts := (p.getD 2 0).toNat
  (List.range (p.getD 6 0).toNat).map (fun i => (p.getD (64 + 64 * parts + 208 * i) 0).toNat)

/-- The other slot. -/
def otherSlot (n : Nat) : Nat := 1 - n

/-- The slot an activation leaves: the one its session was not installed into. -/
def Session.oldSlot (x : Session) : Nat := otherSlot x.slot

/-- Whether the activation runs with the device as its own coordinator whatever the manifest says: the first update of a device
whose set held no SUPERVISOR (18 R735). -/
def State.ownCoord (s : State) (x : Session) : Bool := x.st != .staging && !(s.slotOf x.oldSlot).supervised

/-- The devices of an activation (18 R721, R727): those the manifest lists, or this one alone. -/
def State.listed (s : State) (x : Session) : List Nat :=
  if s.ownCoord x then [s.chain.cfg.device] else payloadDevices x.payload

/-- Whether this device is the coordinator of the session's activation (18 R722, R735). -/
def State.isCoord (s : State) : Bool :=
  match s.upd.session with
  | some x => payloadCoord x.payload == s.chain.cfg.device || (x.payload.getD 3 0).getLsbD 0 == false || s.ownCoord x
  | none => false

/-- A P2 reason set (17 R685, R686): the span in which the first one arises is kept. -/
def State.setP2 (s : State) (bit : Nat) : State :=
  { s with power := { s.power with
      since := if s.power.reasons = 0 then some s.t.span else s.power.since,
      reasons := s.power.reasons ||| BitVec.ofNat 4 (2 ^ bit) } }

/-- P2 left when the last reason clears (17 R688, R694): the cores run on from where they stopped; halts of a SEALED device
are released. Admission decides from the next sill. -/
def State.leaveP2 (s : State) : State :=
  if s.power.reasons ≠ 0 then s
  else
    let sealed := s.sec.life == .sealed
    { s with
      power := { s.power with since := none, st := if s.power.st = .p2 then .p0 else s.power.st }
      cores := s.cores.map (fun (k : Core) => { k with
        p2stopped := false, step := false, haltReq := k.haltReq && !sealed, halted := k.halted && !sealed }) }

/-- P2 reasons cleared. -/
def State.clearP2 (s : State) (mask : BitVec 4) : State :=
  if s.power.reasons = 0 then s
  else ({ s with power := { s.power with reasons := s.power.reasons &&& ~~~mask } }).leaveP2

end Sys2Proof.Machine
end

