-- ==== Sys2Proof/Machine/Drbg.lean ====
section
/-! DEFINITION. The entropy source's tests and conditioning, and the two instances of CTR_DRBG with AES-256 and the derivation
function of NIST SP 800-90A (16 R627 to R632). -/

namespace Sys2Proof.Machine

/-! ### The continuous health tests (16 R628, R642) -/

/-- The figures of HEALTH in a window so far: the longest run, the occurrences of its first bit. -/
def EntropyMon.figures (m : EntropyMon) : W32 := BitVec.ofNat 32 (m.runMax % 65536 + m.count * 65536)

/-- Raw bits put through both tests: the monitor after them, the figures of the last window that is complete, and the test that
failed, 1 repetition count (41 identical bits in a row) or 2 adaptive proportion (800 occurrences of a window's first bit), with
the figures at its failure. No bit after a failure is taken. -/
def feed : EntropyMon → W32 → List Bool → EntropyMon × W32 × Option Nat
  | m, h, [] => (m, h, none)
  | m, h, b :: r =>
    let run := if m.last = some b then m.run + 1 else 1
    let start := m.pos = 0
    let m1 : EntropyMon := {
      last := some b, run := run, pos := (m.pos + 1) % 1024, first := if start then b else m.first
      count := if start then 1 else if b = m.first then m.count + 1 else m.count
      runMax := if start then run else max m.runMax run }
    if run ≥ 41 then (m1, m1.figures, some 1)
    else if m1.count ≥ 800 then (m1, m1.figures, some 2)
    else feed m1 (if m.pos = 1023 then m1.figures else h) r

/-! ### Conditioning (16 R630) -/

/-- Bits as octets, the first bit of eight the least significant. -/
def packBits : List Bool → Octets
  | a :: b :: c :: d :: e :: f :: g :: h :: r =>
    BitVec.ofNat 8 ([a, b, c, d, e, f, g, h].reverse.foldl (fun n x => 2 * n + x.toNat) 0) :: packBits r
  | [] => []
  | l => [BitVec.ofNat 8 (l.reverse.foldl (fun n x => 2 * n + x.toNat) 0)]

/-- A conditioned output of raw bits that passed the tests. -/
def condition (raw : List Bool) : Octets := sha384 (packBits raw)

/-- The entropy input that two conditioned outputs give: 512 bits. Log entry 106. -/
def entropyInput (raw1 raw2 : List Bool) : Octets := (condition raw1).take 32 ++ (condition raw2).take 32

/-! ### CTR_DRBG (16 R631, R632) -/

/-- V one further. -/
def Drbg.bump (d : Drbg) : Drbg := { d with v := beBytes 16 ((beNat d.v + 1) % 2 ^ 128) }

/-- The block at V. -/
def Drbg.block (d : Drbg) : Octets := aesEnc (roundKeys d.key) d.v

/-- CTR_DRBG_Update with 384 bits of data. -/
def Drbg.update (d : Drbg) (data : Octets) : Drbg :=
  let d1 := d.bump
  let d2 := d1.bump
  let d3 := d2.bump
  let t := xorOctets (d1.block ++ d2.block ++ d3.block) data
  { d with key := t.take 32, v := t.drop 32 }

/-- The chaining of Block_Cipher_df over whole blocks. -/
def bcc (rks : List Octets) (data : Octets) : Octets :=
  (List.range (data.length / 16)).foldl (fun c i => aesEnc rks (xorOctets c (slice data (16 * i) 16))) (zeros 16)

/-- Block_Cipher_df of an input string: 384 bits. -/
def cipherDf (input : Octets) : Octets :=
  let s := pad16 (beBytes 4 input.length ++ beBytes 4 48 ++ input ++ [0x80])
  let rks := roundKeys ((List.range 32).map octet)
  let t := (List.range 3).flatMap (fun i => bcc rks (beBytes 4 i ++ zeros 12 ++ s))
  let rk2 := roundKeys (t.take 32)
  let x1 := aesEnc rk2 (slice t 32 16)
  let x2 := aesEnc rk2 x1
  x1 ++ x2 ++ aesEnc rk2 x2

/-- An instance instantiated from entropy and a personalization string (R631); the entropy input holds the nonce's part too. -/
def Drbg.instantiate (entropy personal : Octets) : Drbg :=
  { (⟨zeros 32, zeros 16, 0⟩ : Drbg).update (cipherDf (entropy ++ personal)) with requests := 0 }

/-- An instance reseeded (R632). -/
def Drbg.reseed (d : Drbg) (entropy : Octets) : Drbg := { d.update (cipherDf entropy) with requests := 0 }

/-- The end of a generate request. -/
def Drbg.endRequest (d : Drbg) : Drbg := { d.update (zeros 48) with requests := d.requests + 1 }

/-- One generate request of n octets: the octets and the instance after it. -/
def Drbg.generate (d : Drbg) (n : Nat) : Octets × Drbg :=
  let l := (List.range ((n + 15) / 16)).foldl (fun (o, e) _ => (o ++ e.bump.block, e.bump)) (([] : Octets), d)
  (l.1.take n, l.2.endRequest)

/-- The words of a block, the least significant first (R637). -/
def blockWords (b : Octets) : List W32 := [0, 4, 8, 12].map (fun i => BitVec.ofNat 32 (leNat (slice b i 4)))

/-- The words that an instance yields in n blocks, 4,096 blocks to a request, `used` of the present one taken (R637). -/
def Drbg.words : (n used : Nat) → Drbg → List W32
  | 0, _, _ => []
  | n + 1, used, d =>
    let e := (if used = 4096 then d.endRequest else d).bump
    blockWords e.block ++ Drbg.words n (if used = 4096 then 1 else used + 1) e

/-- The instance after n blocks so taken. -/
def Drbg.after : (n used : Nat) → Drbg → Drbg
  | 0, _, d => d.endRequest
  | n + 1, used, d => Drbg.after n (if used = 4096 then 1 else used + 1) (if used = 4096 then d.endRequest else d).bump

/-! ### The service instance (16 R629, R631, R632) -/

/-- A request of n octets to the service instance: the octets and the state after it; none while it is not instantiated. It is
reseeded every 2^20 requests, from entropy whose raw bits no command brings (log entry 106). -/
def State.serviceOctets (s : State) (n : Nat) : Option (Octets × State) :=
  s.ds.service.map (fun d =>
    let due := d.requests ≥ 1048576
    let (o, e) := (if due then d.reseed (freeOctets s 64) else d).generate n
    let t := if due then s.useFree 64 else s
    (o, { t with ds := { t.ds with service := some e } }))

/-- 32 octets for a nonce that the security domain needs whatever the draw unit's state: of the service instance, and where that
is not instantiated octets that the spec leaves open (log entry 106). -/
def State.nonce32 (s : State) : Octets × State := (s.serviceOctets 32).getD (freeOctets s 32, s.useFree 32)

end Sys2Proof.Machine
end

