-- ==== Sys2Proof/Machine/Scribe.lean ====
section
/-! DEFINITION. The scribe and the hot journal: leaves written, segments, the seal, the quorum and its deadline, backfill
(14 R546, R550 to R572). -/

namespace Sys2Proof.Machine

/-! ### Entries sent to witnesses (14 R579) -/

/-- One entry of a witness record. -/
def recordEntry (span leaf typ : Nat) (data : Octets) : Octets :=
  leBytes 6 span ++ leBytes 3 leaf ++ [octet typ] ++ leBytes 2 data.length ++ data

/-- An entry sent to every listed witness (14 R564). -/
def State.toWitnesses (s : State) (entry : Octets) : State := s.chain.cfg.witness.foldl (fun t w => t.sendTo w 2 0 entry) s

/-! ### Segments -/

/-- The segment of the present span, its header not yet written. -/
def State.ownOpen (s : State) : Option Segment :=
  s.scribe.segments.find? (fun g => g.own && g.span == s.t.span && g.header.isNone)

/-- Whether two entries are of the same segment. -/
def Segment.same (a b : Segment) : Bool := a.own == b.own && a.source == b.source && a.span == b.span

/-- A segment replaced where it stands. -/
def State.setSegment (s : State) (g : Segment) : State :=
  { s with scribe := { s.scribe with segments := s.scribe.segments.map (fun h => if h.same g then g else h) } }

/-- A segment before its header: the start block and its leaves. -/
def Segment.fresh (start prev : Nat) (own : Bool) (source span len : Nat) : Segment :=
  ⟨start, prev, own, source, span, len, [], none, [], false, 0, [], [none, none, none], [], [], false, false, 0, false, 1, 0, false⟩

/-- The start of a segment written where the hot journal stands (14 R557, R558). -/
def State.startSegment (s : State) (own : Bool) (source span : Nat) : Segment :=
  Segment.fresh s.scribe.hjPos s.scribe.prevStart own source span s.t.k

/-- The oldest segments dropped while the hot journal holds more than its blocks and they are free (14 R557, R560). -/
def pruneSegments : Nat → List Segment → List Segment
  | 0, l => l
  | n + 1, l =>
    if (l.map Segment.blocks).sum ≤ hjBlocks then l
    else match l with
      | g :: r => if g.isFree then pruneSegments n r else g :: pruneSegments n r
      | [] => []

/-- A segment completed by its header: it takes its place in the hot journal after those completed before (log entry 41). -/
def State.completeSegment (s : State) (g : Segment) (header : Octets) : State :=
  let done : Segment := { g with
    start := s.scribe.hjPos, prev := s.scribe.prevStart, header := some header, waiting := []
    quorum := s.chain.cfg.quorum, witness := s.chain.cfg.witness, blocks := g.blocks + 14, readyAt := s.t.clock }
  let l := s.scribe.segments.filter (fun h => !h.same g) ++ [done]
  { s with scribe := { s.scribe with
    segments := pruneSegments l.length l, hjPos := s.scribe.hjPos + done.blocks, prevStart := s.scribe.hjPos } }

/-- The octets of an acknowledgement slot: three blocks (14 R557). -/
def ackOctets : Option AckSlot → Octets
  | none => zeros 192
  | some a => padTo 192 (padTo 160 a.payload ++ [octet a.st])

/-- The octets of a sealed segment (14 R557). -/
def Segment.octets (g : Segment) : Octets :=
  let leaves := g.leaves.map (fun (_, d) => d.getD [])
  padTo 64 (leBytes 4 0x53475354 ++ [if g.own then 1 else 2, octet g.source] ++ leBytes 2 g.spanLen ++ leBytes 6 g.span
      ++ zeros 2 ++ leBytes 8 (g.prev % hjBlocks))
    ++ leaves.flatMap (fun d => padTo (64 * leafBlocks d) d)
    ++ padTo 320 ((g.header.getD []) ++ leBytes 4 (1 + (leaves.map leafBlocks).sum))
    ++ g.acks.flatMap ackOctets

/-- The fullness threshold of the hot journal (14 R561). -/
def fullThreshold (s : State) : Nat := spanRoom s + 2097152

/-- The checks of R561 after blocks are taken: source 146 at fullness; below a span's room sealing stops, with a pinned
entry and P2 reason JOURNAL. Data admission pauses at the next sill (02, pause table). -/
def State.journalCheck (s : State) : State :=
  let n := freeBlocks s
  let s1 := if n < fullThreshold s ∧ !s.scribe.fullRaised then
      ({ s with scribe := { s.scribe with fullRaised := true } }).raise 146 0 else s
  if n < spanRoom s ∧ s.scribe.sealing then
    (({ s1 with scribe := { s1.scribe with sealing := false } }).trouble true 0x0030 4 0xFF (leBytes 4 n)).setP2 2
  else s1

/-! ### Leaves (14 R546, R557, R564) -/

/-- The first leaf not yet written marked, with its index. -/
def markWritten : Nat → List Leaf → Option (Nat × Leaf × List Leaf)
  | _, [] => none
  | i, l :: r =>
    if l.written then (markWritten (i + 1) r).map (fun (j, x, q) => (j, x, l :: q))
    else some (i, l, { l with written := true } :: r)

/-- The next leaf written to the hot journal and streamed to the witnesses. -/
def State.writeLeaf (s : State) : State :=
  match s.ownOpen, markWritten 0 s.scribe.leaves with
  | some g, some (i, l, q) =>
    let s1 : State := { s with scribe := { s.scribe with leaves := q } }
    let s2 := s1.setSegment { g with leaves := g.leaves.set none i (some l.data), blocks := g.blocks + leafBlocks l.data }
    (s2.toWitnesses (recordEntry s.t.span i 1 l.data)).journalCheck
  | _, _ => s

/-- LEAF_WRITE (R546). -/
def execLeafWrite (s : State) : Res := .next s.writeLeaf

/-! ### The quorum (14 R567, R568) -/

/-- Whether the deadline of a span has passed: the last cycle of the post of the span after it (14 R567). -/
def State.deadlinePassed (s : State) (n : Nat) : Bool :=
  s.t.span > n + 1 || (s.t.span == n + 1 && s.t.phase == .plate)

/-- The completions of a span decided by its quorum (14 R568). -/
def State.quorumMet (s : State) (g : Segment) : State :=
  if g.own ∧ g.header.isSome ∧ !g.decided ∧ g.onTime.length ≥ g.quorum then
    (s.setSegment { g with decided := true, readyAt := s.t.clock }).releaseSpan g.span false
  else s

/-- WITNESS_DEADLINE (R568): every sealed span whose deadline is the end of this post, or has passed, and whose quorum is
not met, becomes QUORUM_SHORT. Data admission pauses from the next sill. -/
def execWitnessDeadline (s : State) : Res :=
  if s.t.phase ≠ .post ∧ s.t.phase ≠ .plate then .next s
  else
    .next (s.scribe.segments.foldl (fun t g =>
      if g.own ∧ g.header.isSome ∧ !g.decided ∧ g.span < s.t.span then
        let u := (t.setSegment { g with decided := true, short := true, readyAt := s.t.clock }).releaseSpan g.span true
        (if u.chain.shortSpan ≠ 0 then u
          else { u with chain := { u.chain with shortSpan := g.span, backfill := [] } }).raise 128 0
      else t) s)

/-! ### The seal (14 R550 to R554) -/

/-- FLAGS of a header (14 R551). -/
def headerFlags (s : State) : Nat :=
  let first := s.scribe.lastHeader.isNone
  let prev := if first then 0 else s.scribe.lastSpan
  (if !first ∧ spanShort s s.scribe.lastSpan then 1 else 0) + (if s.t.span ≠ prev + 1 then 2 else 0)
    + (if first then 4 else 0) + (if s.scribe.spanPaused then 8 else 0)

/-- PREV_ACKS: the witnesses, in the order of the last sealed span's list, whose acknowledgement of it was in time
(14 R551). Log entry 95. -/
def prevAcks (s : State) : Nat :=
  match s.scribe.segments.find? (fun g => g.own && g.header.isSome && g.span == s.scribe.lastSpan) with
  | none => 0
  | some g => ((g.witness.zip [1, 2, 4]).filter (fun (w, _) => g.onTime.contains w)).foldl (fun n (_, b) => n + b) 0

/-- The header of the present span up to its signature (14 R551). -/
def headerBody (s : State) (leaves : List Octets) : Octets :=
  leBytes 2 1 ++ [octet s.chain.cfg.device, octet (headerFlags s)] ++ leBytes 2 s.t.k ++ [octet (prevAcks s), octet s.chain.cfg.quorum]
    ++ leBytes 6 s.t.span ++ zeros 2 ++ leBytes 4 leaves.length ++ leBytes 4 ((leaves.map List.length).sum)
    ++ leBytes 6 (if s.scribe.lastHeader.isNone then 0 else s.scribe.lastSpan) ++ zeros 2 ++ leBytes 4 s.chain.cfg.chainId.toNat
    ++ zeros 12 ++ spanRoot leaves
    ++ (match s.scribe.lastHeader with | none => zeros 32 | some h => sha256 h)
    ++ padTo 48 s.activeSlot.digest ++ s.privKeyId 3 ++ zeros 16

/-- The seal of the present span (14 R553, R564): the remaining leaves, the root, the signed header, its send to the
witnesses and on the regulator port; with quorum 0 the span's completions are decided at once (14 R568). -/
def State.seal (s : State) : State :=
  let s0 := (List.range (s.scribe.leaves.filter (fun l => !l.written)).length).foldl (fun t _ => t.writeLeaf) s
  match s0.ownOpen with
  | none => s0
  | some g =>
    let body := headerBody s0 (s0.scribe.leaves.map Leaf.data)
    let h := body ++ s0.sign 3 body
    let s1 := (s0.useFree 48).completeSegment g h
    let s2 : State := { s1 with scribe := { s1.scribe with lastHeader := some h, lastSpan := s0.t.span, spanOpen := false } }
    let s3 := regSend (s2.toWitnesses (recordEntry s0.t.span 0 2 h)) 4 h
    let s4 := match s3.scribe.segments.find? (fun x => x.own && x.span == s0.t.span) with
      | some x => s3.quorumMet x
      | none => s3
    s4.journalCheck

/-! ### Backfill (14 R571, R595, R596) -/

/-- A sealed span streamed again: its leaves, then its header, with FLAGS.RESENT (14 R566). -/
def State.resendSpan (s : State) (w : Nat) (g : Segment) : State :=
  let s1 := g.leaves.foldl (fun t (i, d) => t.sendTo w 2 1 (recordEntry g.span i 1 (d.getD []))) s
  match g.header with
  | some h => s1.sendTo w 2 1 (recordEntry g.span 0 2 h)
  | none => s1

/-- The own sealed spans from a number on, in span order. -/
def State.sealedFrom (s : State) (n : Nat) : List Segment :=
  s.scribe.segments.filter (fun g => g.own && g.header.isSome && g.span ≥ n)

/-- The oldest own sealed span a witness has not acknowledged. -/
def State.oldestUnacked (s : State) (w : Nat) : Option Segment := (s.sealedFrom 0).find? (fun g => !g.acked.contains w)

/-- Where the backfill of a witness stands: the span it streams from (14 R571, R596). -/
def State.backfillFrom (s : State) (w : Nat) : Option Nat :=
  let asked := s.chain.resend.get 0 w
  let at_ := s.chain.backfill.get 0 w
  if s.chain.shortSpan = 0 ∧ asked = 0 then none
  else if at_ ≠ 0 then some at_
  else if asked ≠ 0 then some asked
  else (s.oldestUnacked w).map (fun g => g.span)

/-- BACKFILL (R571): to each listed witness that its route reaches, the next sealed span, in span order from the oldest that it
has not acknowledged, or from the one it asked for (R596); only while a span is QUORUM_SHORT or a witness has asked. -/
def execBackfill (s : State) : Res :=
  .next (s.chain.cfg.witness.foldl (fun t w =>
    match t.backfillFrom w, t.route w with
    | some n, some _ =>
      match t.sealedFrom n with
      | [] =>
        { t with chain := { t.chain with
          resend := t.chain.resend.set 0 w 0
          backfill := if t.chain.shortSpan = 0 then t.chain.backfill.set 0 w 0 else t.chain.backfill } }
      | g :: _ =>
        let u := t.resendSpan w g
        { u with chain := { u.chain with backfill := u.chain.backfill.set 0 w (g.span + 1) } }
    | _, _ => t) s)

end Sys2Proof.Machine
end

