-- ==== Sys2Proof/Machine/ChainPorts.lean ====
section
/-! DEFINITION. Chain ports: their states, attestation and membership (14 R591 to R595; 16 R656), paused lanes (R575), and
what a port does with a frame it receives (R574 to R578, R587). -/

namespace Sys2Proof.Machine

/-! ### Attestation reports (16 R656) -/

/-- The lifecycle codes (16 R656; 17 R658). -/
def Lifecycle.code : Lifecycle → Nat
  | .blank => 0
  | .provisioned => 1
  | .sealed => 2
  | .tampered => 3
  | .retired => 4

/-- The power state codes (17 R684). -/
def PowerSt.code : PowerSt → Nat
  | .p0 => 0
  | .p1 => 1
  | .p2 => 2
  | .p3 => 3
  | .p4 => 4

/-- The report up to its signature (16 R656). -/
def reportBody (s : State) (nonce : Octets) : Octets :=
  leBytes 2 1 ++ [octet s.chain.cfg.device, octet s.sec.life.code, octet s.sec.dbgLevel, octet s.power.st.code, octet s.upd.active,
      octet ((if s.reg.frozen then 1 else 0) + (if s.adm.paused ≠ 0 then 2 else 0) + (if s.ds.st = .failed then 4 else 0))]
    ++ leBytes 4 s.chain.cfg.chainId.toNat ++ leBytes 4 (s.core 0).mcver.toNat ++ leBytes 6 s.scribe.lastSpan ++ zeros 2
    ++ leBytes 8 s.upd.gen ++ leBytes 8 s.svc.trSeq ++ leBytes 8 s.reg.seqOut ++ padTo 32 nonce ++ padTo 48 s.activeSlot.digest
    ++ s.devCertDigest ++ (match s.scribe.lastHeader with | some h => sha256 h | none => zeros 32) ++ zeros 32
    ++ s.privKeyId 1

/-- A signed report, and the state with the signature's nonce used. -/
def State.report (s : State) (nonce : Octets) : State × Octets :=
  let b := reportBody s nonce
  (s.useFree 48, b ++ s.sign 1 b)

/-! ### States of a port (14 R593 to R595) -/

/-- One of the reasons of R599, which one the spec does not say (log entry 17). -/
def State.openReason (s : State) (place : Nat) : Nat := 1 + Config.freeValue place s.freeCtr % 8

/-- The port state codes (21 R820). -/
def PortSt.code : PortSt → Nat
  | .down => 0
  | .training => 1
  | .attesting => 2
  | .member => 3
  | .refused => 4

/-- A witness's stream restarted where its route has moved from that of `s` (14 R595): every sealed span from the oldest it has
not acknowledged, in span order, then the leaves of the open span. -/
def State.reroute (s t : State) (w : Nat) : State :=
  match s.route w, t.route w with
  | some p, some q =>
    if p = q then t
    else
      let old := match t.oldestUnacked w with
        | some g => t.sealedFrom g.span
        | none => []
      (old ++ t.ownOpen.toList).foldl (fun u g => u.resendSpan w g) t
  | _, _ => t

/-- The frames of a list in the order of their lanes, the highest priority first (14 R575). -/
def byLane (l : List TxFrame) : List TxFrame :=
  (List.range 5).flatMap (fun n => l.filter (fun x => laneOf x.cls x.body == n))

/-- The frames a port kept as it leaves MEMBER, moved to the port that now serves their destination (14 R595); those for the
neighbour only, or that no port serves, are lost. -/
def State.moveQueued (s : State) (p : Port) : State :=
  (byLane (s.port p).txq).foldl (fun t x =>
    match (if x.dst = 0 then none else t.route x.dst) with
    | some q => t.sendOn q x
    | none => t) (s.modPort p (fun q => { q with txq := [] }))

/-- A port's state changed: source 130 with the port and state as its detail, whose packing the manual does not give (log
entry 42); witnesses routed over a port that leaves MEMBER are rerouted, and what is known of its link's delay goes (R584). -/
def State.setPortSt (s : State) (p : Port) (st : PortSt) : State :=
  if (s.port p).st = st then s
  else
    let s0 : State := { s with chain := { s.chain with
      upDelay := s.chain.upDelay.filter (fun d => d.1 != p.val), reqSent := s.chain.reqSent.filter (fun d => d.1 != p.val) } }
    let s1 := (s0.modPort p (fun q => { q with st := st })).raise 130 (Config.freeValue 42 (p.val + 4 * st.code) % 65536)
    if (s.port p).st = .member then s.chain.cfg.witness.foldl (fun t w => s.reroute t w) (s1.moveQueued p) else s1

/-- A port refused with a reason of R599 (14 R593, R594): a new reason writes a trouble entry, whose code and fields the
manual does not list (log entry 43); the exchange is tried again 256 spans on. -/
def State.refusePort (s : State) (p : Port) (reason : Nat) : State :=
  let s1 := if (s.port p).reason = reason then s
    else s.trouble false (Config.freeValue 43 0 % 65536) 7 0xFF
      ((List.range 64).map (fun i => octet (Config.freeValue (43000 + i) (p.val + 4 * reason))))
  (s1.modPort p (fun q => { q with reason := reason, retryAt := s.t.span + 256 })).setPortSt p .refused

/-- The HELLO payload of a port (14 R592). -/
def State.helloBody (s : State) (p : Port) : State × Octets :=
  let q := s.port p
  let (s1, rep) := s.report q.nonce
  let spanPub := match s.key 3 with | some k => ecPublic k.key | none => zeros 97
  let mid := rep ++ ecPublic q.ephPriv ++ zeros 15 ++ spanPub ++ zeros 7 ++ s.privKeyId 3
  let sig := s1.sign 1 mid
  (s1.useFree 48, [1, 0] ++ leBytes 2 s.sec.devCert.length ++ zeros 12 ++ mid ++ sig ++ s.sec.devCert)

/-- HELLO sent to a port's neighbour. -/
def State.sendHello (s : State) (p : Port) : State :=
  let (s1, b) := s.helloBody p
  s1.sendNear p 6 b

/-- A port enters ATTESTING: a new ephemeral key and NONCE from the service instance, and a HELLO (14 R592; 16 R631); what its lanes
have accepted counts from then on (R577; log entry 63). Without that instance the port stays TRAINING (16 R629; log entry 106). -/
def State.attest (s : State) (p : Port) : State :=
  match s.serviceOctets 80 with
  | none => s
  | some (o, t) =>
    ((t.modPort p (fun q => { q with
      nonce := o.take 32, ephPriv := o.drop 32, helloOk := false, seqLane := [0, 0, 0, 0, 0] })).setPortSt p .attesting).sendHello p

/-- A port trains and attests (14 R591, R593, R594). -/
def State.train (s : State) (p : Port) : State := (s.setPortSt p .training).attest p

/-- Whether the chain ports are in use (17 R684, R692; 18 R734): the module booted, its spans running or about to. -/
def State.portsOn (s : State) : Bool :=
  s.bootDone && (s.sec.life == .provisioned || s.sec.life == .sealed) && s.power.st != .p3 && s.power.st != .p4

/-- Whether a port is enabled by the configuration (14 R598). -/
def State.portEnabled (s : State) (p : Port) : Bool := s.portsOn && s.chain.cfg.portEn.getLsbD p.val

/-- PORT_LINK_CHANGE (R573, R591 to R595). -/
def execPortLinkChange (p : Port) (up : Bool) (s : State) : Res :=
  let s1 := s.modPort p (fun q => { q with linkUp := up })
  if !up then .next (s1.setPortSt p .down)
  else if s.portEnabled p ∧ ((s.port p).st = .down ∨ (s.port p).st = .refused) then .next (s1.train p)
  else .next s1

/-- HELLO_RESEND (R592): while the port holds no valid HELLO. -/
def execHelloResend (p : Port) (s : State) : Res :=
  if (s.port p).st = .attesting ∧ (s.port p).helloOk = false then .next (s.sendHello p) else .next s

/-- PORT_RETRY (R594): 256 spans after the port was refused. -/
def execPortRetry (p : Port) (s : State) : Res :=
  if (s.port p).st = .refused ∧ (s.port p).linkUp ∧ s.t.span ≥ (s.port p).retryAt then .next (s.train p) else .next s

/-- The number of a lane. -/
def laneNum : Lane → Nat
  | .control => 0
  | .acknowledgement => 1
  | .record => 2
  | .attestation => 3
  | .update => 4

/-- PAUSE_FRAME (R575): a lane is paused or released; the frames it kept go out in order. The control lane is never
paused. -/
def execPauseFrame (p : Port) (lane : Lane) (on : Bool) (s : State) : Res :=
  let n := laneNum lane
  if n = 0 then .next s
  else
    let s1 := s.modPort p (fun q => { q with paused := q.paused.set n on })
    if on then .next s1 else .next (s1.releaseLane p n)

/-! ### Frames received (14 R574 to R578, R587) -/

/-- Whether a received frame is one of this device's link (14 R574). -/
def State.frameGood (s : State) (f : RxFrame) : Bool :=
  f.da == station s.chain.cfg.device && f.etherType == 0x88B5 && f.fcsOk

/-- A frame discarded and counted (14 R574). -/
def State.discard (s : State) (p : Port) : State := s.modPort p (fun q => { q with discards := q.discards + 1 })

/-- A frame's payload opened under the receiving key; the sender's port in the nonce is one of four (14 R577, R591). -/
def openFrame (q : ChainPort) (f : RxFrame) : Option Octets :=
  [0, 1, 2, 3].findSome? (fun port => gcmOpen q.recvKey (linkNonce q.peer port f.hdr.seq) (hdrOctets f.hdr) f.body f.tag)

/-- A frame forwarded to another device (14 R578). -/
def State.forward (s : State) (h : ChainHdr) (body : Octets) : State :=
  let hops := h.hops.toNat - 1
  if hops = 0 then s
  else match s.route h.dst.toNat with
    | none => s
    | some p => s.sendOn p ⟨h.cls.toNat, h.src.toNat, h.dst.toNat, hops, h.flags.toNat, body⟩

/-- A frame of classes 1 to 5 as a port takes it: the state, and the payload where the frame is for this device
(14 R574, R577, R578, R587, R593). -/
def State.takeFrame (s : State) (f : RxFrame) : State × Option Octets :=
  let q := s.port f.port
  if !s.frameGood f || f.hdr.ver != 1 || f.hdr.cls == 6 || f.hdr.len != f.body.length || q.st != .member then (s.discard f.port, none)
  else if f.hdr.spanLen.toNat ≠ s.t.k then ((s.discard f.port).refusePort f.port 3, none)
  else
    match openFrame q f with
    | none => (s.discard f.port, none)
    | some body =>
      let lane := laneOf f.hdr.cls.toNat body
      if f.hdr.seq.toNat ≤ q.seqLane.getD lane 0 then (s.discard f.port, none)
      else
        let s1 := s.modPort f.port (fun q => { q with seqLane := q.seqLane.set lane f.hdr.seq.toNat })
        let dst := f.hdr.dst.toNat
        if dst = 0 ∨ dst = s.chain.cfg.device then (s1, some body) else (s1.forward f.hdr body, none)

/-- A row of a frame class: what its payload does. A frame of another class is not the row's and changes nothing. -/
def rxRow (cls : Nat) (f : RxFrame) (act : State → Octets → State) (s : State) : Res :=
  if f.hdr.cls.toNat ≠ cls then .next s
  else
    match s.takeFrame f with
    | (t, none) => .next t
    | (t, some b) => .next (act t b)

/-- A row of a control message (14 R581): a payload of another code is not the row's; a reserved code is discarded. -/
def ctlRow (code : Nat) (f : RxFrame) (act : State → Octets → State) (s : State) : Res :=
  if f.hdr.cls.toNat ≠ 1 then .next s
  else
    match s.takeFrame f with
    | (t, none) => .next t
    | (t, some b) => if b.head? = some (octet code) then .next (act t b) else .next s

/-! ### HELLO (14 R588, R591 to R593, R596) -/

/-- The parts of a HELLO payload (14 R592). -/
structure Hello where
  report : Octets
  nonce  : Octets
  ephPub : Octets
  spanPub : Octets
  keyId  : Octets
  endorsed : Octets
  sig    : Octets
  cert   : Octets

/-- A payload read as a HELLO: none where its form is not that of R592. -/
def helloOf (b : Octets) : Option Hello :=
  let n := fieldAt b 2 2
  if fieldAt b 0 1 ≠ 1 ∨ n < 1 ∨ n > 764 ∨ b.length ≠ 696 + n then none
  else some ⟨slice b 16 352, slice b 64 32, slice b 368 97, slice b 480 97, slice b 584 16, slice b 16 584, slice b 600 96, slice b 696 n⟩

/-- Whether a HELLO attests its sender: the certificate under the chain root, the report and the endorsement under the
certificate's key, and the span key's KEY_ID (14 R591; 17 R824). -/
def State.helloGood (s : State) (h : Hello) : Bool :=
  match Config.x509Subject (s.keyOctets 11) h.cert with
  | none => false
  | some pub =>
    (s.key 11).isSome && sigOk pub (slice h.report 0 256) (slice h.report 256 96) && sigOk pub h.endorsed h.sig
      && h.keyId == keyIdOf h.spanPub

/-- The link key from device a to device b (14 R592). -/
def linkKey (secret lowNonce highNonce : Octets) (a b : Nat) : Octets :=
  hkdf384 (lowNonce ++ highNonce) secret (ascii "VS251 LINK" ++ [octet a, octet b])

/-- The number of the last span held from a source. -/
def heldSpan (h : Option Octets) : Nat :=
  match h with
  | some o => fieldAt o 8 6
  | none => 0

/-- The sources this device witnesses. -/
def State.sources (s : State) : List Nat :=
  ((s.chain.srcHeld.map Prod.fst) ++ (s.scribe.segments.filter (fun g => !g.own)).map Segment.source).eraseDups

/-- The first span of a source that this device lacks: the one after the last it holds, or the oldest it has a part of. -/
def State.firstLacked (s : State) (src : Nat) : Nat :=
  match s.chain.srcHeld.get none src with
  | some h => fieldAt h 8 6 + 1
  | none =>
    match (s.scribe.segments.filter (fun g => !g.own && g.source == src)).map Segment.span with
    | n :: r => r.foldl min n
    | [] => 1

/-- CATCHUP sent to each source this device witnesses (14 R596). -/
def State.catchUpAll (s : State) : State :=
  s.sources.foldl (fun t src => t.sendTo src 1 0 ([4, octet src, 0, 0] ++ leBytes 6 (s.firstLacked src))) s

/-- A port that becomes MEMBER with the keys of the exchange; messages of activation that waited for a route go out. -/
def State.join (s : State) (p : Port) (peer : Nat) (h : Hello) (secret : Octets) : State :=
  let me := s.chain.cfg.device
  let q := s.port p
  let low := if me < peer then q.nonce else h.nonce
  let high := if me < peer then h.nonce else q.nonce
  let s1 := s.modPort p (fun q => { q with
    peer := peer, helloOk := true, reason := 0
    sendKey := linkKey secret low high me peer, recvKey := linkKey secret low high peer me })
  let s2 : State := { s1 with chain := { s1.chain with peers := s1.chain.peers.set none peer (some (h.spanPub, h.keyId)) } }
  (s2.setPortSt p .member).catchUpAll.sendUnsent

/-- HELLO (R591 to R593): its SEQ and its zero tag (R577), then the checks in order: chain identifier and span length, the
identifier, attestation. -/
def execHello (f : RxFrame) (s : State) : Res :=
  let p := f.port
  if f.hdr.cls ≠ 6 ∨ (s.port p).st ≠ .attesting then .next s
  else if !s.frameGood f || f.hdr.ver != 1 || f.tag != zeros 16 || f.hdr.seq.toNat ≤ (s.port p).seqLane.getD 3 0 then
    .next (s.discard p)
  else
    match helloOf f.body with
    | none => .next (s.discard p)
    | some h =>
      let s := s.modPort p (fun q => { q with seqLane := q.seqLane.set 3 f.hdr.seq.toNat })
      if f.hdr.chainId ≠ s.chain.cfg.chainId ∨ f.hdr.spanLen.toNat ≠ s.t.k then .next (s.refusePort p 3)
      else if f.hdr.src.toNat = s.chain.cfg.device then .next (s.refusePort p 4)
      else if !s.helloGood h then .next (s.refusePort p 5)
      else
        match ecdh (s.port p).ephPriv h.ephPub with
        | none => .next (s.refusePort p 5)
        | some secret => .next (s.join p f.hdr.src.toNat h secret)

end Sys2Proof.Machine
end

