-- ==== Sys2Proof/Machine/HostOps.lean ====
section
/-! DEFINITION. The host interface at work: ring counts and faults, the doorbell array and descriptor reads, completion
entries, interrupts, Bus Master Enable and the link (03 R81, R82, R86 to R91, R99, R100, R106, R110, R112, R121 to R125;
02 R76, R77). -/

namespace Sys2Proof.Machine

/-! ### Rings -/

/-- A ring (03 R83). -/
def State.ring (s : State) (r : Nat) : Ring := s.host.rings.get Ring.absent r

/-- A ring replaced. -/
def State.setRing (s : State) (r : Nat) (v : Ring) : State :=
  { s with host := { s.host with rings := s.host.rings.set Ring.absent r v } }

/-- A ring changed. -/
def State.modRing (s : State) (r : Nat) (f : Ring → Ring) : State := s.setRing r (f (s.ring r))

/-- The rings that exist, in ring-number order. -/
def State.ringNumbers (s : State) : List Nat := s.host.rings.map Prod.fst

/-- Descriptors published and not consumed (03 R93). -/
def Ring.waiting (v : Ring) : Nat := (v.tail - v.head).toNat

/-- The completions promised and not yet finished with by the host: POSTED counts for ring 0 (03 R86, R120). -/
def State.promised (s : State) (r : Nat) : Nat :=
  let v := s.ring r
  (v.head + (if r = 0 then s.host.posted else 0) - v.cplHead).toNat

/-- The free completion entries (02 R61; 03 R86, R120). -/
def State.freeCpl (s : State) (r : Nat) : Nat := 2 ^ (s.ring r).ctx.cplOrder - s.promised r

/-- Whether every completion promised is written (03 R106, R120). -/
def State.quiet (s : State) (r : Nat) : Bool :=
  (s.ring r).head + (if r = 0 then s.host.posted else 0) == (s.ring r).cplWritten

/-- A ring enters FAULTED (03 R110; 21 R817): reasons 1 BAD_TAIL, 2 BAD_CPL_HEAD, 3 BAD_READ. -/
def State.faultRing (s : State) (r reason : Nat) : State :=
  let f := s.host.ringFault
  let f' : RingFault := if f.valid then { f with more := satInc f.more 65535 } else ⟨true, 0, reason, r⟩
  let s1 := s.modRing r (fun v => { v with st := .faulted, fetched := [] })
  ({ s1 with host := { s1.host with ringFault := f' } }).raiseNotice 2

/-! ### Doorbell array and descriptor reads -/

/-- Whether the decisions of this sill go on: between SILL_START and SILL_END, with DB_BASE not 0 (02 R59, R67). -/
def State.deciding (s : State) : Bool := s.t.phase == .sill && s.host.dbDue

/-- An entry of the doorbell array: SUB_TAIL and CPL_HEAD of ring r at offset 8 × r (03 R88). -/
def doorbellEntry (array : Octets) (r : Nat) : W32 × W32 :=
  (BitVec.ofNat 32 (fieldAt array (8 * r) 4), BitVec.ofNat 32 (fieldAt array (8 * r + 4) 4))

/-- A vector's pending bit cleared once the host has finished with every completion of the rings that share it (PCIe's rule
for an event that is satisfied while its vector is masked, 03 R124; log entry 9). -/
def State.cplSeen (s : State) (v : Nat) : State :=
  let e := s.host.msix.get MsixEntry.zero v
  if e.pending ∧ s.host.rings.all (fun (_, x) => x.ctx.msixVec != v || x.cplHead == x.cplWritten) then
    { s with host := { s.host with msix := s.host.msix.set MsixEntry.zero v { e with pending := false } } }
  else s

/-- The check of ring r's entry (03 R90, R91): rings neither ACTIVE nor STOPPED are not checked, nor is a ring created in this
sill (03 R109). -/
def State.doorbell (array : Octets) (s : State) (r : Nat) : State :=
  let v := s.ring r
  let (subTail, cplHead) := doorbellEntry array r
  if !(v.st == .active || v.st == .stopped) || v.fresh then s
  else if (subTail - v.head).toNat > 2 ^ v.ctx.subOrder ∨ (subTail - v.tail).toNat > 2 ^ v.ctx.subOrder then s.faultRing r 1
  else if (v.cplWritten - cplHead).toNat > 2 ^ v.ctx.cplOrder ∨ (cplHead - v.cplHead).toNat > 2 ^ v.ctx.cplOrder then
    s.faultRing r 2
  else (s.setRing r { v with tail := subTail, cplHead := cplHead }).cplSeen v.ctx.msixVec

/-- A doorbell read taken off those outstanding: of several the oldest returns first. -/
def HostIf.dbReturned (h : HostIf) : HostIf := if h.dbLate > 0 then { h with dbLate := h.dbLate - 1 } else { h with dbReq := false }

/-- DOORBELL_ARRAY_RETURN (R88 to R90; R82 where the read ended in error, in its sill or after it). A read waits while the link
is out of L0, and is not taken while Bus Master Enable is clear (R81), once its sill's decisions are over (02 R67), or where it is
that of an earlier sill. Log entry 108 says what a read does that the data link layer was down for. -/
def execDoorbellArrayReturn (array : Option Octets) (s : State) : Res :=
  if (s.host.dbReq = false ∧ s.host.dbLate = 0) ∨ (s.host.dllUp ∧ s.host.linkL0 = false) then .next s
  else
    match array with
    | none => .next (({ s with host := s.host.dbReturned }).raiseNotice 1)
    | some a =>
      if a.length ≠ 32768 then .fault (.illFormed "a doorbell array of 32,768 octets (R88)")
      else if s.host.dbLate = 0 ∧ s.deciding ∧ s.host.bme then
        .next (s.ringNumbers.foldl (State.doorbell a) { s with host := { s.host with dbReq := false, dbBack := true } })
      else .next { s with host := s.host.dbReturned }

/-! ### The end of a flush (03 R117, R118) -/

/-- Whether a flush is over: its ring's next descriptor lacks a decision of this sill, as it does where it cannot be read, or a
free completion entry. -/
def State.flushOver (s : State) (f : Flush) : Bool :=
  let v := s.ring f.ring
  !s.deciding || !s.host.dbBack || v.st != .stopped || v.fresh || v.waiting == 0 || s.freeCpl f.ring == 0
    || (v.fetched.isEmpty && !(s.host.bme && s.host.dllUp))

/-- A flush ended: the STOP_RING completes with the number flushed (R118), behind its ring's completions (R112). -/
def State.endFlush (s : State) (f : Flush) : State :=
  let v := s.ring f.ring
  ({ s with host := { s.host with flush := none } }).complete
    { f.cpl with detail := f.count, after := [(f.ring, v.head, v.gen)] }

/-- A flush that is over ended. -/
def State.settleFlush (s : State) : State :=
  match s.host.flush with
  | some f => if s.flushOver f then s.endFlush f else s
  | none => s

/-- The read requests for `n` slots of a submission ring from a count on: one, or two where the slots wrap round (03 R85). -/
def slotReads (v : Ring) (count n : Nat) : List Emission :=
  let size := 2 ^ v.ctx.subOrder
  let first := min n (size - count % size)
  (if n = 0 then [] else [Emission.hostRead (v.ctx.subBase.toNat + 64 * (count % size)) (64 * first)])
    ++ if first < n then [Emission.hostRead v.ctx.subBase.toNat (64 * (n - first))] else []

/-- DESCRIPTOR_FETCH_RETURN (R66, R93; R82 where the read ended in error): up to 16 of the slots from HEAD to TAIL − 1 that
this sill has not read, of a ring that is ACTIVE or, for a flush, STOPPED. A read that ends in error faults the ring whenever it
returns, in a later sill too (R82); one that returns octets outside the decisions of its sill, or with Bus Master Enable clear, has
no effect (02 R67; R81). The read that returned is recorded in State.out (log entry 14). -/
def execDescriptorFetchReturn (ring : RingId) (data : Option (List Octets)) (s : State) : Res :=
  let v := s.ring ring.val
  if (s.host.dllUp ∧ s.host.linkL0 = false) ∨ !(v.st == .active || v.st == .stopped) ∨ v.fetched.length ≥ v.waiting then .next s
  else
    match data with
    | none => .next (s.faultRing ring.val 3).settleFlush
    | some l =>
      if s.host.dbBack = false ∨ v.fresh = true ∨ s.deciding = false ∨ s.host.bme = false then .next s
      else if l.length ≤ 16 ∧ l.all (fun d => d.length == 64) then
        .next ((slotReads v (v.head.toNat + v.fetched.length) (min l.length (v.waiting - v.fetched.length))).foldl State.emit
          (s.setRing ring.val { v with fetched := (v.fetched ++ l).take v.waiting }))
      else .fault (.illFormed "up to 16 descriptors of 64 octets (R66)")

/-! ### Completion entries -/

/-- The entry of a completion count (03 R99, R100). DETAIL has 16 bits: a flush of 65,536 descriptors shows 0 (log entry 97). -/
def cplOctets (c : Cpl) (written : W32) (order : Nat) : Octets :=
  leBytes 4 c.tag.toNat ++ leBytes 4 c.count.toNat ++ leBytes 6 c.span ++ leBytes 2 c.ring ++ [octet c.status, octet c.durability]
    ++ leBytes 2 c.detail ++ leBytes 4 c.resBytes ++ leBytes 4 c.jobWord.toNat ++ leBytes 2 c.records
    ++ [0, octet (1 - written.toNat / 2 ^ order % 2)]

/-- Whether the rings a stop named have their earlier completions written (03 R112): ring, HEAD at the stop, generation. -/
def State.afterMet (s : State) (c : Cpl) : Bool :=
  c.after.all (fun (r, n, g) => (s.ring r).gen != g || ((s.ring r).cplWritten - n).toNat < 2 ^ 31)

/-- The completion written next: in order of queueing, one that R112 holds back holding back its ring (03 R112, R121). -/
def State.pickCpl (s : State) : List Nat → List Cpl → Option Cpl
  | _, [] => none
  | held, c :: l =>
    if held.contains c.ring then s.pickCpl held l
    else if s.afterMet c then some c
    else s.pickCpl (c.ring :: held) l

/-- Whether a completion is late: written after the last cycle of the sill two spans on (02 R76), or held while Bus Master
Enable was clear (03 R81). -/
def State.cplLate (s : State) (c : Cpl) : Bool :=
  s.host.held.contains c.order || s.t.span > c.span + 2 || (s.t.span == c.span + 2 && s.t.phase != .sill)

/-- The late count, its trouble entry and notice (02 R77; 21 R811). -/
def State.countLate (s : State) (r : Nat) : State :=
  let n := satInc s.host.lateCpl 65535
  (({ s with host := { s.host with lateCpl := n } }).trouble false 0x0014 5 0xFF (leBytes 2 r ++ leBytes 4 n)).raiseNotice 3

/-- A ring's message sent, or its vector's pending bit set; U(r) returns to 0 (03 R81, R123). -/
def State.signalRing (s : State) (r : Nat) : State :=
  (s.msixSend (s.ring r).ctx.msixVec).modRing r (fun v => { v with u := 0 })

/-- A ring with its counts at 0 (03 R87), in a state and with a context. U and t0 stand: entries written and not yet signalled
are signalled still (03 R123). -/
def Ring.renewed (v : Ring) (st : RingSt) (ctx : RingCtx) (fresh : Bool) : Ring :=
  { Ring.absent with st := st, ctx := ctx, gen := v.gen + 1, fresh := fresh, u := v.u, t0 := v.t0 }

/-- A ring renewed in place; its unsignalled entries go by its new moderation at once (03 R123). -/
def State.renewRing (s : State) (r : Nat) (st : RingSt) (ctx : RingCtx) (fresh : Bool) : State :=
  let v := s.ring r
  let t := s.setRing r (v.renewed st ctx fresh)
  if v.u > 0 ∧ v.u ≥ ctx.modCount then t.signalRing r else t

/-- A completion entry written to its ring, with the message it brings (03 R100, R123). -/
def State.writeCpl (s : State) (c : Cpl) : State :=
  let v := s.ring c.ring
  let at_ := v.ctx.cplBase.toNat + 32 * (v.cplWritten.toNat % 2 ^ v.ctx.cplOrder)
  let s1 := ({ s with host := { s.host with queue := s.host.queue.erase c, held := s.host.held.erase c.order } }).emit
    (.hostWrite at_ (cplOctets c v.cplWritten v.ctx.cplOrder))
  let s2 := s1.setRing c.ring { v with
    cplWritten := v.cplWritten + 1, t0 := if v.u = 0 then s.t.clock else v.t0, u := v.u + 1 }
  let s3 := if s.cplLate c then s2.countLate c.ring else s2
  let s4 : State := match s3.power.p3At with
    | some (o, none) => if o = c.order then { s3 with power := { s3.power with p3At := some (o, some s3.t.span) } } else s3
    | _ => s3
  if v.u + 1 ≥ v.ctx.modCount ∨ c.irq then s4.signalRing c.ring else s4

/-- Whether the link carries requests now (03 R81; 02 R77). -/
def State.linkReady (s : State) : Bool := s.host.bme && s.host.linkL0 && s.host.dllUp

/-- COMPLETION_WRITE (R100): held while Bus Master Enable is clear or the link is out of L0 (R77, R81). -/
def execCompletionWrite (s : State) : Res :=
  if !s.linkReady then .next s
  else
    match s.pickCpl [] s.host.queue with
    | none => .next s
    | some c => .next (s.writeCpl c)

/-- MOD_TIME_EXPIRY (R123): MOD_TIME microseconds of 2,000 cycles since the oldest unsignalled entry. -/
def execModTimeExpiry (ring : RingId) (s : State) : Res :=
  let v := s.ring ring.val
  if v.u > 0 ∧ s.t.clock ≥ v.t0 + 2000 * v.ctx.modTime then .next (s.signalRing ring.val) else .next s

/-! ### Interrupts, Bus Master Enable, the link -/

/-- A vector's pending message sent, where its messages are (03 R81, R124). -/
def State.sendPending (s : State) (v : Nat) : State :=
  let e := s.host.msix.get MsixEntry.zero v
  if e.pending ∧ s.host.mayMsix v then
    ({ s with host := { s.host with msix := s.host.msix.set MsixEntry.zero v { e with pending := false } } }).linkEmit
      (.msix v e.addr e.data)
  else s

/-- MSIX_UNMASK (R124). -/
def execMsixUnmask (v : Fin 2048) (s : State) : Res :=
  let e := s.host.msix.get MsixEntry.zero v.val
  .next (({ s with host := { s.host with msix := s.host.msix.set MsixEntry.zero v.val { e with masked := false } } }).sendPending
    v.val)

/-- BUS_MASTER_ENABLE (R81): the bit is set; vectors pending and unmasked send their messages; the completions held while it was
clear count as late. -/
def execBusMasterEnable (s : State) : Res :=
  let s1 : State := { s with host := { s.host with
    bme := true, held := if s.host.bme then s.host.held else s.host.queue.map Cpl.order } }
  .next (s1.host.msix.foldl (fun t (v, _) => t.sendPending v) s1)

/-- The mover command that a queue performs: the first that has entered it (12 R512, R514). -/
def Mover.running (m : Mover) (service : Bool) : Option MovCmd := m.cmds.find? (fun x => x.entered && (x.bank == 0) == service)

/-- The host accesses of the commands that run cut off (R81; 12 R515; log entry 39). -/
def State.cutMoves (s : State) : State :=
  let run := fun (x : MovCmd) => s.mover.running false == some x || s.mover.running true == some x
  { s with mover := { s.mover with cmds := s.mover.cmds.map (fun x => if run x then { x with cut := true } else x) } }

/-- BUS_MASTER_ENABLE_CLEAR (R81): a host access that a running mover command still needs fails. -/
def execBusMasterEnableClear (s : State) : Res :=
  .next ({ s with host := { s.host with bme := false } }).cutMoves.settleFlush

/-- Whether a device command's class reads a block from host memory (03 R82): LOAD_CERT, UPD_OPEN, UPD_PIECE, UPD_RESOLVE,
CHAIN_CONFIG, LIFECYCLE_SEAL, KEY_LOAD, RETIRE. -/
def needsBlock (cls : Nat) : Bool := [16, 24, 25, 30, 32, 49, 50, 52].contains cls

/-- Whether a device command waits for its block. -/
def DevCmd.waits (d : DevCmd) : Bool := needsBlock d.cls && d.block.isNone

/-- A request that waited in the link sent; with Bus Master Enable clear none is, and a message leaves its pending bit (R81). -/
def State.sendWaiting (s : State) (e : Emission) : State :=
  match s.host.bme, e with
  | true, _ => s.emit e
  | false, .msix v _ _ => s.msixSend v
  | false, _ => s

/-- Whether the host endpoint takes part in the link: not in P3 and P4, where its transmitters are unpowered, nor in step 1 of a
cold boot (20 R789). -/
def State.hostPort (s : State) : Bool := s.powered && s.svc.stage != .waitEnv

/-- HOST_LINK_CHANGE (R81): a data link layer that goes down fails the block reads outstanding and the host accesses of the mover
commands that run; a link that returns to L0 sends the requests that waited in it. -/
def execHostLinkChange (l0 dll : Bool) (s : State) : Res :=
  if !s.hostPort then .next s
  else
    let cmds := if dll then s.adm.devCmds else s.adm.devCmds.map (fun (d : DevCmd) => if d.waits then { d with block := some none } else d)
    let s1 : State := { s with host := { s.host with linkL0 := l0, dllUp := dll }, adm := { s.adm with devCmds := cmds } }
    let s2 := (if dll then s1 else s1.cutMoves).settleFlush
    .next (if l0 && dll then s2.host.linkq.foldl State.sendWaiting { s2 with host := { s2.host with linkq := [] } } else s2)

/-- The first waiting block of a list filled. -/
def fillBlock (b : Option Octets) : List DevCmd → List DevCmd
  | [] => []
  | d :: l => if d.waits then { d with block := some b } :: l else d :: fillBlock b l

/-- COMMAND_BLOCK_RETURN (R82): the block of the oldest device command that waits for one; it fails while Bus Master Enable
is clear or the data link layer is down, and waits while the link is out of L0 (R81). -/
def execCommandBlockReturn (data : Option Octets) (s : State) : Res :=
  if s.linkWaits then .next s else
  .next { s with adm := { s.adm with devCmds := fillBlock (if s.host.bme && s.host.dllUp then data else none) s.adm.devCmds } }

end Sys2Proof.Machine
end

