-- ==== Sys2Proof/Machine/Probation.lean ====
section
/-! DEFINITION. Settings generations, the steps an activation writes, probation reports and the decision of a fallback
(18 R719 to R731). -/

namespace Sys2Proof.Machine

/-! ### Settings generations (18 R725, R728) -/

/-- The settings in force as a generation. -/
def State.generation (s : State) : Generation where
  gen := s.upd.gen
  format := s.upd.format
  k := s.t.lenNext.getD s.t.k
  sync := s.t.syncNext.getD s.t.sync
  adm := s.adm.cfgNext
  certs := s.adm.certsNext.foldl (fun m c => m.set none c.cls (some c)) s.adm.certs
  corrThr := s.svc.corrThr
  pscrubH := s.svc.pscrubH

/-- A generation taken as the settings in force. -/
def State.loadGeneration (s : State) (g : Generation) : State :=
  { s with
    t := { s.t with k := g.k, sync := g.sync, lenNext := none, syncNext := none }
    adm := { s.adm with cfg := g.adm, cfgNext := g.adm, certs := g.certs, certsNext := [] }
    svc := { s.svc with corrThr := g.corrThr, pscrubH := g.pscrubH }
    upd := { s.upd with gen := g.gen, format := g.format } }

/-- The old image reads its own generation (18 R729). -/
def State.oldGeneration (s : State) : State :=
  match s.upd.saved with
  | some g => s.loadGeneration g
  | none => s

/-! ### Steps and confirmations (18 R719 to R722) -/

/-- The participants: every listed device but this one. -/
def State.participants (s : State) (x : Session) : List Nat := (s.listed x).filter (· != s.chain.cfg.device)

/-- CONFIRM sent to every participant (18 R721, R722). -/
def State.sendConfirm (s : State) (x : Session) (arg span : Nat) : State :=
  (s.participants x).foldl (fun t d => t.sendAct d (actBody 19 arg span x.digest)) s

/-- A step of the activation written by this device, with its role. -/
def State.writeStep (s : State) (x : Session) (n span boot arg : Nat) : State :=
  s.writeIntent n (if s.isCoord then 1 else 2) span boot arg x.digest

/-- The UPDATE reason cleared (18 R725, R728), which a set without a SUPERVISOR holds while the device is in service (18
R735). -/
def State.clearUpdate (s : State) : State :=
  if s.activeSlot.supervised ∨ !(s.sec.life = .provisioned ∨ s.sec.life = .sealed) then s.clearP2 0x2 else s

/-! ### Fallback (18 R726, R727, R729) -/

/-- The old image set booted after a fallback (18 R729, R731): its own generation is in force, the overlay and staged
certificates are discarded, the session ends. -/
def State.fellBack (s : State) (x : Session) : State :=
  let s1 := s.oldGeneration
  let s2 := (s1.writeStep x 11 0 s.upd.active 0).updTrouble 11 0 x.digest
  { s2.clearUpdate with upd := { s2.upd with saved := none, session := none, staged := [], act := s2.upd.act.over } }

/-- FALLBACK taken (18 R720, R729, R731): the step written, a coordinator's CONFIRM sent to every participant, the UPDATE
reason, this span as S − 2, the restart into the old slot; without a restart where the old slot runs already. -/
def State.takeFallback (s : State) (x : Session) (tell : Bool) : State :=
  let s0 := (s.writeStep x 9 s.t.span x.oldSlot 0).updTrouble 9 (s.upd.act.reported.getD 0) x.digest
  let s1 := if tell then s0.sendConfirm x 4 0 else s0
  if s.upd.active = x.oldSlot then s1.fellBack x
  else
    let s2 := s1.setP2 1
    { s2 with upd := { s2.upd with act := { s2.upd.act with soaking := false, restartAt := some (s.t.span + 2) } } }

/-- The coordinator decides FALLBACK (18 R727): FAIL_CHAIN where a device has not reported. -/
def State.decideFallback (s : State) (x : Session) : State :=
  let missing := (s.listed x).any (fun d => !(s.upd.act.reports.map Prod.fst).contains d)
  let s1 : State := { s with upd := { s.upd with reason := if missing && s.upd.act.reports.all (fun r => r.2 == 0) then 4 else s.upd.reason } }
  s1.takeFallback x true

/-- The probation report (18 R726): REPORTED is written first, a failure leaves a pinned entry and holds the device in
P2, and the report goes to the coordinator; where this device is the coordinator it counts at once, and a failure is
decided in the same span (18 R727). -/
def State.reportProbation (s : State) (reason : Nat) : State :=
  match s.upd.session with
  | none => s
  | some x =>
    if s.upd.act.reported.isSome then s
    else
      let boot := if reason = 0 then s.upd.active else x.oldSlot
      let s1 := s.writeStep x 7 0 boot reason
      let s2 := if reason = 0 then s1 else (s1.updTrouble 7 reason x.digest).setP2 1
      let reports := if s.isCoord then s.upd.act.reports ++ [(s.chain.cfg.device, reason)] else s.upd.act.reports
      let s3 : State := { s2 with upd := { s2.upd with
        reason := reason
        act := { s2.upd.act with reported := some reason, reportSpan := s.t.span, soaking := false, reports := reports } } }
      if !s.isCoord then s3.sendAct (payloadCoord x.payload) (actBody 20 reason s.t.span x.digest)
      else if reason ≠ 0 then s3.decideFallback x
      else s3

/-- A failure that ends a probation in progress (18 R726 FAIL_STOP). -/
def State.probationFail (s : State) (reason : Nat) : State :=
  if s.upd.act.soaking then s.reportProbation reason else s

end Sys2Proof.Machine
end

