-- ==== Sys2Proof/Machine/Admit.lean ====
section
/-! DEFINITION. Admission: what a descriptor may hold, certificates and capacities, the order of decisions and a decision
(02 R47 to R74; 03 R95, R96, R113 to R118; 17 R687), and device commands taken up for execution. -/

namespace Sys2Proof.Machine

/-! ### Fields of a descriptor (03 R95, R96, R114 to R116) -/

/-- The class a descriptor names (03 R95). -/
def descClass (d : Octets) : Nat := fieldAt d 0 2 % 1024

/-- Whether a range of host memory lies inside the window of CTRL_RING. -/
def State.inCtrlWindow (s : State) (addr len : Nat) : Bool :=
  s.host.ctrl.wbase.toNat ≤ addr && addr + len - 1 ≤ s.host.ctrl.wlimit.toNat

/-- The octets of the body that a device command defines: (offset, size) pairs. -/
def bodyFields (cls : Nat) : List (Nat × Nat) :=
  match cls with
  | 1 | 4 => [(8, 2), (16, 28), (48, 16)]
  | 2 | 5 => [(8, 2)]
  | 3 => [(8, 2), (16, 1)]
  | 6 => [(8, 2), (34, 4)]
  | 7 => [(8, 2), (38, 2), (40, 4)]
  | 8 | 9 => [(8, 1)]
  | 16 | 26 | 30 | 32 | 40 | 43 | 44 | 49 | 50 | 52 | 53 => [(8, 8)]
  | 24 => [(8, 12), (24, 8)]
  | 25 => [(8, 9)]
  | 27 => [(16, 16)]
  | 28 => [(8, 2), (16, 16)]
  | 29 => [(8, 1), (16, 16)]
  | 33 => [(8, 4)]
  | 35 => [(8, 7), (16, 12)]
  | 36 => [(8, 9), (24, 8)]
  | 42 => [(8, 12), (24, 8)]
  | 48 => [(8, 1)]
  | _ => []

/-- Whether a value lies outside a range. -/
def outside (n lo hi : Nat) : Bool := n < lo || hi < n

/-- The values of a ring context that are out of range, with their offsets in the descriptor (03 R116). -/
def badContext (d : Octets) : List (Nat × Bool) :=
  [(16, fieldAt d 16 8 % 4096 != 0), (24, fieldAt d 24 8 % 4096 != 0), (32, outside (fieldAt d 32 1) 4 16),
   (33, outside (fieldAt d 33 1) 4 16), (34, fieldAt d 34 1 > 7), (36, outside (fieldAt d 36 2) 1 4096),
   (38, outside (fieldAt d 38 2) 1 2047), (40, outside (fieldAt d 40 2) 1 4096), (42, fieldAt d 42 2 == 0),
   (56, fieldAt d 56 8 < fieldAt d 48 8)]

/-- A sealed segment of a source in the hot journal. -/
def State.sealedSegment (s : State) (src span : Nat) : Option Segment :=
  s.scribe.segments.find? (fun g => g.header.isSome && g.span == span &&
    (if src = s.chain.cfg.device then g.own else (!g.own && g.source == src)))

/-- What LEAF_PROOF writes (14 R597): the header of an own sealed span, the leaf's data, its inclusion path. -/
def State.leafProof (s : State) (span leaf : Nat) : Option Octets :=
  (s.sealedSegment s.chain.cfg.device span).bind (fun g =>
    let leaves := g.leaves.map (fun (_, x) => x.getD [])
    (leaves[leaf]?).map (fun x => (g.header.getD []) ++ x ++ (merklePath 17 leaf (leaves.map leafHash)).flatten))

/-- The values of a device command's body that are out of range (03 R115, R116; 14 R597; 15 R623; 16 R657; 17 R695; 18 R699). -/
def State.badBody (s : State) (cls : Nat) (d : Octets) : List (Nat × Bool) :=
  let ring := (8, outside (fieldAt d 8 2) 1 4095)
  let win := fun off len => (off, !s.inCtrlWindow (fieldAt d off 8) len)
  match cls with
  | 1 | 4 => ring :: badContext d
  | 2 | 5 => [ring]
  | 3 => [ring, (16, fieldAt d 16 1 > 1)]
  | 6 => [ring, (34, fieldAt d 34 1 > 7), (36, outside (fieldAt d 36 2) 1 4096)]
  | 7 => [ring, (38, outside (fieldAt d 38 2) 1 2047), (40, outside (fieldAt d 40 2) 1 4096), (42, fieldAt d 42 2 == 0)]
  | 16 | 30 => [win 8 256]
  | 24 => [win 8 (fieldAt d 16 4), (16, outside (fieldAt d 16 4) 1 16384), win 24 128]
  | 25 => [win 8 1, (16, outside (fieldAt d 16 1) 1 16)]
  | 26 => [win 8 128]
  | 28 => [(8, fieldAt d 8 2 < 64)]
  | 29 => [(8, outside (fieldAt d 8 1) 1 2)]
  | 32 => [win 8 320]
  | 33 =>
    let w := (slice d 8 3).map BitVec.toNat
    let listed := w.filter (fun x => x != 0)
    [(8, w.getD 0 0 == 255), (9, w.getD 1 0 == 255), (10, w.getD 2 0 == 255), (11, fieldAt d 11 1 > listed.length)]
  | 35 => [(14, outside (fieldAt d 14 1) 1 254), win 16 (fieldAt d 24 4)]
  | 36 => [win 24 (match s.leafProof (fieldAt d 8 6) (fieldAt d 14 3) with | some o => o.length | none => 1)]
  | 40 | 53 => [win 8 64]
  | 42 => [(16, outside (fieldAt d 16 4) 1 4096), win 24 (fieldAt d 16 4 * 4096)]
  | 44 => [win 8 32]
  | 48 => [(8, fieldAt d 8 1 > 3)]
  | 49 | 52 => [win 8 192]
  | 50 => [win 8 448]
  | _ => []

/-- The classes R113 assigns. -/
def assigned (cls : Nat) : Bool :=
  cls ≤ 9 || cls == 16 || (24 ≤ cls && cls ≤ 30) || (32 ≤ cls && cls ≤ 36) || (40 ≤ cls && cls ≤ 45) || (48 ≤ cls && cls ≤ 53)

/-- The lowest of the offsets at which a list of checks fails. -/
def firstBad (l : List (Nat × Bool)) : Option Nat :=
  ((l.filter Prod.snd).map Prod.fst).foldl (fun b o => match b with
    | none => some o
    | some p => some (min p o)) none

/-- The byte offset of the first offending field (03 R96, R104, R114): reserved octets and values out of range. -/
def State.badField (s : State) (d : Octets) : Option Nat :=
  let cls := descClass d
  let head : List (Nat × Bool) := [(0, fieldAt d 0 2 / 1024 != 0), (2, fieldAt d 2 1 > 1), (3, fieldAt d 3 1 != 0)]
  let rest : List (Nat × Bool) :=
    if cls ≥ 64 then [(16, fieldAt d 16 4 > 16777216), (20, fieldAt d 20 4 > 16777216)]
    else if assigned cls then
      let inBody := fun i => (bodyFields cls).any (fun (o, n) => o ≤ i && i < o + n)
      ((List.range 56).map (fun j => (8 + j, !inBody (8 + j) && d.getD (8 + j) 0 != 0))) ++ s.badBody cls d
    else []
  firstBad (head ++ rest)

/-! ### Certificates (02 R48 to R51) -/

/-- The fields of a certificate. -/
def certOf (o : Octets) : Cert where
  cls := fieldAt o 2 2 % 1024
  serial := fieldAt o 4 4
  ctrl := fieldAt o 8 1 % 2 == 1
  data := fieldAt o 8 1 / 2 % 2 == 1
  bankPri := fieldAt o 9 1 % 8
  coreCyc := fieldAt o 12 4
  waitCyc := fieldAt o 16 4
  vecCyc := fieldAt o 20 4
  scrRec := fieldAt o 24 4
  movBytes := fieldAt o 32 8
  notBefore := fieldAt o 40 6
  notAfter := fieldAt o 48 6
  imageDigest := slice o 56 48

/-- Whether a reserved field is nonzero or a value reserved (02 R48, R49 DETAIL 2). -/
def certBad (o : Octets) : Bool :=
  fieldAt o 0 2 != 1 || fieldAt o 2 2 ≥ 1024 || fieldAt o 4 4 == 0 || fieldAt o 8 1 ≥ 4 || fieldAt o 9 1 ≥ 8
    || !zeroAt o 10 2 || outside (fieldAt o 12 4) 1 17500000 || fieldAt o 16 4 > 17500000 || fieldAt o 20 4 > 17500000
    || fieldAt o 24 4 > 40000 || !zeroAt o 28 4 || fieldAt o 32 8 > 280000000 || !zeroAt o 46 2 || !zeroAt o 54 2
    || !zeroAt o 120 40

/-- The bound of R56 for the jobs of a core: V_adm and M_adm are `v` and `m`. -/
def coreBound (v m : Nat) (jobs : List Cert) : Nat :=
  let e := jobs.map (fun c => c.waitCyc + (if c.vecCyc > 0 then v else 0) + (if c.movBytes > 0 then m else 0))
  (jobs.map (fun c => c.coreCyc + 96)).sum + cdiv e.sum 15 + e.foldl max 0

/-- The data capacity of a core under settings (02 R52 table). -/
def AdmCfg.coreCap (a : AdmCfg) (k : Nat) : Nat := k * 437500 - a.coreRsv
def AdmCfg.movData (a : AdmCfg) : Nat := a.movCap - a.r0Mov
/-- The mover bytes reserved to ring 0: never more than MOV_CAP, which includes ring 0 (02 R52). -/
def AdmCfg.movReserve (a : AdmCfg) : Nat := min a.r0Mov a.movCap
def AdmCfg.scrData (a : AdmCfg) (k : Nat) : Nat := k * 1000 - 8 - a.r0Scr

/-- Whether one job fits an empty span (02 R49); a class for ring 0 only has the ring 0 reserves added. -/
def certFits (a : AdmCfg) (k : Nat) (c : Cert) : Bool :=
  let r0 := c.ctrl && !c.data
  c.vecCyc ≤ a.vecCap && c.movBytes ≤ a.movData + (if r0 then a.movReserve else 0)
    && c.scrRec ≤ a.scrData k + (if r0 then a.r0Scr else 0)
    && coreBound c.vecCyc (cdiv c.movBytes 16) [c] ≤ a.coreCap k + (if r0 then a.r0Core else 0)

/-- Whether a certificate is unfit in the present span (02 R51). -/
def State.unfit (s : State) (c : Cert) : Bool :=
  s.t.span < c.notBefore || c.notAfter < s.t.span || c.imageDigest != s.activeSlot.digest || !certFits s.adm.cfg s.t.k c

/-! ### Capacities (02 R52 to R57) -/

/-- What ring 0 has taken from the data capacities beyond its reserve, and what is left to a ring (02 R54). -/
def leftFor (ring0 : Bool) (data reserve used r0Used : Nat) : Nat :=
  let pool := data - ((used - r0Used) + (r0Used - reserve))
  if ring0 then pool + (reserve - r0Used) else pool

def State.movLeft (s : State) (ring0 : Bool) : Nat := leftFor ring0 s.adm.cfg.movData s.adm.cfg.movReserve s.adm.movAdm s.adm.r0Mov
/-- The records left: those bank 0 has appended in this span are no longer there to promise (14 R545, R548; log entry 103). -/
def State.scrLeft (s : State) (ring0 : Bool) : Nat :=
  leftFor ring0 (s.adm.cfg.scrData s.t.k - s.scribe.bank0) s.adm.cfg.r0Scr s.adm.scrAdm s.adm.r0Scr

/-- A core's capacity for a descriptor of a ring (02 R57, R68): 0 for a core that is stopped, in plain mode, held or to be
halted (05 R215; 09 R394; 17 R683; 19 R739). -/
def State.capOf (s : State) (c : CoreId) (ring0 : Bool) : Nat :=
  let k := s.core c
  if k.stopped || !k.serviceMode || k.held || k.capZero then 0
  else s.adm.cfg.coreCap s.t.k + (if ring0 && c == s.controlCore then s.adm.cfg.r0Core else 0)

/-- The certificates of the jobs admitted to a core in this sill. -/
def State.jobsOf (s : State) (c : CoreId) : List Cert :=
  (s.adm.admitted.filter (fun (d, _, _) => d == c)).map (fun (_, _, x) => x)

/-- The core of least bound among those a job fits, the lowest number first (02 R68). -/
def State.bestCore (s : State) (ring0 : Bool) (cert : Cert) (v m : Nat) : Option (CoreId × Nat) :=
  allCores.foldl (fun best c =>
    let t := coreBound v m (cert :: s.jobsOf c)
    if s.capOf c ring0 = 0 ∨ t > s.capOf c ring0 then best
    else match best with
      | none => some (c, t)
      | some (_, u) => if t < u then some (c, t) else best) none

/-- The placement of R68: none where the descriptor is refused. -/
def State.place (s : State) (ring0 : Bool) (cert : Cert) : Option CoreId :=
  let v := s.adm.vAdm + cert.vecCyc
  let m := cdiv (s.adm.movAdm + cert.movBytes) 16
  if cert.vecCyc > s.adm.cfg.vecCap - s.adm.vAdm ∨ cert.movBytes > s.movLeft ring0 ∨ cert.scrRec > s.scrLeft ring0 then none
  else
    match s.bestCore ring0 cert v m with
    | none => none
    | some (b, _) =>
      if allCores.all (fun c => c == b || (s.jobsOf c).isEmpty || coreBound v m (s.jobsOf c) ≤ s.capOf c ring0) then some b
      else none

/-! ### Consuming and refusing (02 R60 to R65) -/

/-- The descriptor at a ring's HEAD consumed (02 R60): the marks of R64 and R65 go with it. -/
def State.consume (s : State) (r : Nat) : State :=
  let s1 := s.modRing r (fun v => { v with
    head := v.head + 1, fetched := v.fetched.drop 1, decided := v.decided + 1
    refusals := 0, promoted := false, aged := none })
  { s1 with adm := { s1.adm with order := s.adm.order + 1 } }

/-- The descriptor at a ring's HEAD refused: no later one of the ring is decided in this sill (02 R62). -/
def State.refuse (s : State) (r : Nat) : State := s.modRing r (fun v => { v with refused := true })

/-- A completion queued at the decision (02 R69; 03 R104): nothing journalled. -/
def State.atOnce (s : State) (r : Nat) (count : W32) (d : Octets) (status detail : Nat) : State :=
  s.complete ⟨s.adm.order, r, count, BitVec.ofNat 32 (fieldAt d 4 4), s.t.span, status, detail, 0, 0, 0,
    (d.getD 2 0).getLsbD 0, false, 0, [], false⟩

/-- The body of a device-command record: the manual gives no content (14 R544, R549). Log entry 40. -/
def freeBody (s : State) : Octets :=
  (List.range (Config.freeValue 40 s.freeCtr % 512 + 1)).map (fun i => octet (Config.freeValue (4000 + i) s.freeCtr))

/-- A device command's record appended, one scribe record of ring 0 charged (02 R68; 14 R549). -/
def State.journalCmd (s : State) (cls : Nat) (count : W32) : State :=
  let s1 := (s.useFree 1).appendLeaf (leafData 2 0xFF 0 cls 0 count.toNat (freeBody s)) 0 0 none
  { s1 with adm := { s.adm with scrAdm := s.adm.scrAdm + 1, r0Scr := s.adm.r0Scr + 1 } }

/-- The classes quiesce service decides (17 R687). -/
def quiesceClass (cls : Nat) : Bool :=
  cls ≤ 9 || cls == 16 || (24 ≤ cls && cls ≤ 36) || (40 ≤ cls && cls ≤ 54)

/-- Whether ring 0 is left to quiesce service: from the sill after a P2 reason arises to the sill after the last one clears
(17 R686 to R688). -/
def State.quiesce (s : State) : Bool := s.adm.paused.getLsbD 4

/-- Whether ring 0 is decided at all (17 R687, R692; 18 R722): in P2 only while spans run, JOURNAL does not hold, and the
device does not wait for an activation restart it has committed to. -/
def State.ring0Open (s : State) : Bool :=
  !s.quiesce ||
    ((s.sec.life == .provisioned || s.sec.life == .sealed) && !s.power.reasons.getLsbD 2
      && !(s.power.reasons.getLsbD 1 && (s.intentStep == 3 || s.intentStep == 9)))

/-- A device command decided (02 R68): consumed, journalled, and taken up. -/
def State.decideCmd (s : State) (cls : Nat) (d : Octets) : State :=
  if s.scrLeft true < 1 then s.refuse 0
  else
    let count := (s.ring 0).head
    let s1 := (s.consume 0).journalCmd cls count
    { s1 with adm := { s1.adm with devCmds := s1.adm.devCmds ++ [⟨s.adm.order, cls, count, s.t.span, d, none⟩] } }

/-- A job class decided (02 R68). -/
def State.decideJob (s : State) (r cls : Nat) (d : Octets) : State :=
  let count := (s.ring r).head
  match s.adm.certs.get none cls with
  | none => (s.atOnce r count d stBADCLASS 1).consume r
  | some cert =>
    if s.unfit cert then (s.atOnce r count d stBADCLASS 2).consume r
    else if (r = 0 ∧ cert.ctrl = false) ∨ (r ≠ 0 ∧ cert.data = false) then (s.atOnce r count d stBADCLASS 3).consume r
    else
      match s.place (r == 0) cert with
      | none => s.refuse r
      | some c =>
        let j : Job := ⟨s.adm.order, r, count, s.t.span, d, cert⟩
        let s1 := (s.consume r).modCore c (fun k => { k with jobQueue := k.jobQueue ++ [j] })
        { s1 with adm := { s1.adm with
          vAdm := s1.adm.vAdm + cert.vecCyc
          movAdm := s1.adm.movAdm + cert.movBytes
          scrAdm := s1.adm.scrAdm + cert.scrRec
          r0Mov := s1.adm.r0Mov + (if r = 0 then cert.movBytes else 0)
          r0Scr := s1.adm.r0Scr + (if r = 0 then cert.scrRec else 0)
          admitted := s1.adm.admitted ++ [(c, r == 0, cert)] } }

/-- The decision of R68 on the descriptor at a ring's HEAD. -/
def State.decideOne (s : State) (r : Nat) (d : Octets) : State :=
  let cls := descClass d
  let count := (s.ring r).head
  if (r ≠ 0 ∧ s.adm.paused ≠ 0) ∨ (r = 0 ∧ s.quiesce = true ∧ !quiesceClass cls) ∨ s.freeCpl r = 0 then s.refuse r
  else
    match s.badField d with
    | some off => (s.atOnce r count d stBADFIELD off).consume r
    | none =>
      if cls < 64 then
        if !assigned cls then (s.atOnce r count d stBADCLASS 1).consume r
        else if r ≠ 0 then (s.atOnce r count d stBADCLASS 3).consume r
        else s.decideCmd cls d
      else s.decideJob r cls d

/-! ### The order of decisions (02 R63 to R65) -/

/-- Whether a ring has a descriptor left to decide in this sill. -/
def Ring.undecided (v : Ring) : Bool := v.st == .active && !v.fresh && !v.refused && v.waiting != 0

/-- The data rings of a priority class that have descriptors left within their quota. -/
def State.classRings (s : State) (pri : Nat) : List Nat :=
  s.ringNumbers.filter (fun r => let v := s.ring r; r != 0 && v.ctx.pri == pri && v.undecided && v.decided < v.ctx.quota)

/-- The next ring of a class: the one whose turn has begun, then the promoted ones, then the others after the ring served
first in the class in the last sill. -/
def State.nextOfClass (s : State) (pri : Nat) : Option Nat :=
  let l := s.classRings pri
  let turn := match s.adm.current with | some r => if l.contains r then some r else none | none => none
  let rest := l.filter (fun r => !(s.ring r).promoted)
  let rotated := match s.adm.firstServed.get none pri with
    | none => rest
    | some f => rest.filter (fun r => r > f) ++ rest.filter (fun r => r ≤ f)
  turn.orElse (fun _ => (l.filter (fun r => (s.ring r).promoted) ++ rotated).head?)

/-- The aged ring decided next, for its head descriptor alone, in the order of ageing (02 R65). -/
def State.nextAged (s : State) : Option Nat :=
  (s.ringNumbers.filter (fun r => r != 0 && (s.ring r).aged.isSome && (s.ring r).undecided)).foldl
    (fun best r => match best with
      | none => some r
      | some q => if (s.ring r).aged.getD 0 < (s.ring q).aged.getD 0 then some r else some q) none

/-- The ring decided next and, for a turn within a class, the class (02 R63). Ring 0 exists while CTRL_RING.EN is 1 (03 R84). -/
def State.nextRing (s : State) : Option (Nat × Option Nat) :=
  if s.host.ctrl.en ∧ (s.ring 0).undecided ∧ s.adm.r0Decided < s.adm.cfg.r0Desc ∧ s.ring0Open then some (0, none)
  else
    match s.nextAged with
    | some r => some (r, none)
    | none => [7, 6, 5, 4, 3, 2, 1, 0].findSome? (fun p => (s.nextOfClass p).map (fun r => (r, some p)))

/-- Whether the posted command at the front waits to be decided in this sill (03 R119, R120): ring 0 must exist (R84), FAULTED
or not; a record must be left for it (14 R545), and posted commands wait with ring 0 while JOURNAL holds (log entry 97). -/
def State.postedReady (s : State) : Bool :=
  s.host.ctrl.en && (s.ring 0).st != .absent && s.host.postDue > 0 && !s.host.postQueue.isEmpty && s.ring0Open
    && s.freeCpl 0 > 0 && s.adm.r0Decided < s.adm.cfg.r0Desc && s.scrLeft true ≥ 1

/-- Whether a ring command waits for its effect, which comes at its decision (03 R108). -/
def State.ringCmdWaits (s : State) : Bool := s.adm.devCmds.any (fun d => 1 ≤ d.cls && d.cls ≤ 9)

/-- One descriptor of the ring that is flushed consumed without being executed (03 R117, R118). -/
def State.flushOne (s : State) (f : Flush) : State :=
  match (s.ring f.ring).fetched with
  | [] => s
  | d :: _ =>
    let t := (s.atOnce f.ring (s.ring f.ring).head d (if s.reg.frozen then 0x30 else 0x31) 0).consume f.ring
    ({ t with host := { t.host with flush := some { f with count := f.count + 1 } } }).settleFlush

/-- DECIDE (R68): a flush in progress takes the next decision (03 R118); otherwise the next descriptor in the order of R63; none
while the doorbell array has not returned (03 R89), while a posted command or a ring command comes first (03 R108, R119), or
while the ring's descriptor has not been read. -/
def execDecide (s : State) : Res :=
  if s.deciding = false ∨ s.host.dbBack = false then .next s
  else match s.host.flush with
  | some f => .next (s.flushOne f)
  | none =>
    if s.postedReady = true ∨ s.ringCmdWaits = true then .next s
    else match s.nextRing with
    | none => .next s
    | some (r, pri) =>
      match (s.ring r).fetched with
      | [] => .next s
      | d :: _ =>
        let s1 := s.decideOne r d
        let first := match pri with
          | some p => if (s.adm.firstThis.get none p).isNone then s1.adm.firstThis.set none p (some r) else s1.adm.firstThis
          | none => s1.adm.firstThis
        .next { s1 with adm := { s1.adm with
          r0Decided := if r = 0 then s1.adm.r0Decided + 1 else s1.adm.r0Decided
          current := if pri.isSome then some r else s1.adm.current
          firstThis := first } }

/-! ### Device commands in execution -/

/-- The oldest device command of a class. -/
def State.devCmd (s : State) (cls : Nat) : Option DevCmd := s.adm.devCmds.find? (fun d => d.cls == cls)

/-- A device command taken from those waiting. -/
def State.dropCmd (s : State) (d : DevCmd) : State :=
  { s with adm := { s.adm with devCmds := s.adm.devCmds.erase d } }

/-- How a device command ends: status, DETAIL, RES_BYTES and JOB_WORD. -/
structure CmdEnd where
  status   : Nat
  detail   : Nat
  resBytes : Nat
  jobWord  : Nat
  deriving DecidableEq, Repr

def CmdEnd.done : CmdEnd := ⟨stDONE, 0, 0, 0⟩
/-- A refusal by the state, and a refusal of what the command carries (03 R104; 17 R696; 18 R698). -/
def CmdEnd.refused (code : Nat) : CmdEnd := ⟨if (6 ≤ code && code ≤ 11) then stBADCERT else stBADRING, code, 0, 0⟩
/-- A refusal under the chain rules (14 R597, R599). -/
def CmdEnd.chain (port reason : Nat) : CmdEnd := ⟨stCHAIN, port, 0, reason⟩

/-- The classes that write an output to host memory (15 R623; 14 R597; 16 R657; 17 R695; 18 R699). -/
def writesHost (cls : Nat) : Bool := [24, 26, 35, 36, 40, 42, 44, 53].contains cls

/-- A device command carried out: the oldest of its class leaves the waiting ones, has its effect, and completes
(03 R104). One that writes an output waits while the link is out of L0 (03 R81). -/
def devRow (cls : Nat) (f : DevCmd → State → State × CmdEnd) (s : State) : Res :=
  match s.devCmd cls with
  | none => .next s
  | some d =>
    if writesHost cls && s.linkWaits then .next s
    else
      let (s1, e) := f d (s.dropCmd d)
      .next (s1.complete (cmdCpl d e.status e.detail e.resBytes (BitVec.ofNat 32 e.jobWord)))

/-- The failure of a command's host access (03 R82). -/
def State.hostFail (s : State) : State × CmdEnd := (s.raiseNotice 1, ⟨stJOBFAULT, 0, 0, 0⟩)

/-- A device command with a block (03 R82): it waits until the read returns, and a failed read ends it without effect. -/
def devBlockRow (cls : Nat) (f : DevCmd → Octets → State → State × CmdEnd) (s : State) : Res :=
  match s.devCmd cls with
  | none => .next s
  | some d =>
    match d.block with
    | none => .next s
    | some b =>
      devRow cls (fun d t => match b with
        | none => t.hostFail
        | some o => f d o t) s

/-- A device command's output written to host memory (03 R81, R82): the write fails while Bus Master Enable is clear or the
data link layer is down. -/
def State.cmdWrite (s : State) (addr : Nat) (o : Octets) (e : CmdEnd) : State × CmdEnd :=
  if s.host.bme && s.host.dllUp then (s.emit (.hostWrite addr o), e) else s.hostFail

end Sys2Proof.Machine
end

