-- ==== Sys2Proof/Machine/Access.lean ====
section
/-! DEFINITION. The frame, key and region checks of a memory access (05 R184, R188 to R191, R195; 12 R486), and the bay and
HBM granules the engines reach. -/

namespace Sys2Proof.Machine

/-- The kinds of access (05 R188). -/
inductive Acc where
  | load | store | fetch
  deriving DecidableEq, Repr

/-- The INFO number of an access (09 R380). -/
def Acc.info : Acc → Nat
  | .load => 1
  | .store => 2
  | .fetch => 3

/-- The cause for which a frame refuses an access, if it does (05 R188, R189, R191, R195). `super` says that the access
is made in supervisor mode through a BIN base; the lowest cause is reported. -/
def frameCause (e : FrameEntry) (bay : Bool) (acc : Acc) (key : BitVec 4) (super : Bool) : Option Nat :=
  let ok := super || key == e.key
  match acc, e.st with
  | _, .free => some 6
  | .load, _ => if ok || !e.fp then none else some 5
  | .store, .data => if ok then none else some 5
  | .store, .code => some 7
  | .fetch, .code => if bay then some 8 else if ok then none else some 5
  | .fetch, .data => some 8

/-- The cause for which an access of one octet's frame is refused (05 R184, R188). -/
def State.accCause (s : State) (c : CoreId) (addr : Nat) (acc : Acc) (key : BitVec 4) (super : Bool) : Option Nat :=
  match s.frame c addr with
  | none => some 1
  | some e => frameCause e (isBay addr) acc key super

/-- A region's entry (12 R486). -/
def State.region (s : State) (off : Nat) : FrameEntry := s.hbmRegions.get FrameEntry.zero (off / 2 ^ 30)

/-- The HBM capacity in octets (12 R485). -/
def State.hbmBytes (s : State) : Nat := s.variant.gib * 2 ^ 30

/-- A granule of bay memory or HBM. -/
def State.memGran (s : State) (hbm : Bool) (addr : Nat) : TVal := if hbm then s.hbmGran addr else s.gran 0 addr

/-- A granule of bay memory or HBM written. -/
def State.setMemGran (s : State) (hbm : Bool) (addr : Nat) (v : TVal) : State :=
  if hbm then s.setHbmGran addr v else s.setGran 0 addr v

/-- n octets of bay memory or HBM as a number. -/
def State.memNat (s : State) (hbm : Bool) (addr n : Nat) : Nat :=
  leNat ((List.range n).map (fun i =>
    BitVec.ofNat 8 ((s.memGran hbm (addr + i)).val.toNat / 2 ^ (8 * ((addr + i) % 16)) % 256)))

/-- Octets stored in bay memory or HBM: each granule becomes RAW and keeps its other octets (04 R161). -/
def State.setMem (s : State) (hbm : Bool) : Nat → Octets → State
  | _, [] => s
  | a, b :: r => (s.setMemGran hbm a ⟨tRAW, putByte (s.memGran hbm a).val (a % 16) b⟩).setMem hbm (a + 1) r

/-- The granules a range touches, each by the first address of the range in it; an empty range touches none. -/
def granAddrs (addr n : Nat) : List Nat :=
  if n = 0 then [] else (List.range ((addr % 16 + n + 15) / 16)).map (fun i => if i = 0 then addr else addr - addr % 16 + 16 * i)

/-- An uncorrectable error found at an address of bay memory or HBM: the granule, or the four of its block, become POISON
(12 R498). -/
def State.poisonAt (s : State) (hbm : Bool) (addr : Nat) : State :=
  if hbm then
    let b := addr / 64 * 64
    ([0, 16, 32, 48].foldl (fun t k => t.setHbmGran (b + k) (poisonVal 3)) s).poisoned b 3 4
  else (s.setGran 0 addr (poisonVal 2)).poisoned (addr / 16 * 16) 2 1

end Sys2Proof.Machine
end

