-- ==== Sys2Proof/Machine/DecNum.lean ====
section
/-! DEFINITION. Declets (04 R127 to R129), DEC and DW values and their exact arithmetic (07 R273 to R282, R291), as
functions on numbers. -/

namespace Sys2Proof.Machine

/-! ### Declets -/

/-- Bit i of a declet, bit 9 being p and bit 0 y. -/
def dbit (n i : Nat) : Nat := n / 2 ^ i % 2

/-- The three digits of a declet, as a number 0 to 999 (04 R128, R129). -/
def decodeDeclet (n : Nat) : Nat :=
  let p := dbit n 9; let q := dbit n 8; let r := dbit n 7
  let s := dbit n 6; let t := dbit n 5; let u := dbit n 4
  let v := dbit n 3; let w := dbit n 2; let x := dbit n 1; let y := dbit n 0
  let pqr := 4 * p + 2 * q + r
  let stu := 4 * s + 2 * t + u
  let digits : Nat × Nat × Nat :=
    if v = 0 then (pqr, stu, 4 * w + 2 * x + y)
    else match w, x, s, t with
      | 0, 0, _, _ => (pqr, stu, 8 + y)
      | 0, _, _, _ => (pqr, 8 + u, 4 * s + 2 * t + y)
      | _, 0, _, _ => (8 + r, stu, 4 * p + 2 * q + y)
      | _, _, 0, 0 => (8 + r, 8 + u, 4 * p + 2 * q + y)
      | _, _, 0, _ => (8 + r, 4 * p + 2 * q + u, 8 + y)
      | _, _, _, 0 => (pqr, 8 + u, 8 + y)
      | _, _, _, _ => (8 + r, 8 + u, 8 + y)
  100 * digits.1 + 10 * digits.2.1 + digits.2.2

/-- Ten bits from p to y. -/
def declet (pqr stu v wx y : Nat) : Nat := pqr * 128 + stu * 16 + v * 8 + wx * 2 + y

/-- The declet of three digits (04 R127). -/
def encodeDeclet (n : Nat) : Nat :=
  let d2 := n / 100 % 10; let d1 := n / 10 % 10; let d0 := n % 10
  let d := d2 % 2; let h := d1 % 2; let m := d0 % 2
  let bc := d2 / 2 % 4; let fg := d1 / 2 % 4; let jk := d0 / 2 % 4
  match d2 / 8, d1 / 8, d0 / 8 with
  | 0, 0, 0 => declet (2 * bc + d) (2 * fg + h) 0 jk m
  | 0, 0, _ => declet (2 * bc + d) (2 * fg + h) 1 0 m
  | 0, _, 0 => declet (2 * bc + d) (2 * jk + h) 1 1 m
  | 0, _, _ => declet (2 * bc + d) (4 + h) 1 3 m
  | _, 0, 0 => declet (2 * jk + d) (2 * fg + h) 1 2 m
  | _, 0, _ => declet (2 * fg + d) (2 + h) 1 3 m
  | _, _, 0 => declet (2 * jk + d) h 1 3 m
  | _, _, _ => declet d (6 + h) 1 3 m

/-- The coefficient eleven declets hold (04 R137). -/
def coeffOf : Nat → Nat → Nat
  | 0, _ => 0
  | n + 1, v => decodeDeclet (v % 1024) + 1000 * coeffOf n (v / 1024)

/-- The declets of a coefficient. -/
def decletsOf : Nat → Nat → Nat
  | 0, _ => 0
  | n + 1, v => encodeDeclet (v % 1000) + 1024 * decletsOf n (v / 1000)

/-- The 33-digit coefficient of a payload. -/
def payCoeff (v : Payload) : Nat := coeffOf 11 (bits v 0 110)

/-! ### DEC -/

/-- Why a decimal instruction cannot write its result: DOVF with a cause (07 R275), or a division by zero (R276). -/
inductive DErr where
  | ovf (cause : Nat)
  | zero
  deriving DecidableEq, Repr

/-- A decimal value: an integer and a scale. -/
structure Dec where
  v     : Int
  scale : Nat
  deriving DecidableEq, Repr

/-- 10^33 and 10^66. -/
def p33 : Nat := 1000000000000000000000000000000000
def p66 : Nat := 1000000000000000000000000000000000000000000000000000000000000000000

/-- An integer with a sign. -/
def withSign (neg : Bool) (n : Nat) : Int := if neg then -(n : Int) else n

/-- The value of a DEC payload (04 R136, R139). -/
def decOf (p : Payload) : Dec := ⟨withSign (p.getLsbD 127) (payCoeff p), bits p 121 6⟩

/-- A DEC payload; zero has sign 0 (04 R139). -/
def decPay (x : Dec) : Payload :=
  BitVec.ofNat 128 ((if x.v < 0 then 2 ^ 127 else 0) + x.scale * 2 ^ 121 + decletsOf 11 x.v.natAbs)

/-- A DEC register value. -/
def decVal (x : Dec) : TVal := ⟨tDEC, decPay x⟩

/-- A result that must fit 33 digits and scale 32, the lowest cause first (07 R275). -/
def fitDec (x : Dec) : Except DErr Dec :=
  if x.v.natAbs ≥ p33 then .error (.ovf 1) else if x.scale > 32 then .error (.ovf 2) else .ok x

/-- The coefficient of a value at a scale not below its own. -/
def Dec.at (x : Dec) (scale : Nat) : Int := x.v * 10 ^ (scale - x.scale)

def dadd (x y : Dec) : Except DErr Dec :=
  let m := max x.scale y.scale
  fitDec ⟨x.at m + y.at m, m⟩

def dsub (x y : Dec) : Except DErr Dec := dadd x ⟨-y.v, y.scale⟩

def dmul (x y : Dec) : Except DErr Dec := fitDec ⟨x.v * y.v, x.scale + y.scale⟩

/-- Comparison of values (07 R278). -/
def dcmp (x y : Dec) : Ordering :=
  let m := max x.scale y.scale
  compare (x.at m) (y.at m)

/-- Exact division at the smallest scale that holds it (07 R278). -/
def ddivx (x y : Dec) : Except DErr Dec :=
  if y.v = 0 then .error .zero
  else
    let lo := x.scale - y.scale
    let num := fun t => x.v.natAbs * 10 ^ (t + y.scale - x.scale)
    match (List.range 33).find? (fun t => lo ≤ t && num t % y.v.natAbs == 0) with
    | none => .error (.ovf 3)
    | some t => fitDec ⟨withSign (decide (x.v < 0) != decide (y.v < 0)) (num t / y.v.natAbs), t⟩

/-- Rounding of n parts of ten thrown away: quotient, remainder, divisor, under DRM (05 R174). `sticky` says that more
than the remainder is thrown away. -/
def roundDec (drm : Nat) (neg : Bool) (q r m : Nat) (sticky : Bool) : Nat :=
  let twice := compare (2 * r) m
  let above := twice == .gt || (twice == .eq && sticky)
  let tie := twice == .eq && !sticky
  let exact := r == 0 && !sticky
  let up := match drm with
    | 0 => above || (tie && q % 2 == 1)
    | 1 => above || tie
    | 2 => false
    | 3 => !neg && !exact
    | _ => neg && !exact
  if up then q + 1 else q

/-- A value brought to a scale; LOST if a nonzero digit falls away (07 R278). -/
def dresc (x : Dec) (scale : Nat) : Except DErr Dec :=
  if scale ≥ x.scale then fitDec ⟨x.at scale, scale⟩
  else
    let m := 10 ^ (x.scale - scale)
    if x.v.natAbs % m ≠ 0 then .error (.ovf 3) else fitDec ⟨withSign (decide (x.v < 0)) (x.v.natAbs / m), scale⟩

/-- A value rounded to a scale under DRM (07 R278, R279). -/
def drnd (drm : Nat) (x : Dec) (scale : Nat) : Except DErr Dec :=
  if scale ≥ x.scale then dresc x scale
  else
    let m := 10 ^ (x.scale - scale)
    let neg := decide (x.v < 0)
    fitDec ⟨withSign neg (roundDec drm neg (x.v.natAbs / m) (x.v.natAbs % m) m false), scale⟩

/-- Breakage division: pool, divisor, quantum to dividend and breakage (07 R281). -/
def ddivb (p v u : Dec) : Except DErr (Dec × Dec) :=
  if v.v = 0 then .error .zero
  else if u.v ≤ 0 then .error (.ovf 4)
  else
    let big := max p.scale (u.scale + v.scale)
    let pn := p.at big
    let vu := v.v * u.v * 10 ^ (big - u.scale - v.scale)
    let k := Int.tdiv pn vu
    let q := k * u.v
    let r := pn - k * vu
    if q.natAbs ≥ p33 ∨ r.natAbs ≥ p33 then .error (.ovf 1)
    else if big > 32 then .error (.ovf 2)
    else .ok (⟨q, u.scale⟩, ⟨r, big⟩)

/-! ### DW pairs (04 R140 to R142) -/

/-- The value of a DWH and a DWL. -/
def dwOf (hi lo : Payload) : Dec :=
  ⟨withSign (hi.getLsbD 127) (payCoeff hi * p33 + payCoeff lo), bits hi 121 6⟩

/-- The DWH and DWL of a value; a zero has sign 0. -/
def dwPay (x : Dec) : Payload × Payload :=
  (BitVec.ofNat 128 ((if x.v < 0 then 2 ^ 127 else 0) + x.scale * 2 ^ 121 + decletsOf 11 (x.v.natAbs / p33)),
   BitVec.ofNat 128 (decletsOf 11 (x.v.natAbs % p33)))

/-- A DW result: 66 digits, scale 32. -/
def fitDw (x : Dec) : Except DErr Dec :=
  if x.v.natAbs ≥ p66 then .error (.ovf 1) else if x.scale > 32 then .error (.ovf 2) else .ok x

def dmulw (x y : Dec) : Except DErr Dec := fitDw ⟨x.v * y.v, x.scale + y.scale⟩

def daddw (x y : Dec) : Except DErr Dec :=
  let m := max x.scale y.scale
  fitDw ⟨x.at m + y.at m, m⟩

def dsubw (x y : Dec) : Except DErr Dec := daddw x ⟨-y.v, y.scale⟩

/-! ### Packed decimal and digit text (04 R149 to R152) -/

/-- Nibbles of an octet string, most significant first. -/
def nibbles (l : Octets) : List Nat := l.flatMap (fun b => [b.toNat / 16, b.toNat % 16])

/-- The digits of a list, most significant first, as a number. -/
def digitsNat (l : List Nat) : Nat := l.foldl (fun n d => 10 * n + d) 0

/-- The value of a packed field, or the TAG cause: BAD_DIGIT 4, BAD_SIGN 5 (04 R151, R155). -/
def packedOf (l : Octets) : Except Nat Int :=
  let n := nibbles l
  let ds := n.dropLast
  let sg := n.getLastD 0
  if ds.any (fun d => d > 9) then .error 4
  else if !(sg = 0xC || sg = 0xF || sg = 0xD || sg = 0xB) then .error 5
  else .ok (withSign (sg = 0xD || sg = 0xB) (digitsNat ds))

/-- The digit nibbles of a number, most significant first, padded to n. -/
def digitList : Nat → Nat → List Nat
  | 0, _ => []
  | n + 1, v => digitList n (v / 10) ++ [v % 10]

/-- Nibbles paired into octets. -/
def pairNibbles : List Nat → Octets
  | a :: b :: r => BitVec.ofNat 8 (16 * a + b) :: pairNibbles r
  | _ => []

/-- A packed field of n octets (04 R150), none where the value needs more than 2n - 1 digits. -/
def packedBytes (n : Nat) (v : Int) : Option Octets :=
  if v.natAbs ≥ 10 ^ (2 * n - 1) then none
  else some (pairNibbles (digitList (2 * n - 1) v.natAbs ++ [if v < 0 then 0xD else 0xC]))

/-- The value of digit text, or BAD_TEXT 6 (04 R152). -/
def textOf (l : Octets) : Except Nat Int :=
  if l.any (fun b => b.toNat < 0x30 || b.toNat > 0x39) then .error 6
  else .ok (digitsNat (l.map (fun b => b.toNat - 0x30)))

/-- A field written with a coefficient brought to a scale: the exact coefficient, or the DOVF cause, with the digits the
field holds (07 R275, R291). -/
def fieldCoeff (x : Dec) (scale digits : Nat) : Except DErr Int :=
  let m := 10 ^ (x.scale - scale)
  let c := if scale ≥ x.scale then (x.at scale).natAbs else x.v.natAbs / m
  if c ≥ 10 ^ digits then .error (.ovf 1)
  else if scale < x.scale ∧ x.v.natAbs % m ≠ 0 then .error (.ovf 3)
  else .ok (withSign (decide (x.v < 0)) c)

/-! ### Conversions with integers -/

/-- BTD: an integer as DEC at scale 0 (07 R291). -/
def btd (v : Int) : Except DErr Dec := fitDec ⟨v, 0⟩

/-- DTB: the integer a DEC holds; LOST if the fraction is not zero (07 R291). -/
def dtb (x : Dec) : Except DErr Int :=
  let m := 10 ^ x.scale
  if x.v.natAbs % m ≠ 0 then .error (.ovf 3) else .ok (withSign (decide (x.v < 0)) (x.v.natAbs / m))

end Sys2Proof.Machine
end

