-- ==== Sys2Proof/Machine/Flags.lean ====
section
/-! DEFINITION. Condition codes (05 R174: 0 equal or zero, 1 low or negative, 2 high or positive, 3 overflow or other)
and the sticky float flags of FPSF (07 R300). -/

namespace Sys2Proof.Machine

/-- The condition code of an integer's sign. -/
def ccOfInt (n : Int) : Nat := if n = 0 then 0 else if n < 0 then 1 else 2

/-- The condition code of a comparison. -/
def ccOfOrd : Ordering → Nat
  | .eq => 0
  | .lt => 1
  | .gt => 2

/-- The state with the condition code of a bank set. -/
def State.setBankCc (s : State) (c : CoreId) (b : BankId) (cc : Nat) : State :=
  s.modBank c b (fun k => { k with tsw := setCc k.tsw cc })

/-- The float flags: bit 4 invalid, 3 division by zero, 2 overflow, 1 underflow, 0 inexact (07 R300). -/
abbrev fIV : BitVec 5 := 0x10
abbrev fDZ : BitVec 5 := 0x08
abbrev fOF : BitVec 5 := 0x04
abbrev fUF : BitVec 5 := 0x02
abbrev fIX : BitVec 5 := 0x01

/-- The flags that can trap: invalid, division by zero, overflow (07 R306). -/
def trapping (f : BitVec 5) : BitVec 5 := f &&& 0x1C

/-- Flags added to FPSF: no float instruction clears one (07 R300). -/
def Bank.addFlags (k : Bank) (f : BitVec 5) : Bank := { k with fpsf := k.fpsf ||| f.setWidth 32 }

/-- The pending record an imprecise instruction leaves or adds to (07 R308, R309). -/
def Bank.addFpt (k : Bank) (r : Option FptRec) : Bank :=
  match r, k.fpt with
  | none, _ => k
  | some n, none => { k with fpt := some n }
  | some n, some o =>
    if n.mode = o.mode ∧ n.mask = o.mask then { k with fpt := some { o with flags := o.flags ||| n.flags } } else k

end Sys2Proof.Machine
end

