-- ==== Sys2Proof/Machine/DecFloat.lean ====
section
/-! DEFINITION. Decimal float and binary64 arithmetic on numbers (07 R294 to R305, R315 to R317): the exact result, one
rounding, the flags. -/

namespace Sys2Proof.Machine

/-- A float value: finite (sign, coefficient, exponent), infinite, quiet or signalling NaN (sign, payload). -/
inductive Fl where
  | fin (neg : Bool) (c : Nat) (q : Int)
  | inf (neg : Bool)
  | qnan (neg : Bool) (p : Nat)
  | snan (neg : Bool) (p : Nat)
  deriving DecidableEq, Repr

/-- A result and its flags. -/
abbrev FlRes := Fl × BitVec 5

/-- The default NaN and invalid (07 R299). -/
def invalidRes : FlRes := (.qnan false 0, fIV)

/-- The NaN rule of R298 over operands in order; none where no operand is a NaN. -/
def nanOf (l : List Fl) : Option FlRes :=
  match l.findSome? (fun x => match x with | .snan s p => some (Fl.qnan s p) | _ => none) with
  | some r => some (r, fIV)
  | none => (l.findSome? (fun x => match x with | .qnan s p => some (Fl.qnan s p) | _ => none)).map (fun r => (r, 0))

/-- The integer square root by Newton's iteration. -/
def isqrtLoop : Nat → Nat → Nat → Nat
  | 0, _, x => x
  | fuel + 1, n, x =>
    let y := (x + n / x) / 2
    if y < x then isqrtLoop fuel n y else x

/-- The integer square root. -/
def isqrt (n : Nat) : Nat := if n = 0 then 0 else isqrtLoop 400 n (2 ^ (Nat.log2 n / 2 + 1))

/-- The number of decimal digits; `fuel` bounds the search. -/
def digitsLoop : Nat → Nat → Nat → Nat
  | 0, _, k => k
  | fuel + 1, n, k => if n = 0 then k else digitsLoop fuel (n / 10) (k + 1)

/-- Decimal digits of a number, 0 for 0. -/
def numDigits (n : Nat) : Nat :=
  let g := Nat.log2 n * 30103 / 100000
  digitsLoop 4 (n / 10 ^ g) g

/-- Trailing zeros of a coefficient taken off, at most `fuel`. -/
def strip : Nat → Nat → Int → Nat × Int
  | 0, c, q => (c, q)
  | fuel + 1, c, q => if c ≠ 0 ∧ c % 10 = 0 then strip fuel (c / 10) (q + 1) else (c, q)

/-! ### DFF (04 R143; 07 R294 to R296) -/

def dqMin : Int := -2079
def dqMax : Int := 2016

/-- An integer brought into a range. -/
def clampInt (x lo hi : Int) : Int := max lo (min x hi)

/-- An overflowed DFF result (07 R317). -/
def dffOver (drm : Nat) (neg : Bool) : FlRes :=
  let big := drm = 2 ∨ (drm = 3 ∧ neg = true) ∨ (drm = 4 ∧ neg = false)
  (if big then .fin neg (p33 - 1) dqMax else .inf neg, fOF ||| fIX)

/-- The one rounding of a DFF result: the exact value is c × 10^q, and a little more where `sticky` says so; `pref` is the
preferred exponent (07 R295 to R297). -/
def roundDff (drm : Nat) (neg : Bool) (c : Nat) (q : Int) (sticky : Bool) (pref : Int) : FlRes :=
  if c = 0 ∧ !sticky then (.fin neg 0 (clampInt pref dqMin dqMax), 0)
  else
    let (c0, q0) := if sticky then (c, q) else strip 9000 c q
    let nd := numDigits c0
    if !sticky ∧ nd ≤ 33 ∧ q0 ≥ dqMin ∧ q0 + nd ≤ 2049 then
      let lo := max (q0 - (33 - nd)) dqMin
      let hi := min q0 dqMax
      let e := clampInt pref lo hi
      (.fin neg (c0 * 10 ^ (q0 - e).toNat) e, 0)
    else
      let t := max (q0 + nd - 33) dqMin
      let n := (t - q0).toNat
      let m := 10 ^ n
      let c1 := roundDec drm neg (c0 / m) (c0 % m) m sticky
      let (c2, t2) := if c1 ≥ p33 then (c1 / 10, t + 1) else (c1, t)
      let tiny := q0 + nd - 1 < -2047
      if t2 > dqMax then dffOver drm neg
      else (.fin neg c2 t2, if tiny then fUF ||| fIX else fIX)

/-- A DFF operand's value under its tag (04 R136). -/
def dffOf (v : TVal) : Fl :=
  let s := v.val.getLsbD 127
  if v.tag = tDFI then .inf s
  else if v.tag = tDFQ then .qnan s (payCoeff v.val)
  else if v.tag = tDFS then .snan s (payCoeff v.val)
  else .fin s (payCoeff v.val) ((bits v.val 115 12 : Int) - 2079)

/-- A DFF value with its tag (04 R144). -/
def dffVal (x : Fl) : TVal :=
  let sg := fun (s : Bool) => if s then 2 ^ 127 else 0
  match x with
  | .fin s c q => ⟨tDFF, BitVec.ofNat 128 (sg s + (q + 2079).toNat * 2 ^ 115 + decletsOf 11 c)⟩
  | .inf s => ⟨tDFI, BitVec.ofNat 128 (sg s)⟩
  | .qnan s p => ⟨tDFQ, BitVec.ofNat 128 (sg s + decletsOf 11 p)⟩
  | .snan s p => ⟨tDFS, BitVec.ofNat 128 (sg s + decletsOf 11 p)⟩

/-- The sign of a float. -/
def Fl.neg? : Fl → Bool
  | .fin s _ _ | .inf s | .qnan s _ | .snan s _ => s

/-- A float with its sign inverted. -/
def Fl.negate : Fl → Fl
  | .fin s c q => .fin (!s) c q
  | .inf s => .inf (!s)
  | .qnan s p => .qnan (!s) p
  | .snan s p => .snan (!s) p

/-- A float with sign 0. -/
def Fl.abs : Fl → Fl
  | .fin _ c q => .fin false c q
  | .inf _ => .inf false
  | .qnan _ p => .qnan false p
  | .snan _ p => .snan false p

/-- The exact sum of two scaled integers in base b: the integer at the lower exponent. -/
def sumAt (b : Nat) (s1 : Bool) (c1 : Nat) (q1 : Int) (s2 : Bool) (c2 : Nat) (q2 : Int) : Int × Int :=
  let q := min q1 q2
  (withSign s1 (c1 * b ^ (q1 - q).toNat) + withSign s2 (c2 * b ^ (q2 - q).toNat), q)

/-- The sign of a zero sum: the common sign; plus where two numbers cancel, in every mode (07 R317, the rows of R315 and R316
without IX); of two zeros of unlike sign plus, or minus when rounding toward −∞ (IEEE 754-2019 6.3; log entry 109). -/
def zeroSign (s1 s2 down zeros : Bool) : Bool := if s1 = s2 then s1 else down && zeros

/-- The sum of finite operands rounded by a given rounding. -/
def addFin (b : Nat) (down : Bool) (rnd : Bool → Nat → Int → FlRes) (s1 : Bool) (c1 : Nat) (q1 : Int) (s2 : Bool)
    (c2 : Nat) (q2 : Int) : FlRes :=
  let (v, q) := sumAt b s1 c1 q1 s2 c2 q2
  if v = 0 then rnd (zeroSign s1 s2 down (c1 == 0 && c2 == 0)) 0 q else rnd (decide (v < 0)) v.natAbs q

/-- Addition in base b, the operands finite, infinite or NaN (IEEE 754-2019 7.2). -/
def addFl (b : Nat) (down : Bool) (rnd : Bool → Nat → Int → FlRes) (x y : Fl) : FlRes :=
  match nanOf [x, y] with
  | some r => r
  | none =>
    match x, y with
    | .inf s, .inf t => if s = t then (.inf s, 0) else invalidRes
    | .inf s, _ => (.inf s, 0)
    | _, .inf t => (.inf t, 0)
    | .fin s1 c1 q1, .fin s2 c2 q2 => addFin b down rnd s1 c1 q1 s2 c2 q2
    | _, _ => invalidRes

/-- Multiplication. -/
def mulFl (rnd : Bool → Nat → Int → FlRes) (x y : Fl) : FlRes :=
  match nanOf [x, y] with
  | some r => r
  | none =>
    match x, y with
    | .inf s, .inf t => (.inf (s != t), 0)
    | .inf s, .fin t c _ => if c = 0 then invalidRes else (.inf (s != t), 0)
    | .fin s c _, .inf t => if c = 0 then invalidRes else (.inf (s != t), 0)
    | .fin s1 c1 q1, .fin s2 c2 q2 => rnd (s1 != s2) (c1 * c2) (q1 + q2)
    | _, _ => invalidRes

/-- Fused multiply-add a × b + d (07 R298: the NaN order is a, b, d). -/
def fmaFl (b : Nat) (down : Bool) (rnd : Bool → Nat → Int → FlRes) (x y z : Fl) : FlRes :=
  match nanOf [x, y, z] with
  | some r => r
  | none =>
    let p : Option (Option Bool × Bool × Nat × Int) := match x, y with
      | .inf s, .inf t => some (some (s != t), s != t, 0, 0)
      | .inf s, .fin t c _ => if c = 0 then none else some (some (s != t), s != t, 0, 0)
      | .fin s c _, .inf t => if c = 0 then none else some (some (s != t), s != t, 0, 0)
      | .fin s1 c1 q1, .fin s2 c2 q2 => some (none, s1 != s2, c1 * c2, q1 + q2)
      | _, _ => none
    match p, z with
    | none, _ => invalidRes
    | some (some s, _, _, _), .inf t => if s = t then (.inf s, 0) else invalidRes
    | some (some s, _, _, _), _ => (.inf s, 0)
    | some (none, _, _, _), .inf t => (.inf t, 0)
    | some (none, s, c, q), .fin t c3 q3 => addFin b down rnd s c q t c3 q3
    | _, _ => invalidRes

/-- Division: the quotient to many digits with a sticky remainder. `k` digits of base b are added first. -/
def divFl (b k : Nat) (rnd : Bool → Nat → Int → Bool → Int → FlRes) (x y : Fl) : FlRes :=
  match nanOf [x, y] with
  | some r => r
  | none =>
    match x, y with
    | .inf _, .inf _ => invalidRes
    | .inf s, .fin t _ _ => (.inf (s != t), 0)
    | .fin s _ _, .inf t => rnd (s != t) 0 0 false dqMin
    | .fin s1 c1 q1, .fin s2 c2 q2 =>
      if c2 = 0 then if c1 = 0 then invalidRes else (.inf (s1 != s2), fDZ)
      else
        let n := c1 * b ^ k
        rnd (s1 != s2) (n / c2) (q1 - q2 - k) (n % c2 != 0) (q1 - q2)
    | _, _ => invalidRes

/-- Square root: the root to many digits with a sticky remainder. -/
def sqrtFl (b k : Nat) (rnd : Bool → Nat → Int → Bool → Int → FlRes) (x : Fl) : FlRes :=
  match nanOf [x] with
  | some r => r
  | none =>
    match x with
    | .inf s => if s then invalidRes else (.inf false, 0)
    | .fin s c q =>
      if c = 0 then rnd s 0 q false (q.fdiv 2)
      else if s then invalidRes
      else
        let odd := q.fmod 2
        let n := c * b ^ (2 * k + odd.toNat)
        let r := isqrt n
        rnd false r ((q - odd).fdiv 2 - k) (r * r != n) (q.fdiv 2)
    | _ => invalidRes

/-- How two floats compare; none where unordered. -/
def cmpFl (b : Nat) (x y : Fl) : Option Ordering :=
  match x, y with
  | .fin s1 c1 q1, .fin s2 c2 q2 => some (compare (sumAt b s1 c1 q1 (!s2) c2 q2).1 0)
  | .inf s, .inf t => some (if s = t then .eq else if s then .lt else .gt)
  | .inf s, .fin _ _ _ => some (if s then .lt else .gt)
  | .fin _ _ _, .inf t => some (if t then .gt else .lt)
  | _, _ => none

/-- The conditions of DFCB and BFCB (07 R303): whether the branch is taken, and its flags. -/
def fcond (cond : Nat) (b : Nat) (x y : Fl) : Bool × BitVec 5 :=
  let o := cmpFl b x y
  let signalling := [x, y].any (fun v => match v with | .snan _ _ => true | _ => false)
  let iv := signalling || (o.isNone && 2 ≤ cond && cond ≤ 5)
  let t := match cond with
    | 0 => o == some .eq
    | 1 => o != some .eq
    | 2 => o == some .lt
    | 3 => o == some .gt || o == some .eq
    | 4 => o == some .gt
    | 5 => o == some .lt || o == some .eq
    | 6 => o.isNone
    | _ => o.isSome
  (t, if iv then fIV else 0)

/-! ### The DFF operations -/

/-- Rounding toward −∞ under DRM. -/
def drmDown (drm : Nat) : Bool := drm == 4

/-- An exact DFF result rounded with a preferred exponent. -/
def rdff (drm : Nat) (pref : Int) (s : Bool) (c : Nat) (q : Int) : FlRes := roundDff drm s c q false pref

def dfadd (drm : Nat) (x y : Fl) : FlRes := addFl 10 (drmDown drm) (fun s c q => rdff drm q s c q) x y
def dfsub (drm : Nat) (x y : Fl) : FlRes :=
  match nanOf [x, y] with
  | some r => r
  | none => dfadd drm x y.negate
def dfmul (drm : Nat) (x y : Fl) : FlRes := mulFl (fun s c q => rdff drm q s c q) x y
def dffma (drm : Nat) (x y z : Fl) : FlRes := fmaFl 10 (drmDown drm) (fun s c q => rdff drm q s c q) x y z
def dfdiv (drm : Nat) (x y : Fl) : FlRes := divFl 10 70 (fun s c q st p => roundDff drm s c q st p) x y
def dfsqrt (drm : Nat) (x : Fl) : FlRes := sqrtFl 10 40 (fun s c q st p => roundDff drm s c q st p) x

/-- Quantize to the exponent of y (07 R295, R315): invalid where 33 digits do not hold it; no underflow. -/
def dfqua (drm : Nat) (x y : Fl) : FlRes :=
  match nanOf [x, y] with
  | some r => r
  | none =>
    match x, y with
    | .inf s, .inf _ => (.inf s, 0)
    | .fin s c q, .fin _ _ qb =>
      if q ≥ qb then
        if c = 0 then (.fin s 0 qb, 0)
        else if q - qb > 33 ∨ c * 10 ^ (q - qb).toNat ≥ p33 then invalidRes
        else (.fin s (c * 10 ^ (q - qb).toNat) qb, 0)
      else
        let m := 10 ^ (qb - q).toNat
        let r := roundDec drm s (c / m) (c % m) m false
        if r ≥ p33 then invalidRes else (.fin s r qb, if c % m = 0 then 0 else fIX)
    | _, _ => invalidRes

/-- Scaling by 10^n. -/
def dfscb (drm : Nat) (x : Fl) (n : Int) : FlRes :=
  match nanOf [x] with
  | some r => r
  | none =>
    match x with
    | .fin s c q => rdff drm (q + n) s c (q + n)
    | v => (v, 0)

/-- DTF: the DFF of a DEC, coefficient and sign kept (07 R291). -/
def dtf (p : Payload) : Fl := .fin (p.getLsbD 127) (payCoeff p) (-(bits p 121 6 : Int))

/-- DFTD: the DEC of a finite DFF at a scale (07 R291, R293). -/
def dftd (x : Fl) (scale : Nat) : Except DErr Dec :=
  match x with
  | .fin s c q =>
    if c = 0 then .ok ⟨0, scale⟩
    else
      let sh := q + scale
      if sh > 33 then .error (.ovf 1)
      else if sh ≥ 0 then fitDec ⟨withSign s (c * 10 ^ sh.toNat), scale⟩
      else
        let m := 10 ^ (-sh).toNat
        if c % m ≠ 0 then .error (.ovf 3) else fitDec ⟨withSign s (c / m), scale⟩
  | _ => .error (.ovf 3)

/-! ### Binary64 (07 R305) -/

/-- Rounding under BRM of a quotient, remainder and divisor, with a sticky rest. -/
def roundBin (brm : Nat) (neg : Bool) (q r m : Nat) (sticky : Bool) : Nat :=
  match brm with
  | 0 => roundDec 0 neg q r m sticky
  | 1 => roundDec 2 neg q r m sticky
  | 2 => roundDec 3 neg q r m sticky
  | _ => roundDec 4 neg q r m sticky

/-- An overflowed B64 result (07 R317). -/
def b64Over (brm : Nat) (neg : Bool) : FlRes :=
  let big := brm = 1 ∨ (brm = 2 ∧ neg = true) ∨ (brm = 3 ∧ neg = false)
  (if big then .fin neg (2 ^ 53 - 1) 971 else .inf neg, fOF ||| fIX)

/-- Bits of a number. -/
def bitLen (n : Nat) : Nat := if n = 0 then 0 else Nat.log2 n + 1

/-- c shifted to an exponent not below its own, by rounding; or not above it, exactly. -/
def shiftTo (brm : Nat) (neg : Bool) (c : Nat) (e t : Int) (sticky : Bool) : Nat × Bool :=
  if t ≤ e then (c * 2 ^ (e - t).toNat, sticky)
  else
    let m := 2 ^ (t - e).toNat
    (roundBin brm neg (c / m) (c % m) m sticky, sticky || c % m != 0)

/-- The one rounding of a B64 result: the exact value is c × 2^e, and a little more where `sticky` says so. Tininess is
detected after rounding (07 R297). -/
def roundB64 (brm : Nat) (neg : Bool) (c : Nat) (e : Int) (sticky : Bool) : FlRes :=
  if c = 0 ∧ !sticky then (.fin neg 0 0, 0)
  else
    let nb := bitLen c
    let tu := e + nb - 53
    let (mu, _) := shiftTo brm neg c e tu sticky
    let tiny := (if mu ≥ 2 ^ 53 then tu + 53 else tu + 52) < -1022
    let t := max tu (-1074)
    let (m1, inexact) := shiftTo brm neg c e t sticky
    let (m2, t2) := if m1 ≥ 2 ^ 53 then (m1 / 2, t + 1) else (m1, t)
    if t2 > 971 then b64Over brm neg
    else (.fin neg m2 t2, if inexact then (if tiny then fUF ||| fIX else fIX) else 0)

/-- The value of a B64 payload (04 R146). A NaN's payload is the low 51 bits of its fraction. -/
def b64Of (v : Payload) : Fl :=
  let s := v.getLsbD 63
  let ex := bits v 52 11
  let f := bits v 0 52
  if ex = 2047 then
    if f = 0 then .inf s else if f ≥ 2 ^ 51 then .qnan s (f - 2 ^ 51) else .snan s f
  else if ex = 0 then .fin s f (-1074)
  else .fin s (f + 2 ^ 52) ((ex : Int) - 1075)

/-- A B64 payload; a finite value is one that roundB64 or b64Of gives. -/
def b64Pay (x : Fl) : Payload :=
  let sg := fun (s : Bool) => if s then 2 ^ 63 else 0
  BitVec.ofNat 128 (match x with
  | .fin s c q => if c < 2 ^ 52 then sg s + c else sg s + (q + 1075).toNat * 2 ^ 52 + (c - 2 ^ 52)
  | .inf s => sg s + 2047 * 2 ^ 52
  | .qnan s p => sg s + 2047 * 2 ^ 52 + 2 ^ 51 + p % 2 ^ 51
  | .snan s p => sg s + 2047 * 2 ^ 52 + p % 2 ^ 51)

/-- A B64 register value. -/
def b64Val (x : Fl) : TVal := ⟨tB64, b64Pay x⟩

/-- Rounding toward −∞ under BRM. -/
def brmDown (brm : Nat) : Bool := brm == 3

def bfadd (brm : Nat) (x y : Fl) : FlRes := addFl 2 (brmDown brm) (fun s c q => roundB64 brm s c q false) x y
def bfsub (brm : Nat) (x y : Fl) : FlRes :=
  match nanOf [x, y] with
  | some r => r
  | none => bfadd brm x y.negate
def bfmul (brm : Nat) (x y : Fl) : FlRes := mulFl (fun s c q => roundB64 brm s c q false) x y
def bffma (brm : Nat) (x y z : Fl) : FlRes := fmaFl 2 (brmDown brm) (fun s c q => roundB64 brm s c q false) x y z
def bfdiv (brm : Nat) (x y : Fl) : FlRes := divFl 2 120 (fun s c q st _ => roundB64 brm s c q st) x y
def bfsqrt (brm : Nat) (x : Fl) : FlRes := sqrtFl 2 64 (fun s c q st _ => roundB64 brm s c q st) x

/-- Rounding to an integral value (07 R305). -/
def bfrint (brm : Nat) (x : Fl) : FlRes :=
  match nanOf [x] with
  | some r => r
  | none =>
    match x with
    | .fin s c q =>
      if q ≥ 0 then (x, 0)
      else
        let m := 2 ^ (-q).toNat
        ((roundB64 brm s (roundBin brm s (c / m) (c % m) m false) 0 false).1, if c % m = 0 then 0 else fIX)
    | v => (v, 0)

/-- Scaling by 2^n. -/
def bfscb (brm : Nat) (x : Fl) (n : Int) : FlRes :=
  match nanOf [x] with
  | some r => r
  | none =>
    match x with
    | .fin s c q => if c = 0 then (x, 0) else roundB64 brm s c (q + n) false
    | v => (v, 0)

/-- A signed integer rounded to B64 (11 R469). -/
def intToB64 (brm : Nat) (v : Int) : FlRes := roundB64 brm (decide (v < 0)) v.natAbs 0 false

/-- DFTB: a DFF as B64 (07 R301). NaN payloads pass modulo 2^51. -/
def dftb (brm : Nat) (x : Fl) : FlRes :=
  match nanOf [x] with
  | some (.qnan s p, f) => (.qnan s (p % 2 ^ 51), f)
  | some r => r
  | none =>
    match x with
    | .fin s c q =>
      if q ≥ 0 then roundB64 brm s (c * 10 ^ q.toNat) 0 false
      else
        let d := 10 ^ (-q).toNat
        let n := c * 2 ^ 7100
        roundB64 brm s (n / d) (-7100) (n % d != 0)
    | v => (v, 0)

/-- BTDF: a B64 as DFF; the preferred exponent is the one nearest 0 (07 R295, R301). -/
def btdf (drm : Nat) (x : Fl) : FlRes :=
  match nanOf [x] with
  | some r => r
  | none =>
    match x with
    | .fin s c q =>
      if q ≥ 0 then roundDff drm s (c * 2 ^ q.toNat) 0 false 0
      else roundDff drm s (c * 5 ^ (-q).toNat) q false 0
    | v => (v, 0)

end Sys2Proof.Machine
end

