-- ==== Sys2Proof/Machine/Vops.lean ====
section
/-! DEFINITION. Element types, stage typing, rates and the element operations of chains (10 R423; 11 R451 to R477), as
functions on elements. -/

namespace Sys2Proof.Machine

/-! ### Element types (10 R423) -/

abbrev eBIN : Nat := 0x01
abbrev eDEC : Nat := 0x02
abbrev eDFF : Nat := 0x03
abbrev eB64 : Nat := 0x07
abbrev eDW : Nat := 0x09
abbrev eU8 : Nat := 0x10
abbrev eU64 : Nat := 0x13
abbrev eS64 : Nat := 0x17
abbrev eSET64 : Nat := 0x18
abbrev eSET128 : Nat := 0x19
/-- The type of an input that K may not be: an ETYPE that R423 reserves, which no row lists. -/
abbrev eNone : Nat := 0xFF

/-- A lane type. -/
def isLane (t : Nat) : Bool := 0x10 ≤ t && t ≤ 0x17
/-- A lane type or BIN. -/
def isInt (t : Nat) : Bool := isLane t || t == eBIN
/-- A bitset type. -/
def isSet (t : Nat) : Bool := t == eSET64 || t == eSET128
/-- A tagged type. -/
def isTagged (t : Nat) : Bool := t == eBIN || t == eDEC || t == eDFF || t == eB64 || t == eDW
/-- A float type. -/
def isFloat (t : Nat) : Bool := t == eDFF || t == eB64

/-- The size of an element in octets; 0 for a reserved ETYPE. -/
def esize (t : Nat) : Nat :=
  if isLane t then 2 ^ (t % 4) else if t = eSET64 then 8 else if t = eSET128 then 16
  else if t = eDW then 32 else if isTagged t then 16 else 0

/-- Whether an integer type is signed. -/
def isSigned (t : Nat) : Bool := t == eBIN || (0x14 ≤ t && t ≤ 0x17)

/-- The width of an integer or bitset type in bits. -/
def ewidth (t : Nat) : Nat := 8 * esize t

/-- The value of an integer element's bits. -/
def intVal (t n : Nat) : Int :=
  let w := ewidth t
  let m := n % 2 ^ w
  if isSigned t && 2 ^ (w - 1) ≤ m then (m : Int) - 2 ^ w else m

/-- Whether an exact value fits an integer type. -/
def fitsInt (t : Nat) (v : Int) : Bool :=
  let w := ewidth t
  if isSigned t then -(2 ^ (w - 1) : Int) ≤ v && v < 2 ^ (w - 1) else 0 ≤ v && v < 2 ^ w

/-- The bits of a value modulo 2^w. -/
def wrapInt (t : Nat) (v : Int) : Nat := (v % (2 ^ ewidth t : Int)).toNat

/-- The number of 1 bits among the low `n` bits. -/
def popBits : Nat → Nat → Nat
  | 0, _ => 0
  | n + 1, v => v % 2 + popBits n (v / 2)

/-- The type constant K serves as, beside another input's type; 0 for none (11 R451). -/
def kServe (ktag other : Nat) : Nat :=
  if ktag = 0 then (if isLane other || isSet other then other else 0)
  else if ktag = 1 then (if isLane other then other else eBIN)
  else if ktag = 2 then eDEC
  else if 3 ≤ ktag ∧ ktag ≤ 6 then eDFF
  else if ktag = 7 then eB64
  else 0

/-- K as an element of a type. -/
def kEl (t ktag : Nat) (k : Payload) : El :=
  if isInt t || isSet t then .int (k.toNat % 2 ^ ewidth t) else .val ⟨BitVec.ofNat 4 ktag, k⟩

/-! ### Stage typing and rates (11 R451 to R454, R462 to R471) -/

/-- The result type of a stage whose inputs have types a and b (0 none), K's tag and OPT; none where its table row does
not list them. -/
def stageType (op a b opt ktag : Nat) : Option Nat :=
  let one := b == 0
  let two := a == b
  let chk := opt % 128 == 0
  let none_ := opt == 0
  let give := fun (p : Bool) (t : Nat) => if p then some t else none
  match op with
  | 0x10 | 0x11 | 0x12 => give (two && isInt a && chk) a
  | 0x13 => give (two && isLane a && none_) (if esize a = 8 then eBIN else a + 1)
  | 0x14 | 0x15 => give (two && isInt a && none_) a
  | 0x18 | 0x19 | 0x1A | 0x1B => give (two && (isInt a || isSet a) && none_) a
  | 0x1C | 0x1D => give (one && isInt a && opt < ewidth a) a
  | 0x1E => give (one && (isInt a || isSet a) && none_) eU8
  | 0x20 => give (two && isSet a && none_) eU8
  | 0x40 | 0x41 | 0x42 => give (two && a == eDEC && none_) eDEC
  | 0x43 => give (two && a == eDEC && none_) eDW
  | 0x44 | 0x45 => give (one && a == eDEC && opt ≤ 32) eDEC
  | 0x46 | 0x47 => give (one && a == eDEC && none_) eDEC
  | 0x48 => give (two && a == eDEC && opt < 4 && ktag == 2) eDEC
  | 0x50 | 0x51 => give (two && a == eDW && none_) eDW
  | 0x52 => give (one && a == eDW && none_) eDEC
  | 0x60 | 0x61 | 0x62 | 0x63 | 0x65 => give (two && a == eDFF && chk) eDFF
  | 0x64 => give (one && a == eDFF && chk) eDFF
  | 0x66 => give (a == eDFF && b == eBIN && chk) eDFF
  | 0x67 | 0x68 => give (one && a == eDFF && none_) eDFF
  | 0x70 | 0x71 | 0x72 | 0x73 => give (two && a == eB64 && chk) eB64
  | 0x74 | 0x75 => give (one && a == eB64 && chk) eB64
  | 0x76 | 0x77 => give (one && a == eB64 && none_) eB64
  | 0x80 => give (one && isInt a && none_) eDEC
  | 0x81 => give (one && a == eDEC && none_) eS64
  | 0x82 => give (one && a == eDEC && none_) eDFF
  | 0x83 => give (one && a == eDFF && opt ≤ 32) eDEC
  | 0x84 => give (one && a == eDFF && chk) eB64
  | 0x85 => give (one && a == eB64 && chk) eDFF
  | 0x86 => give (one && isInt a && none_) eB64
  | 0x90 => give (two && (isInt a || a == eDEC || isFloat a) && (opt < 6 || (opt < 8 && isFloat a))) eU8
  | 0x91 => give (two && (isInt a || a == eDEC || isFloat a) && (opt < 6 || (opt < 8 && isFloat a)) && kServe ktag a == a) a
  | 0xA0 => give (one && (isInt a || a == eDEC) && opt % 128 < 2 && kServe ktag a == a) a
  | _ => none

/-- Whether a stage uses K besides its inputs (11 R464, R469). -/
def usesK (op : Nat) : Bool := op == 0x48 || op == 0x91 || op == 0xA0

/-- The rate of an arithmetic stage, by its first input's type (11 R462, R463, R467, R469). -/
def stageRate (op a : Nat) : Nat :=
  let base := 256 / esize a
  match op with
  | 0x12 => if a = eBIN then 4 else 128 / esize a
  | 0x13 => 128 / esize a
  | 0x40 | 0x41 | 0x44 | 0x45 | 0x46 | 0x47 => 16
  | 0x42 | 0x43 => 4
  | 0x48 => 1
  | 0x50 | 0x51 | 0x52 => 8
  | 0x60 | 0x61 | 0x65 | 0x66 | 0x67 | 0x68 => 8
  | 0x62 => 4
  | 0x63 | 0x64 => 1
  | 0x70 | 0x71 | 0x72 | 0x75 | 0x76 | 0x77 => 32
  | 0x73 | 0x74 => 4
  | 0x80 | 0x81 | 0x82 | 0x83 => 16
  | 0x84 | 0x85 => 8
  | 0x86 => 32
  | 0x90 | 0x91 | 0xA0 => if a = eDEC then 16 else if a = eDFF then 8 else if a = eB64 then 32 else base
  | _ => base

/-! ### Element computation (11 R455 to R471) -/

/-- A decimal error's FDETAIL (11 R461). -/
def dDetail : DErr → Nat
  | .ovf cause => cause
  | .zero => 4

/-- A DEC result as an element. -/
def decEl (r : Except DErr Dec) : Except Nat El :=
  match r with
  | .ok x => .ok (.val (decVal x))
  | .error e => .error (dDetail e)

/-- A DW result as an element. -/
def dwEl (r : Except DErr Dec) : Except Nat El :=
  match r with
  | .ok x => .ok (.dw (dwPay x).1 (dwPay x).2)
  | .error e => .error (dDetail e)

/-- An element as a DEC or DW number. -/
def El.dec : El → Dec
  | .val v => decOf v.val
  | .dw h l => dwOf h l
  | _ => ⟨0, 0⟩

/-- An element's bits as an integer of a type. -/
def El.int' (t : Nat) : El → Int
  | .int n => intVal t n
  | _ => 0

/-- An element's bits. -/
def El.raw : El → Nat
  | .int n => n
  | _ => 0

/-- An element as a float of a type. -/
def El.fl (t : Nat) : El → Fl
  | .val v => if t = eB64 then b64Of v.val else dffOf v
  | _ => .fin false 0 0

/-- A result that is an operand passed on, as the device writes a result: canonical declets (04 R129), a decimal zero with sign
0 (R139), a signalling NaN made quiet with its payload and sign kept (R144, R145). -/
def El.canon (t : Nat) : El → El
  | .val v =>
    if t = eDEC then .val (decVal (decOf v.val))
    else if t = eDFF then
      match dffOf v with
      | .snan s p => .val (dffVal (.qnan s p))
      | x => .val (dffVal x)
    else .val v
  | .dw h l => .dw (dwPay (dwOf h l)).1 (dwPay (dwOf h l)).2
  | e => e

/-- A float result of a type, trapped under FTRAP (11 R459, R461). -/
def flEl (t opt : Nat) (r : FlRes) : Except Nat (El × BitVec 5) :=
  if opt ≥ 128 ∧ trapping r.2 ≠ 0 then .error (0x80 + (trapping r.2).toNat)
  else .ok (.val (if t = eB64 then b64Val r.1 else dffVal r.1), r.2)

/-- An integer result: wrapped, or a fault under CHK (11 R458). -/
def intEl (t opt : Nat) (v : Int) : Except Nat El :=
  if opt ≥ 128 ∧ !fitsInt t v then .error 6 else .ok (.int (wrapInt t v))

/-- A relation of R470 between two elements of a type, and its flags. -/
def relation (t cond : Nat) (a b : El) : Bool × BitVec 5 :=
  if isFloat t then fcond cond (if t = eDFF then 10 else 2) (a.fl t) (b.fl t)
  else
    let o := if t = eDEC then dcmp a.dec b.dec else compare (a.int' t) (b.int' t)
    (match cond with
      | 0 => o == .eq
      | 1 => o != .eq
      | 2 => o == .lt
      | 3 => o != .lt
      | 4 => o == .gt
      | _ => o != .gt, 0)

/-- Breakage division in a chain (11 R464). -/
def vddivb (opt : Nat) (p v u : Dec) : Except Nat El :=
  if v.v = 0 then
    if opt / 2 % 2 = 0 then .error 4
    else if opt % 2 = 1 then .ok (.val (decVal p)) else .ok (.val (decVal ⟨0, u.scale⟩))
  else
    match ddivb p v u with
    | .ok (q, r) => .ok (.val (decVal (if opt % 2 = 1 then r else q)))
    | .error e => .error (dDetail e)

/-- A stage's result for one element, with its flags; `k` is K, `ta` and `tb` the inputs' types, `rt` the result's. -/
def stageApply (op opt ta rt drm brm : Nat) (a b : El) (ktag : Nat) (k : Payload) : Except Nat (El × BitVec 5) :=
  let x := a.int' ta
  let y := b.int' ta
  let m := 2 ^ ewidth ta
  let int1 := fun (r : Except Nat El) => r.map (fun e => (e, (0 : BitVec 5)))
  let kd := decOf k
  match op with
  | 0x10 => int1 (intEl ta opt (x + y))
  | 0x11 => int1 (intEl ta opt (x - y))
  | 0x12 => int1 (intEl ta opt (x * y))
  | 0x13 => if fitsInt rt (x * y) then .ok (.int (wrapInt rt (x * y)), 0) else .error 1
  | 0x14 => .ok (.int (wrapInt ta (min x y)), 0)
  | 0x15 => .ok (.int (wrapInt ta (max x y)), 0)
  | 0x18 => .ok (.int (a.raw &&& b.raw), 0)
  | 0x19 => .ok (.int (a.raw ||| b.raw), 0)
  | 0x1A => .ok (.int (a.raw ^^^ b.raw), 0)
  | 0x1B => .ok (.int (a.raw &&& (m - 1 - b.raw)), 0)
  | 0x1C => .ok (.int (a.raw * 2 ^ opt % m), 0)
  | 0x1D => .ok (.int (wrapInt ta (x / 2 ^ opt)), 0)
  | 0x1E => .ok (.int (popBits (ewidth ta) a.raw), 0)
  | 0x20 => .ok (.int (popBits (ewidth ta) (a.raw &&& b.raw)), 0)
  | 0x40 => int1 (decEl (dadd a.dec b.dec))
  | 0x41 => int1 (decEl (dsub a.dec b.dec))
  | 0x42 => int1 (decEl (dmul a.dec b.dec))
  | 0x43 => int1 (dwEl (dmulw a.dec b.dec))
  | 0x44 => int1 (decEl (dresc a.dec opt))
  | 0x45 => int1 (decEl (drnd drm a.dec opt))
  | 0x46 => .ok (.val (decVal ⟨-a.dec.v, a.dec.scale⟩), 0)
  | 0x47 => .ok (.val (decVal ⟨a.dec.v.natAbs, a.dec.scale⟩), 0)
  | 0x48 => int1 (vddivb opt a.dec b.dec kd)
  | 0x50 => int1 (dwEl (daddw a.dec b.dec))
  | 0x51 => int1 (dwEl (dsubw a.dec b.dec))
  | 0x52 => int1 (decEl (fitDec a.dec))
  | 0x60 => flEl rt opt (dfadd drm (a.fl ta) (b.fl ta))
  | 0x61 => flEl rt opt (dfsub drm (a.fl ta) (b.fl ta))
  | 0x62 => flEl rt opt (dfmul drm (a.fl ta) (b.fl ta))
  | 0x63 => flEl rt opt (dfdiv drm (a.fl ta) (b.fl ta))
  | 0x64 => flEl rt opt (dfsqrt drm (a.fl ta))
  | 0x65 => flEl rt opt (dfqua drm (a.fl ta) (b.fl ta))
  | 0x66 =>
    let n := b.int' eBIN
    flEl rt opt (if -8192 ≤ n ∧ n ≤ 8191 then dfscb drm (a.fl ta) n else invalidRes)
  | 0x67 => .ok (.val (dffVal (a.fl ta).negate), 0)
  | 0x68 => .ok (.val (dffVal (a.fl ta).abs), 0)
  | 0x70 => flEl rt opt (bfadd brm (a.fl ta) (b.fl ta))
  | 0x71 => flEl rt opt (bfsub brm (a.fl ta) (b.fl ta))
  | 0x72 => flEl rt opt (bfmul brm (a.fl ta) (b.fl ta))
  | 0x73 => flEl rt opt (bfdiv brm (a.fl ta) (b.fl ta))
  | 0x74 => flEl rt opt (bfsqrt brm (a.fl ta))
  | 0x75 => flEl rt opt (bfrint brm (a.fl ta))
  | 0x76 => .ok (match a with | .val v => .val ⟨tB64, v.val ^^^ 0x8000000000000000⟩ | e => e, 0)
  | 0x77 => .ok (match a with | .val v => .val ⟨tB64, v.val &&& 0x7FFFFFFFFFFFFFFF⟩ | e => e, 0)
  | 0x80 => int1 (decEl (btd x))
  | 0x81 =>
    let d := a.dec
    if -(2 ^ 63 : Int) * 10 ^ d.scale ≤ d.v ∧ d.v ≤ (2 ^ 63 - 1) * 10 ^ d.scale then
      match dtb d with
      | .ok v => .ok (.int (wrapInt eS64 v), 0)
      | .error e => .error (dDetail e)
    else .error 1
  | 0x82 => .ok (match a with | .val v => .val (dffVal (dtf v.val)) | e => e, 0)
  | 0x83 => int1 (decEl (dftd (a.fl ta) opt))
  | 0x84 => flEl rt opt (dftb brm (a.fl ta))
  | 0x85 => flEl rt opt (btdf drm (a.fl ta))
  | 0x86 => flEl rt 0 (intToB64 brm x)
  | 0x90 => let r := relation ta opt a b; .ok (.int (if r.1 then 1 else 0), r.2)
  | 0x91 => let r := relation ta opt a b; .ok ((if r.1 then a else kEl ta ktag k).canon ta, r.2)
  | _ => .ok (a, 0)

/-- VPFX of one element: the result and the running value after it (11 R471). A running value that cannot be held is kept
as `bad` and faults the element that would receive it. -/
def pfxApply (opt t : Nat) (run a : El) : Except Nat (El × El) :=
  let next : Except Nat El :=
    if t = eDEC then decEl (dadd run.dec a.dec) else intEl t opt (run.int' t + a.int' t)
  match run with
  | .bad d => .error d
  | _ =>
    if opt % 2 = 0 then next.map (fun e => (e, e))
    else .ok (run.canon t, match next with | .ok e => e | .error d => .bad d)

/-! ### The final stage (11 R472 to R477) -/

/-- The rate of a REDUCE over a value input of type v into SZ's type z; none where ZOP does not accept them. -/
def reduceRate (zop v z : Nat) : Option Nat :=
  let r := if isLane v || v == eSET64 || v == eB64 then 32 else if v == eDW || v == eDFF then 8 else 16
  let give := fun (p : Bool) => if p then some r else none
  match zop % 128 with
  | 1 => give ((isInt v || v == eDEC || v == eDW || isFloat v)
      && (z == v || (isLane v && (z == eBIN || (isLane z && isSigned z == isSigned v && esize z > esize v)))))
  | 2 | 3 => give ((isInt v || v == eDEC || isFloat v) && z == v)
  | 4 | 5 | 6 => give ((isInt v || isSet v) && z == v)
  | 7 => if esize v ≠ 0 ∧ z = eU64 then some 32 else none
  | _ => none

/-- The rate of a TALLY of values of type v (0 none) into bins of type z. -/
def tallyRate (zop v z : Nat) : Option Nat :=
  let r := if isLane z then 32 else if z == eDW then 8 else 16
  let bins := isInt z || z == eDEC || z == eDW
  let give := fun (p : Bool) => if bins && p then some r else none
  match zop with
  | 1 => give (v == z || (isLane v && (z == eBIN || (isLane z && isSigned z == isSigned v && esize z > esize v))))
  | 2 | 3 => give (v == z)
  | 7 => if bins ∧ v = 0 then some 32 else none
  | _ => none

/-- +0 of a float type; which +0 a DFF reduction starts from is not stated: log entry 33. -/
def floatZero (t : Nat) : El :=
  if t = eB64 then .val (b64Val (.fin false 0 0))
  else .val (dffVal (.fin false 0 ((Config.freeValue 91 0 % 4096 : Nat) - 2079)))

/-- The start value of a REDUCE without ACC (11 R473). -/
def reduceStart (zop t : Nat) : El :=
  let z := zop % 128
  if isFloat t then
    let inf := fun s => if t = eB64 then El.val (b64Val (.inf s)) else El.val (dffVal (.inf s))
    if z = 2 then inf false else if z = 3 then inf true else floatZero t
  else if t = eDEC then
    .val (decVal (if z = 2 then ⟨(p33 - 1 : Nat), 0⟩ else if z = 3 then ⟨-((p33 - 1 : Nat) : Int), 0⟩ else ⟨0, 0⟩))
  else if t = eDW then .dw (dwPay ⟨0, 0⟩).1 (dwPay ⟨0, 0⟩).2
  else
    let w := ewidth t
    .int (if z = 2 then (if isSigned t then 2 ^ (w - 1) - 1 else 2 ^ w - 1)
      else if z = 3 then (if isSigned t then 2 ^ (w - 1) else 0)
      else if z = 4 then 2 ^ w - 1 else 0)

/-- Whether a value counts as nonzero (11 R473). -/
def El.nonzero (t : Nat) : El → Bool
  | .int n => n != 0
  | .bad _ => false
  | e =>
    if isFloat t then (match e.fl t with | .fin _ c _ => c != 0 | _ => true)
    else e.dec.v != 0

/-- MIN or MAX of two floats (11 R459): NaNs under R298, −0 below +0, and of equal members of a cohort one that the spec
does not name: log entry 33. -/
def floatExtreme (t : Nat) (least : Bool) (i : Nat) (x y : El) : El × BitVec 5 :=
  let a := x.fl t
  let b := y.fl t
  let back := fun (f : Fl) => El.val (if t = eB64 then b64Val f else dffVal f)
  match nanOf [a, b] with
  | some r => (back r.1, r.2)
  | none =>
    match cmpFl (if t = eDFF then 10 else 2) a b with
    | some .lt => (if least then x else y, 0)
    | some .gt => (if least then y else x, 0)
    | _ =>
      if a.neg? != b.neg? then (if a.neg? = least then x else y, 0)
      else (if Config.freeValue 90 i % 2 = 0 then x else y, 0)

/-- A value joined to an accumulator (11 R458, R473, R475 to R477): type of the accumulator, type of the value. -/
def joinEl (z t v drm brm i : Nat) (acc x : El) : Except Nat (El × BitVec 5) :=
  if isFloat t then
    if z = 1 then flEl t 0 (if t = eB64 then bfadd brm (acc.fl t) (x.fl t) else dfadd drm (acc.fl t) (x.fl t))
    else .ok (floatExtreme t (z == 2) i acc x)
  else if t = eDEC ∨ t = eDW then
    let one : Dec := ⟨1, 0⟩
    let b := if z = 7 then one else x.dec
    if z = 1 ∨ z = 7 then
      (if t = eDEC then decEl (dadd acc.dec b) else dwEl (daddw acc.dec b)).map (fun e => (e, 0))
    else
      let o := dcmp b acc.dec
      .ok (if (z = 2 ∧ o = .lt) ∨ (z = 3 ∧ o = .gt) then x else acc, 0)
  else
    let a := acc.int' t
    let b : Int := if z = 7 then 1 else x.int' v
    match z with
    | 1 | 7 => if fitsInt t (a + b) then .ok (.int (wrapInt t (a + b)), 0) else .error 1
    | 2 => .ok (.int (wrapInt t (min a b)), 0)
    | 3 => .ok (.int (wrapInt t (max a b)), 0)
    | 4 => .ok (.int (acc.raw &&& x.raw), 0)
    | 5 => .ok (.int (acc.raw ||| x.raw), 0)
    | _ => .ok (.int (acc.raw ^^^ x.raw), 0)

end Sys2Proof.Machine
end

