-- ==== Sys2Proof/Machine/LveRun.lean ====
section
/-! DEFINITION. A chain's descriptor, its checks, its cost and its run (10 R420 to R445; 11 R451 to R477). -/

namespace Sys2Proof.Machine

/-! ### The descriptor (10 R420, R421, R424) -/

/-- A stream spec. -/
structure Stream where
  off   : Nat
  form  : Nat
  hbm   : Bool
  etype : Nat
  ifmt  : Nat
  zin   : Nat
  base  : Nat
  aux   : Nat
  rsv   : Bool
  zero  : Bool

/-- The stream spec at an offset. -/
def streamAt (d : Octets) (o : Nat) : Stream where
  off := o
  form := fieldAt d o 1 % 8
  hbm := fieldAt d o 1 / 8 % 2 == 1
  etype := fieldAt d (o + 1) 1
  ifmt := fieldAt d (o + 2) 1
  zin := fieldAt d (o + 3) 1
  base := fieldAt d (o + 4) 6
  aux := fieldAt d (o + 10) 6
  rsv := fieldAt d o 1 ≥ 16
  zero := zeroAt d o 16

/-- AUX as a signed byte stride. -/
def Stream.stride (s : Stream) : Int := if s.aux < 2 ^ 47 then s.aux else (s.aux : Int) - 2 ^ 48

/-- Whether the index vector lies in HBM, and the octets of an index. -/
def Stream.ihbm (s : Stream) : Bool := s.ifmt % 2 == 1
def Stream.iwidth (s : Stream) : Nat := if s.ifmt / 2 % 2 = 1 then 8 else 4

/-- An arithmetic stage. -/
structure Stage where
  op  : Nat
  c1  : Nat
  c2  : Nat
  opt : Nat

/-- A descriptor's fields. -/
structure Prog where
  d      : Octets
  bEn    : Bool
  narith : Nat
  zkind  : Nat
  ktag   : Nat
  k      : Payload
  n      : Nat
  zop    : Nat
  sa     : Stream
  sb     : Stream
  sz     : Stream
  stages : List Stage

/-- The fields of a descriptor. -/
def progOf (d : Octets) : Prog where
  d := d
  bEn := fieldAt d 1 1 % 2 == 1
  narith := fieldAt d 1 1 / 2 % 4
  zkind := fieldAt d 2 1
  ktag := fieldAt d 3 1 % 16
  k := BitVec.ofNat 128 (fieldAt d 96 16)
  n := fieldAt d 4 3
  zop := fieldAt d 7 1
  sa := streamAt d 8
  sb := streamAt d 24
  sz := streamAt d 40
  stages := (List.range (fieldAt d 1 1 / 2 % 4)).map (fun j =>
    let o := 56 + 4 * j
    ⟨fieldAt d o 2, fieldAt d (o + 2) 1 % 16, fieldAt d (o + 2) 1 / 16, fieldAt d (o + 3) 1⟩)

/-- The value and bin inputs of ZIN. -/
def Prog.zv (p : Prog) : Nat := p.sz.zin % 16
def Prog.zb (p : Prog) : Nat := p.sz.zin / 16

/-- The type of an input code other than K, given the result types of the stages below; 0 for none. -/
def Prog.codeType (p : Prog) (tys : List Nat) (c : Nat) : Nat :=
  match c with
  | 1 => p.sa.etype
  | 2 => if p.bEn then p.sb.etype else 0
  | 7 => eBIN
  | _ => if 3 ≤ c ∧ c ≤ 5 then tys.getD (c - 3) 0 else 0

/-- The type of K beside another input: `eNone`, which no row lists, where it serves as nothing. -/
def kType (ktag other : Nat) : Nat := if kServe ktag other = 0 then eNone else kServe ktag other

/-- The types of a stage's two inputs, K taking its type from the other. -/
def Prog.inTypes (p : Prog) (tys : List Nat) (g : Stage) : Nat × Nat :=
  let a := if g.c1 = 6 then kType p.ktag (p.codeType tys g.c2) else p.codeType tys g.c1
  let b := if g.c2 = 6 then kType p.ktag a else p.codeType tys g.c2
  (a, b)

/-- Whether a stage may name an input (10 R425). -/
def Prog.mayName (p : Prog) (j c : Nat) : Bool :=
  c == 0 || c == 1 || (c == 2 && p.bEn) || (3 ≤ c && c < 3 + j) || c == 6 || c == 7

/-- A stage's result type, none where its inputs are refused (11 R451); its OPT has no part in it. -/
def Prog.stageResult (p : Prog) (tys : List Nat) (j : Nat) (g : Stage) : Option Nat :=
  let (a, b) := p.inTypes tys g
  if !p.mayName j g.c1 || !p.mayName j g.c2 || g.c1 == 0 || esize a == 0 || (g.c2 != 0 && esize b == 0) then none
  else stageType g.op a b 0 p.ktag

/-- The result types of the stages, 0 for one whose inputs are refused. -/
def Prog.stageTypes (p : Prog) : List Nat :=
  (p.stages.zipIdx).foldl (fun tys (g, j) => tys ++ [(p.stageResult tys j g).getD 0]) []

/-- The type of ZIN's value or bin input. -/
def Prog.zType (p : Prog) (c : Nat) : Nat := p.codeType p.stageTypes c

/-! ### Checks (10 R422, R426, R427; 11 R451 to R454, R465) -/

/-- Whether an address lies in the memory a stream names. -/
def inSpace (s : State) (hbm : Bool) (a : Nat) : Bool := if hbm then a < s.hbmBytes else isBay a

/-- The offsets of a stream spec's fields at fault; `which` 0 A, 1 B, 2 Z. -/
def streamErrors (s : State) (x : Stream) (which zkind : Nat) : List Nat :=
  let o := x.off
  let formOk := !x.rsv && (if which = 2 then (if zkind = 1 then 1 ≤ x.form && x.form ≤ 3 else x.form == 1)
    else 1 ≤ x.form && x.form ≤ 4) && !(x.hbm && (x.form == 2 || x.form == 3))
  if !formOk then [o]
  else
    let bad := fun (p : Bool) (k : Nat) => if p then [o + k] else []
    let tag := isTagged x.etype
    bad (esize x.etype == 0) 1 ++ bad (if x.form = 3 then x.ifmt ≥ 4 else x.ifmt != 0) 2
      ++ bad (which < 2 && x.zin != 0) 3
      ++ bad (!inSpace s x.hbm x.base || (tag && x.base % esize x.etype != 0)) 4
      ++ bad (if x.form = 3 then !inSpace s x.ihbm x.aux
          else if which = 2 ∧ zkind = 3 then x.aux == 0 || x.aux > 4096
          else if x.form = 2 then tag && x.stride % (esize x.etype : Int) != 0
          else x.aux != 0) 10

/-- Whether K fits the type it serves as: the bits above w are zero (11 R451). -/
def kTooWide (p : Prog) (t : Nat) : Bool := (isLane t || isSet t) && p.k.toNat ≥ 2 ^ ewidth t

/-- The types an input may have, 0 for none; `known` is the input's type where its code is a permitted one. -/
def typesFor (known : Option Nat) : List Nat :=
  match known with
  | some t => [t]
  | none => [0, eBIN, eDEC, eDFF, eB64, eDW, eS64, eSET64, eSET128] ++ (List.range 7).map (0x10 + ·)

/-- Whether a stage's table row lists input types, some of which may be unknown, whatever its OPT. -/
def rowAccepts (op ktag : Nat) (a b : Option Nat) : Bool :=
  (typesFor a).any (fun x => (typesFor b).any (fun y => (stageType op x y 0 ktag).isSome))

/-- The offsets of a stage's fields at fault: the spec itself for a reserved OP or a type the row does not list (11 R451), IN
for an input R425 forbids, OPT for a value out of the row's range (R454, R470). -/
def stageErrors (p : Prog) (tys : List Nat) (j : Nat) (g : Stage) : List Nat :=
  let (a, b) := p.inTypes tys g
  let ok1 := p.mayName j g.c1 && g.c1 != 0
  let ok2 := p.mayName j g.c2
  let known := fun (c t : Nat) =>
    if c = 6 then (if ok1 && ok2 || p.ktag ≥ 8 then some t else none) else if p.mayName j c then some t else none
  (if rowAccepts g.op p.ktag (if g.c1 = 0 then none else known g.c1 a) (known g.c2 b) then [] else [56 + 4 * j])
    ++ (if ok1 && ok2 then [] else [58 + 4 * j])
    ++ (if ok1 && ok2 && (stageType g.op a b 0 p.ktag).isSome && (stageType g.op a b g.opt p.ktag).isNone then [59 + 4 * j] else [])
    ++ (if (g.c1 = 6 ∧ kTooWide p a) ∨ (g.c2 = 6 ∧ kTooWide p b) ∨ (usesK g.op ∧ g.op ≠ 0x48 ∧ kTooWide p a)
        ∨ (g.op = 0x48 ∧ p.ktag = 2 ∧ (decOf p.k).v ≤ 0) then [96] else [])

/-- The offsets at fault in the final stage: ZOP where it is reserved or accepts no type the inputs may have, SZ's ETYPE where
a STORE's value has another, ZIN for an input that R425 forbids or a bin number of another type (10 R425, R426; 11 R452, R472,
R473, R476). Each is judged by itself, so that the first in the descriptor can be named. -/
def zErrors (p : Prog) : List Nat :=
  let ok := fun c => c == 1 || (c == 2 && p.bEn) || (3 ≤ c && c < 3 + p.narith)
  let known := fun c => if ok c && p.zType c != 0 then some (p.zType c) else none
  let v := known p.zv
  let t := p.sz.etype
  let bad := fun (c : Bool) (k : Nat) => if c then [k] else []
  match p.zkind with
  | 1 => bad (p.zb != 0 || !ok p.zv) 43 ++ bad (v.any (· != t)) 41
  | 2 => bad ((typesFor v).all (fun x => (reduceRate p.zop x t).isNone)) 7 ++ bad (p.zb != 0 || !ok p.zv) 43
  | 3 =>
    let count := p.zop == 7
    bad ((if count then [0] else typesFor v).all (fun x => (tallyRate p.zop x t).isNone)) 7
      ++ bad (!ok p.zb || (if count then p.zv != 0 else !ok p.zv)) 43
      ++ bad ((known p.zb).any (fun b => !((0x10 ≤ b && b ≤ 0x13) || b == eBIN))) 43
  | _ => []

/-- Whether a stage from number j on, or ZIN, names an input code. -/
def Prog.named (p : Prog) (j c : Nat) : Bool :=
  (p.stages.drop j).any (fun g => g.c1 == c || g.c2 == c) || p.zv == c || p.zb == c

/-- The stages whose results nothing names, the load streams among them (10 R425). -/
def unnamed (p : Prog) : List Nat :=
  (if p.named 0 1 then [] else [8]) ++ (if !p.bEn || p.named 0 2 then [] else [24])
    ++ ((List.range p.narith).filter (fun j => !p.named (j + 1) (3 + j))).map (fun j => 56 + 4 * j)

/-- The offsets of every field at fault in a descriptor (10 R426), leaving out the cost of R419. -/
def descErrors (s : State) (p : Prog) : List Nat :=
  let d := p.d
  let bad := fun (c : Bool) (k : Nat) => if c then [k] else []
  bad (fieldAt d 0 1 != 1) 0 ++ bad (fieldAt d 1 1 ≥ 8) 1 ++ bad (p.zkind == 0 || p.zkind > 3) 2
    ++ bad (fieldAt d 3 1 ≥ 16 || (0xB ≤ p.ktag && p.ktag ≤ 0xE)) 3 ++ bad (p.n == 0) 4 ++ bad (p.zkind == 1 && p.zop != 0) 7
    ++ streamErrors s p.sa 0 p.zkind ++ (if p.bEn then streamErrors s p.sb 1 p.zkind else bad (!p.sb.zero) 24)
    ++ streamErrors s p.sz 2 p.zkind
    ++ ((List.range 3).flatMap (fun j => bad (j ≥ p.narith && !zeroAt d (56 + 4 * j) 4) (56 + 4 * j)))
    ++ ((p.stages.zipIdx).flatMap (fun (g, j) => stageErrors p (p.stageTypes.take j) j g))
    ++ zErrors p ++ unnamed p ++ bad (fieldAt d 68 1 != 0) 68
    ++ bad (malformed ⟨BitVec.ofNat 4 p.ktag, p.k⟩) 96 ++ bad (!zeroAt d 120 8) 120

/-! ### Cost (10 R430, R439) -/

/-- A stream's rate; 0 for a broadcast stream, whose term is one cycle (10 R430). -/
def Stream.rate (x : Stream) : Nat :=
  match x.form with
  | 1 => 256 / esize x.etype
  | 4 => 0
  | 2 => if x.aux ≠ 0 ∧ x.stride % 16 = 0 ∧ x.stride % 4016 ≠ 0 ∧ x.base % 16 + esize x.etype ≤ 16 then 16 else 1
  | _ => 1

/-- The rate of Z (11 R472). -/
def Prog.zRate (p : Prog) : Nat :=
  match p.zkind with
  | 1 => p.sz.rate
  | 2 => (reduceRate p.zop (p.zType p.zv) p.sz.etype).getD 0
  | _ => (tallyRate p.zop (p.zType p.zv) p.sz.etype).getD 0

/-- The rates of the chain's stages in order. -/
def Prog.rates (p : Prog) : List Nat :=
  [p.sa.rate] ++ (if p.bEn then [p.sb.rate] else [])
    ++ (p.stages.zipIdx).map (fun (g, j) => stageRate g.op (p.inTypes (p.stageTypes.take j) g).1) ++ [p.zRate]

/-- Whether a stream or an index vector lies in HBM. -/
def Stream.usesHbm (x : Stream) : Bool := x.hbm || (x.form == 3 && x.ihbm)

/-- The extra cycles of TALLY's bins at the start-up and at the drain. -/
def Prog.binTerm (p : Prog) : Nat := if p.zkind = 3 then cdiv (p.sz.aux * esize p.sz.etype) 256 else 0

/-- S and D of R439. -/
def Prog.startup (p : Prog) : Nat :=
  (if p.sa.usesHbm || (p.bEn && p.sb.usesHbm) || p.sz.usesHbm then 384 else 64) + p.binTerm
def Prog.drain (p : Prog) : Nat := 48 + p.binTerm

/-- The engine's cycles over m elements; a broadcast stream's cycle falls in the first strip. -/
def Prog.term (p : Prog) (m : Nat) (first : Bool) : Nat :=
  p.rates.foldl (fun n r => n + (if r = 0 then (if first then 1 else 0) else cdiv m r)) 0

/-- The cost of a run from element `from_` (10 R439). -/
def Prog.cost (p : Prog) (from_ : Nat) : Nat := p.startup + p.term (p.n - from_) true + p.drain

/-- BAD_DESC's FDETAIL for a descriptor, the offset of the first field at fault, none where it is accepted (10 R419, R426). A
stage without a rate, its types being refused, adds one cycle to the cost that R419 bounds: log entry 37. -/
def badDesc (s : State) (d : Octets) (bank0 : Bool) : Option Nat :=
  let p := progOf d
  match (if bank0 ∧ p.cost 0 > s.t.k * 62500 then [4] else []) ++ descErrors s p with
  | e :: r => some (r.foldl min e)
  | [] => none

/-! ### Element access (10 R422, R423, R428, R429) -/

/-- A fault of an element: FCAUSE, FDETAIL and the address at fault, where there is one (10 R444). -/
structure EFault where
  cause  : Nat
  detail : Nat
  addr   : Option Nat

/-- The key and mode in force at VCHAIN (10 R414). -/
structure Ctx where
  key   : BitVec 4
  super : Bool
  drm   : Nat
  brm   : Nat

/-- Why an access to bay memory or HBM is refused (10 R428, R429, R444): a cause of R195, or 16 for a region. -/
def accessRefused (s : State) (x : Ctx) (hbm : Bool) (a : Int) (n : Nat) (acc : Acc) : Option Nat :=
  let last := a + n - 1
  if hbm then
    if a < 0 then some 1
    else [a.toNat, last.toNat].findSome? (fun o =>
      if o ≥ s.hbmBytes then some 1 else (frameCause (s.region o) true acc x.key x.super).map (fun _ => 16))
  else if a < 0 then some 1
  else [a.toNat, last.toNat].findSome? (fun o => if isBay o then s.accCause 0 o acc x.key x.super else some 1)

/-- Octets that must be lane data: the access checks, then each granule's tag. -/
def loadLane (s : State) (x : Ctx) (hbm : Bool) (a : Int) (n : Nat) : Except EFault Nat :=
  match accessRefused s x hbm a n .load with
  | some c => .error ⟨2, c, some (a % (2 ^ 48 : Int)).toNat⟩
  | none =>
    let addr := a.toNat
    let bad := (granAddrs addr n).findSome? (fun g =>
      let v := s.memGran hbm g
      if v.tag = tPOISON then some (4, bits v.val 0 8)
      else if reservedTag v.tag then some (3, 2)
      else if !octetTags'.contains v.tag then some (3, 1) else none)
    match bad with
    | some (c, d) => .error ⟨c, d, some addr⟩
    | none => .ok (s.memNat hbm addr n)
where
  octetTags' : List (BitVec 4) := [tRAW, tBIN, tB64]

/-- The address of element i (10 R428); an indexed form reads the index first (10 R443), and any tag but RAW, BIN or B64 there
has FDETAIL 1 (10 R422). -/
def elemAddr (s : State) (x : Ctx) (t : Stream) (i : Nat) : Except EFault Int :=
  match t.form with
  | 1 => .ok (t.base + i * esize t.etype : Nat)
  | 2 => .ok (t.base + i * t.stride)
  | 3 =>
    match loadLane s x t.ihbm (t.aux + i * t.iwidth : Nat) t.iwidth with
    | .ok v => .ok (t.base + v * esize t.etype : Nat)
    | .error f => .error (if f.cause = 3 then { f with detail := 1 } else f)
  | _ => .ok t.base

/-- The tags of a tagged type's granule (10 R423). -/
def eTags (t : Nat) : List (BitVec 4) :=
  if t = eBIN then [tBIN] else if t = eDEC then [tDEC] else if t = eB64 then [tB64] else [tDFF, tDFI, tDFQ, tDFS]

/-- An element at an address already checked: POISON, reserved tags, the tag, the payload (04 R157; 10 R423, R429). -/
def loadTagged (s : State) (hbm : Bool) (addr t : Nat) : Except EFault El :=
  let g := s.memGran hbm addr
  let f := fun (c d : Nat) => Except.error (⟨c, d, some addr⟩ : EFault)
  if t = eDW then
    let h := s.memGran hbm (addr + 16)
    if g.tag = tPOISON then f 4 (bits g.val 0 8)
    else if h.tag = tPOISON then f 4 (bits h.val 0 8)
    else if reservedTag g.tag ∨ reservedTag h.tag then f 3 2
    else if (g.tag = tDWL ∧ malformed g) ∨ (h.tag = tDWH ∧ malformed h) then f 3 3
    else if g.tag ≠ tDWL ∨ h.tag ≠ tDWH then f 3 7
    else .ok (.dw h.val g.val)
  else if g.tag = tPOISON then f 4 (bits g.val 0 8)
  else if reservedTag g.tag then f 3 2
  else if !(eTags t).contains g.tag then f 3 1
  else if malformed g then f 3 3
  else .ok (if t = eBIN then .int g.val.toNat else .val g)

/-- An element of a type read at an address. -/
def loadAt (s : State) (x : Ctx) (hbm : Bool) (a : Int) (t : Nat) : Except EFault El :=
  if isTagged t then
    match accessRefused s x hbm a (esize t) .load with
    | some c => .error ⟨2, c, some (a % (2 ^ 48 : Int)).toNat⟩
    | none => loadTagged s hbm a.toNat t
  else (loadLane s x hbm a (esize t)).map El.int

/-- Element i of a stream; `s0` is memory as a broadcast stream finds it, at the run's start (10 R422). -/
def loadElem (s s0 : State) (x : Ctx) (t : Stream) (i : Nat) : Except EFault El := do
  let m := if t.form = 4 then s0 else s
  let a ← elemAddr m x t i
  loadAt m x t.hbm a t.etype

/-- The checks of a store at an address: protection, and POISON in a granule written in part (04 R161; 10 R423). -/
def storeOk (s : State) (x : Ctx) (hbm : Bool) (a : Int) (t : Nat) : Except EFault Nat :=
  match accessRefused s x hbm a (esize t) .store with
  | some c => .error ⟨2, c, some (a % (2 ^ 48 : Int)).toNat⟩
  | none =>
    let addr := a.toNat
    let part := (granAddrs addr (esize t)).filter (fun g =>
      let b := g / 16 * 16
      b < addr || b + 16 > addr + esize t)
    match part.find? (fun g => (s.memGran hbm g).tag == tPOISON) with
    | some g => .error ⟨4, bits (s.memGran hbm g).val 0 8, some addr⟩
    | none => .ok addr

/-- An element stored (10 R423): a signalling NaN is stored tagged DFQ, its payload and sign kept (04 R144, R145). A STORE that
names a stream itself is otherwise a copy of the element as it was read, the model's choice: log entry 37. -/
def putElem (s : State) (hbm : Bool) (t addr : Nat) (e : El) : State :=
  match e with
  | .int n =>
    if t = eBIN then s.setMemGran hbm addr ⟨tBIN, BitVec.ofNat 128 n⟩
    else s.setMem hbm addr (leBytes (esize t) n)
  | .val v => s.setMemGran hbm addr (if v.tag = tDFS then { v with tag := tDFQ } else v)
  | .dw h l => (s.setMemGran hbm addr ⟨tDWL, l⟩).setMemGran hbm (addr + 16) ⟨tDWH, h⟩
  | .bad _ => s

/-! ### A run (10 R434 to R443) -/

/-- What the engine keeps through a run: REDUCE partials or TALLY bins, VPFX running values, the flags of committed
elements. -/
structure Kept where
  z     : List El
  pfx   : List El
  flags : BitVec 5

/-- A fault with its stage (10 R443). -/
abbrev SFault := Nat × EFault

/-- A computation's fault given its stage. -/
def inStage {α : Type} (g : Nat) (r : Except EFault α) : Except SFault α :=
  match r with
  | .ok v => .ok v
  | .error e => .error (g, e)

/-- An arithmetic fault of a stage (11 R461). -/
def arith {α : Type} (g : Nat) (r : Except Nat α) : Except SFault α :=
  match r with
  | .ok v => .ok v
  | .error d => .error (g, ⟨5, d, none⟩)

/-- An input of a stage as an element. -/
def Prog.input (p : Prog) (a b : El) (xs : List El) (i t c : Nat) : El :=
  match c with
  | 1 => a
  | 2 => b
  | 6 => kEl t p.ktag p.k
  | 7 => .int i
  | _ => if 3 ≤ c ∧ c ≤ 5 then xs.getD (c - 3) (.int 0) else .int 0

/-- The arithmetic stages over one element: their results, the VPFX running values and the flags. -/
def runStages (p : Prog) (x : Ctx) (a b : El) (i : Nat) (pfx : List El) :
    List (Stage × Nat) → List El → List El → BitVec 5 → Except SFault (List El × List El × BitVec 5)
  | [], xs, ps, fl => .ok (xs, ps, fl)
  | (g, j) :: r, xs, ps, fl => do
    let tys := p.stageTypes
    let (ta, tb) := p.inTypes (tys.take j) g
    let u := p.input a b xs i ta g.c1
    let v := p.input a b xs i tb g.c2
    if g.op = 0xA0 then
      let (e, run) ← arith (3 + j) (pfxApply g.opt ta (pfx.getD j (.int 0)) u)
      runStages p x a b i pfx r (xs ++ [e]) (ps ++ [run]) fl
    else
      let (e, f) ← arith (3 + j) (stageApply g.op g.opt ta (tys.getD j 0) x.drm x.brm u v p.ktag p.k)
      runStages p x a b i pfx r (xs ++ [e]) (ps ++ [.int 0]) (fl ||| f)

/-- One element through every stage: what Z stores, and what is kept. -/
def runElem (s s0 : State) (p : Prog) (x : Ctx) (i : Nat) (k : Kept) : Except SFault (Option (Nat × El) × Kept) := do
  let a ← inStage 1 (loadElem s s0 x p.sa i)
  let b ← if p.bEn then inStage 2 (loadElem s s0 x p.sb i) else .ok (.int 0)
  let (xs, pfx, fl) ← runStages p x a b i k.pfx p.stages.zipIdx [] [] 0
  let zin := fun c => p.input a b xs i 0 c
  let t := p.sz.etype
  match p.zkind with
  | 1 =>
    let ad ← inStage 6 (elemAddr s x p.sz i)
    let ok ← inStage 6 (storeOk s x p.sz.hbm ad t)
    return (some (ok, zin p.zv), ⟨k.z, pfx, k.flags ||| fl⟩)
  | 2 =>
    let vt := p.zType p.zv
    let v := zin p.zv
    let z := p.zop % 128
    if z = 7 then
      if v.nonzero vt then
        let (e, _) ← arith 6 (joinEl 7 eU64 eU64 x.drm x.brm i (k.z.headD (.int 0)) v)
        return (none, ⟨[e], pfx, k.flags ||| fl⟩)
      else return (none, ⟨k.z, pfx, k.flags ||| fl⟩)
    else
      let j := if isFloat t then i % 32 else 0
      let (e, f) ← arith 6 (joinEl z t vt x.drm x.brm i (k.z.getD j (.int 0)) v)
      return (none, ⟨k.z.set j e, pfx, k.flags ||| fl ||| f⟩)
  | _ =>
    let n := (zin p.zb).int' (p.zType p.zb)
    if n < 0 ∨ n ≥ p.sz.aux then .error (6, ⟨6, 0, none⟩)
    else
      let (e, f) ← arith 6 (joinEl p.zop t (p.zType p.zv) x.drm x.brm i (k.z.getD n.toNat (.int 0)) (zin p.zv))
      return (none, ⟨k.z.set n.toNat e, pfx, k.flags ||| fl ||| f⟩)

/-- The elements of a strip from i on: the stores in element order, what is kept, and the first fault with its element. -/
def runStrip (s s0 : State) (p : Prog) (x : Ctx) (buf : Option Nat) (stage : Nat) :
    Nat → Nat → List (Nat × El) → Kept → List (Nat × El) × Kept × Option (Nat × SFault)
  | 0, _, st, k => (st, k, none)
  | n + 1, i, st, k =>
    if buf = some i then (st, k, some (i, stage, ⟨4, 5, none⟩))
    else
      match runElem s s0 p x i k with
      | .error f => (st, k, some (i, f))
      | .ok (w, k') => runStrip s s0 p x buf stage n (i + 1) (match w with | some y => st ++ [y] | none => st) k'

/-- Where a run stands: memory, the elements committed, what is kept, its fault, and whether its strips are over. -/
structure Run where
  s     : State
  pos   : Nat
  kept  : Kept
  fault : Option (Nat × SFault)
  atEnd : Bool

/-- The strips of a run that end within `limit` cycles of its start (10 R434, R441). -/
def runStrips (s0 : State) (p : Prog) (x : Ctx) (buf : Option Nat) (stage : Nat) (limit : Option Nat) :
    Nat → Nat → Bool → Run → Run
  | 0, _, _, r => r
  | fuel + 1, used, first, r =>
    if r.pos ≥ p.n then { r with atEnd := true }
    else
      let m := min 4096 (p.n - r.pos)
      let endAt := used + p.term m first
      if (match limit with | some l => decide (endAt > l) | none => false) then r
      else
        let (st, k, f) := runStrip r.s s0 p x buf stage m r.pos [] r.kept
        let s1 := st.foldl (fun t (a, e) => putElem t p.sz.hbm p.sz.etype a e) r.s
        match f with
        | some (i, g) => ⟨s1, i, k, some (i, g), true⟩
        | none => runStrips s0 p x buf stage limit fuel endAt false ⟨s1, r.pos + m, k, none, r.pos + m ≥ p.n⟩

/-- The addresses Z writes in the drain of a REDUCE or TALLY. -/
def Prog.zAddrs (p : Prog) : List Nat :=
  if p.zkind = 1 then []
  else (List.range (if p.zkind = 3 then p.sz.aux else 1)).map (fun j => p.sz.base + j * esize p.sz.etype)

/-- The first error of a list of checks. -/
def firstError {α : Type} (f : Nat → Except EFault α) : List Nat → Option EFault
  | [] => none
  | a :: r => match f a with | .error e => some e | .ok _ => firstError f r

/-- What a run starts from: the held results of a resumed chain, the start values, ACC's element or the bins read in the
start-up; the destination is checked as a store (10 R438, R448; 11 R473 to R475). Log entry 34. -/
def zStart (s : State) (p : Prog) (x : Ctx) (held : List El) : Except EFault (List El) := do
  match firstError (fun a => storeOk s x p.sz.hbm a p.sz.etype) p.zAddrs with
  | some e => .error e
  | none =>
    if held ≠ [] ∨ p.zkind = 1 then return held
    else if p.zkind = 3 then p.zAddrs.mapM (fun (a : Nat) => loadAt s x p.sz.hbm a p.sz.etype)
    else
      let t := p.sz.etype
      let start := reduceStart p.zop t
      let first ← if p.zop ≥ 128 then loadAt s x p.sz.hbm p.sz.base t else .ok start
      return (if isFloat t ∧ p.zop % 128 ≠ 7 then first :: List.replicate 31 start else [first])

/-- The running values a chain's VPFX stages start from (11 R471). -/
def pfxStart (p : Prog) : List El :=
  (p.stages.zipIdx).map (fun (g, j) =>
    if g.op = 0xA0 then kEl (p.inTypes (p.stageTypes.take j) g).1 p.ktag p.k else .int 0)

/-- The results the drain writes, with the flags of the combination (11 R475). -/
def zResults (p : Prog) (x : Ctx) (z : List El) : List El × BitVec 5 :=
  if p.zkind = 2 ∧ isFloat p.sz.etype ∧ p.zop % 128 ≠ 7 then
    match z with
    | [] => ([], 0)
    | e :: r =>
      let (v, f, _) := r.foldl (fun (acc, fl, i) y =>
        match joinEl (p.zop % 128) p.sz.etype p.sz.etype x.drm x.brm (p.n + i) acc y with
        | .ok (w, g) => (w, fl ||| g, i + 1)
        | .error _ => (acc, fl, i + 1)) (e, 0, 0)
      ([v], f)
  else (z, 0)

/-- The drain of a run that ends DONE or FAULTED (10 R438); every result is canonical (04 R129, R139). -/
def drainRun (s : State) (p : Prog) (x : Ctx) (z : List El) : State × BitVec 5 :=
  let (l, f) := zResults p x z
  ((p.zAddrs.zip l).foldl (fun t (a, e) => putElem t p.sz.hbm p.sz.etype a (e.canon p.sz.etype)) s, f)

/-- The context of a chain (10 R414, 11 R456). -/
def ChainEnt.ctx (x : ChainEnt) : Ctx := ⟨tswKey x.tsw, tswMode x.tsw, tswDrm x.tsw, tswBrm x.tsw⟩

/-- A run of a chain from memory as it stands: all of it, or, where it is ended after `stop` cycles, its strips that end
within them. `buf` is an element that an uncorrectable error in the engine's buffers has turned into POISON. -/
def runChain (s : State) (c : ChainEnt) (buf stop : Option Nat) : Run :=
  let p := progOf c.desc
  let x := c.ctx
  let limit := stop
  match zStart s p x c.acc with
  | .error e => ⟨s, c.pos, ⟨c.acc, c.pfx, 0⟩, some (c.pos, 6, e), true⟩
  | .ok z =>
    let k : Kept := ⟨z, if c.pfx = [] then pfxStart p else c.pfx, 0⟩
    let stage := 1 + Config.freeValue 93 s.freeCtr % 6
    let r := runStrips s p x buf stage limit ((p.n - c.pos) / 4096 + 2) p.startup true ⟨s, c.pos, k, none, false⟩
    if stop.isNone then
      let (s1, f) := drainRun r.s p x r.kept.z
      { r with s := s1, kept := { r.kept with flags := r.kept.flags ||| f } }
    else r

end Sys2Proof.Machine
end

