-- ==== Sys2Proof/Machine/Jobs.lean ====
section
/-! DEFINITION. Jobs: their dispatch and end, frozen banks, stopped cores, and what ending does to a job's chains and
mover commands (09 R394, R408 to R410; 10 R442, R450; 12 R515). -/

namespace Sys2Proof.Machine

/-! ### Chains (10) -/

/-- A chain entry's contents. -/
def State.chainEnt (s : State) (e : Nat) : Option ChainEnt := s.lve.chains.get none e

/-- A chain entry replaced or freed. -/
def State.setChainEnt (s : State) (e : Nat) (v : Option ChainEnt) : State :=
  { s with lve := { s.lve with chains := s.lve.chains.set none e v } }

/-- The chains held, by entry. -/
def State.chainList (s : State) : List (Nat × ChainEnt) :=
  s.lve.chains.filterMap (fun (e, v) => v.map (fun x => (e, x)))

/-- The state code of a chain in its descriptor (10 R418). -/
def State.putChainState (s : State) (x : ChainEnt) (code : Nat) : State := s.engPut x.core (x.addr.toNat + 69) [octet code]

/-- The element count of a descriptor (10 R420). -/
def descLen (d : Octets) : Nat := fieldAt d 4 3

/-- The common 12-byte progress format: POSITION, TOTAL, BP (10 R442). -/
def progressWord (pos total : Nat) : Nat :=
  pos % 2 ^ 32 + (total % 2 ^ 32) * 2 ^ 32 + (if total = 0 then 0 else 10000 * pos / total) * 2 ^ 64

/-- The oldest chain of a bank that holds an entry, by its SEQ from the bank's present count back (10 R442). -/
def oldestChain (s : State) (c : CoreId) (b : BankId) : Option ChainEnt :=
  ((s.chainList.filter (fun (_, x) => x.core == c && x.bank == b)).map Prod.snd).foldl
    (fun best x => match best with
      | none => some x
      | some y =>
        let cnt := (s.bank c b).chainSeq
        let age := fun (z : ChainEnt) => (cnt - z.handle.extractLsb' 16 16).toNat
        if age x > age y then some x else some y) none

/-- SEQ of a chain's handle (10 R415). -/
def ChainEnt.seq (x : ChainEnt) : W16 := x.handle.extractLsb' 16 16

/-- A chain's progress in the common format. -/
def ChainEnt.progress (x : ChainEnt) : BitVec 96 := BitVec.ofNat 96 (progressWord x.pos (descLen x.desc))

/-- Whether a chain of a bank is older than another, by their SEQ counted back from the bank's present count. -/
def Bank.older (k : Bank) (p q : W16) : Bool := (k.chainSeq - p).toNat > (k.chainSeq - q).toNat

/-- VPOS of a bank brought up to date; `last` is the chain that has just ended or moved (10 R442). A chain that has ended
STOPPED or ABANDONED is not DONE, so it stays among those of which the oldest is reported (log entry 101). -/
def State.updateVpos (s : State) (last : ChainEnt) : State :=
  s.modBank last.core last.bank (fun k => { k with
    vpos := match k.vposKept, oldestChain s last.core last.bank with
      | some (q, w), some x => if k.older x.seq q then x.progress else w
      | some (_, w), none => w
      | none, x => (x.getD last).progress })

/-- A chain that has ended STOPPED or ABANDONED kept for VPOS, where no older one is (10 R442). -/
def State.keepVpos (s : State) (x : ChainEnt) : State :=
  s.modBank x.core x.bank (fun k => match k.vposKept with
    | some (q, _) => if k.older x.seq q then { k with vposKept := some (x.seq, x.progress) } else k
    | none => { k with vposKept := some (x.seq, x.progress) })

/-- A chain's entry freed, its state written (10 R415, R418). -/
def State.freeChain (s : State) (e : Nat) (x : ChainEnt) (code : Nat) : State :=
  let t := (s.setChainEnt e none).putChainState x code
  (if code = 3 then t else t.keepVpos x).updateVpos x

/-- CYCLES of a descriptor and the octets after it (10 R420). -/
def State.putCycles (s : State) (x : ChainEnt) : State := s.engPut x.core (x.addr.toNat + 88) (leBytes 4 x.cycles ++ zeros 4)

/-- A run's effects taken over: memory as it left it, its flags in FPSF (11 R460), and its cycles charged to the job
(10 R441). The entry as the run left it comes with them. -/
def State.takeRun (s : State) (x : ChainEnt) (r : Run) (cycles : Nat) : State × ChainEnt :=
  let s1 := r.s.modBank x.core x.bank (fun k =>
    let j := match k.job with
      | some j => if x.job = some j.job.id ∧ x.bank ≠ 0 then some { j with vecUsed := j.vecUsed + cycles } else some j
      | none => none
    { (k.addFlags r.kept.flags) with job := j })
  ({ s1 with lve := s.lve }, { x with pos := r.pos, acc := r.kept.z, pfx := r.kept.pfx, cycles := x.cycles + cycles })

/-- A running chain ended as STOPPED after some of its cycles (10 R440, R441). -/
def State.stopChain (s : State) (e : Nat) (x : ChainEnt) (cycles : Nat) : State :=
  let (s1, y) := s.takeRun x (runChain s x none (some cycles)) cycles
  ((s1.freeChain e y 5).putCycles y).engPut y.core (y.addr.toNat + 76) (leBytes 4 y.pos)

/-- The cycles a running chain has had, its run not over. -/
def ChainEnt.elapsed (s : State) (x : ChainEnt) : Nat :=
  min (s.t.clock - x.since) ((progOf x.desc).cost x.start - 1)

/-- VPOS of a bank as it stands now: a running chain has moved it at the end of every strip (10 R442). -/
def State.vposNow (s : State) (c : CoreId) (b : BankId) : BitVec 96 :=
  let k := s.bank c b
  match oldestChain s c b with
  | some x =>
    if x.st = .running ∧ k.vposKept.all (fun (q, _) => k.older x.seq q) then
      { x with pos := (runChain s x none (some (x.elapsed s))).pos }.progress
    else k.vpos
  | none => k.vpos

/-- The chains of a bank ended with its job: a running one STOPPED, the others ABANDONED (10 R450). -/
def State.endChains (s : State) (c : CoreId) (b : BankId) : State :=
  (s.chainList.filter (fun (_, x) => x.core == c && x.bank == b)).foldl
    (fun t (e, x) => if x.st = .running then t.stopChain e x (x.elapsed t) else t.freeChain e x 6) s

/-! ### Mover commands (12 R511 to R515) -/

/-- STATE, ERROR and DONE_BYTES written back into a command (12 R511), whose other octets stay. -/
def State.putMov (s : State) (m : MovCmd) (st err done : Nat) : State :=
  (s.engPut m.core (m.addr.toNat + 24) [octet st, octet err]).engPut m.core (m.addr.toNat + 28) (leBytes 4 done)

/-- Whether a command goes through the service queue (12 R514). -/
def MovCmd.service (m : MovCmd) : Bool := m.bank == 0

/-- The running command of the job queue or the service queue: the first that has entered (12 R512). -/
def State.movRunning (s : State) (service : Bool) : Option MovCmd :=
  s.mover.cmds.find? (fun m => m.entered && m.service == service)

/-- Whether a job still has mover commands or draw, seal or receipt requests that have not ended (09 R409). -/
def State.jobBusy (s : State) (id : Nat) : Bool :=
  s.mover.cmds.any (fun m => m.job == some id) || s.ds.draws.any (fun r => r.job == some id)
    || s.ds.seals.any (fun r => r.job == some id) || s.ds.rcpts.any (fun r => r.job == some id)

/-- The completion of an ended job, once nothing of the job remains (09 R409). -/
def State.settle (s : State) (id : Nat) : State :=
  if s.jobBusy id then s
  else
    match s.host.ended.find? (fun c => c.order == id) with
    | none => s
    | some c => ({ s with host := { s.host with ended := s.host.ended.filter (fun d => d.order != id) } }).complete c

/-- A bank's commands not yet started are discarded: FAILED with ERROR 6 (09 R410, 12 R515); the completion of an earlier
job of the bank that waited for one of them is promised when nothing of that job remains (R409, R516). -/
def State.discardMoves (s : State) (c : CoreId) (b : BankId) : State :=
  let gone := s.mover.cmds.filter
    (fun m => m.core == c && m.bank == b && s.movRunning m.service != some m)
  let s1 := gone.foldl (fun t m => t.putMov m 4 6 0)
    { s with mover := { s.mover with cmds := s.mover.cmds.filter (fun m => !gone.contains m) } }
  (gone.filterMap (fun m => m.job)).foldl State.settle s1

/-- A job's completion promised: queued when nothing of the job remains (09 R409). -/
def State.endJob (s : State) (c : Cpl) : State :=
  ({ s with host := { s.host with ended := s.host.ended ++ [c] } }).settle c.order

/-- The pinned entry of a BUDGET_EXCEEDED (02 R74). -/
def State.budgetTrouble (s : State) (c : CoreId) (j : JobRun) (resource : Nat) : State :=
  s.trouble true 0x0012 3 c.val (leBytes 2 j.job.cert.cls ++ leBytes 4 j.job.cert.serial ++ leBytes 6 s.t.span
    ++ [octet resource])

/-- A job ended: its completion, and for BUDGET_EXCEEDED the pinned entry with the resource that is its DETAIL (02 R72, R74;
09 R409, R410). `byDispatch` says that WAIT DISPATCH ends it. -/
def State.endRun (s : State) (c : CoreId) (j : JobRun) (status detail resBytes : Nat) (jobWord : W32) (byDispatch : Bool) :
    State :=
  (if status = stBUDGET then s.budgetTrouble c j detail else s).endJob
    { jobCpl j status detail resBytes jobWord with byDispatch := byDispatch }

/-! ### Core stop and frozen banks (09 R394, R410) -/

/-- RES_BYTES of the completion prepared in a bank's TSB (09 R377); zero where the TSB lies outside R376. Log entry 94. -/
def State.preparedBytes (s : State) (c : CoreId) (b : BankId) : Nat :=
  if s.tsbOk c b then fieldAt (s.tsbGet c b 100 4) 0 4 else 0

/-- JOB_WORD of the completion prepared in a bank's TSB (09 R377); zero where the TSB lies outside R376. Log entry 94. -/
def State.preparedWord (s : State) (c : CoreId) (b : BankId) : W32 :=
  if s.tsbOk c b then BitVec.ofNat 32 (fieldAt (s.tsbGet c b 104 4) 0 4) else 0

/-- The jobs of a core end with JOB_FAULT, DETAIL 15 (09 R394). -/
def State.endCoreJobs (s : State) (c : CoreId) : State :=
  let s1 := taskBanks.foldl (fun t b =>
    match (t.bank c b).job with
    | none => t
    | some j => ((t.endChains c b).modBank c b (fun k => { k with job := none })).endJob
      (jobCpl j stJOBFAULT 15 (t.preparedBytes c b) (t.preparedWord c b))) s
  let s2 := (s.core c).jobQueue.foldl (fun t j => t.endJob (jobCpl ⟨j, 0, 0, 0⟩ stJOBFAULT 15 0 0)) s1
  s2.modCore c (fun k => { k with jobQueue := [] })

/-- The core stops (09 R394): a pinned entry, source 3 on every core still running, its jobs ended. -/
def State.coreStop (s : State) (c : CoreId) (b : BankId) (pc : W32) (vector cause : Nat) : State :=
  let s1 := s.modCore c (fun k => { k with stopped := true, entering := none })
  let s2 := (taskBanks.foldl (fun t v => t.leaveScribe c v) (s1.leaveScribe c bankT)).trouble true 0x0010 3 c.val
    (leBytes 4 pc.toNat ++ leBytes 2 vector ++ leBytes 2 cause ++ [octet b.val])
  ((s2.raiseAll 3 c.val).endCoreJobs c).probationFail 3

/-- Dispatch of a job into a bank: what the HDT entry and TSB checks found (09 R408). -/
inductive DispatchCheck where
  | ok | badHdt | badTsb
  deriving DecidableEq, Repr

/-- An HDT entry as it lies in bench memory (09 R373). -/
structure Hdt where
  handler  : Nat
  level    : Nat
  target   : Nat
  flags    : Nat
  tsw      : W64
  reserved : Bool
  deriving DecidableEq, Repr

/-- The octets of HDT entry v. -/
def State.hdtAddr (s : State) (c : CoreId) (v : Nat) : Nat := (s.core c).hdtr.toNat + 32 * v

/-- HDT entry v read afresh (09 R373, R375). -/
def State.hdt (s : State) (c : CoreId) (v : Nat) : Hdt :=
  let o := s.octets c (s.hdtAddr c v) 32
  ⟨fieldAt o 0 4, fieldAt o 4 1 % 16, fieldAt o 5 1 % 32, fieldAt o 6 1, BitVec.ofNat 64 (fieldAt o 8 8),
   fieldAt o 0 4 % 4 != 0 || fieldAt o 4 1 ≥ 16 || fieldAt o 5 1 ≥ 32 || fieldAt o 6 1 ≥ 2 || fieldAt o 7 1 != 0
     || !zeroAt o 16 16 || (16 ≤ fieldAt o 5 1 && fieldAt o 5 1 ≤ 30)⟩

/-- Whether HDT entry v lies in a DATA frame of the core's bench memory (09 R376). -/
def State.hdtFrameOk (s : State) (c : CoreId) (v : Nat) : Bool :=
  isBench (s.hdtAddr c v) && (match s.frame c (s.hdtAddr c v) with | some e => e.st == .data | none => false)

/-- Whether an entry meets R373 and R374 for the level it enters: the TSW's CWP, WVAL and CC zero, no reserved value,
MASK at least the level; MODE 1 and MASK 15 for vectors 10, 11 and 15; LEVEL and TARGET zero for vectors 1 to 15. -/
def Hdt.ok (h : Hdt) (v level : Nat) : Bool :=
  !h.reserved && tswCwp h.tsw == 0 && tswWval h.tsw == 0 && tswCc h.tsw == 0 && tswFpm h.tsw ≤ 2 && tswDrm h.tsw ≤ 4
    && getField h.tsw 0 40 == 0 && tswMask h.tsw ≥ level
    && (v ≥ 16 || (h.level == 0 && h.target == 0))
    && (!(v == 10 || v == 11 || v == 15) || (tswMode h.tsw && tswMask h.tsw == 15))

/-- The lowest-numbered FREE task bank (09 R408). -/
def Core.freeBank (k : Core) : Option BankId := (taskBanks.drop 1).find? (fun b => (k.bank b).st == .free)

/-- A job dispatched into a bank (09 R408, R370; 10 R442). A result that an earlier job left in flight meets none of the
registers set to RAW zero, and its record is cleared with the bank's (R209). -/
def State.dispatchInto (s : State) (c : CoreId) (b : BankId) (j : Job) : State :=
  let h := s.hdt c 72
  let lvl := (s.core c).ev.get EvCopy.zero 8 |>.level
  let hdtOk := s.hdtFrameOk c 72
  let bad : Option Nat := if !hdtOk || !h.ok 72 lvl then some 3 else if !s.tsbOk c b then some 4 else none
  let loaded : W64 := (if hdtOk then h.tsw else BitVec.ofNat 64 (Config.freeValue 72 s.freeCtr)) &&& 0xFFFFFF0000000000
  let pc : W32 := (if hdtOk then BitVec.ofNat 32 h.handler else BitVec.ofNat 32 (Config.freeValue 73 s.freeCtr)) &&& 0xFFFFFFFC
  let s1 := if hdtOk then s else s.useFree 1
  let s2 := s1.tsbPut c b 4 (leBytes 2 j.cert.cls ++ leBytes 2 j.ring ++ leBytes 4 j.count.toNat ++ leBytes 6 j.span
    ++ [octet j.cert.bankPri, 0] ++ leBytes 4 j.cert.coreCyc ++ leBytes 4 j.cert.serial ++ [0xFF, 0xFF, 0, 0]
    ++ padTo 64 j.desc ++ zeros 32)
  let s3 := s2.tsbPut c b 0 [0]
  s3.modCore c (fun k =>
    let k1 := k.modBank b (fun v => { Bank.reset .ready with
      tsbr := v.tsbr, svcp := v.svcp, svct := v.svct, splp := v.splp, spll := v.spll, fpsf := v.fpsf
      tsw := setField (setField loaded 43 3 0) 40 3 1, pc := pc, cycb := BitVec.ofNat 32 j.cert.coreCyc
      readySince := s.t.clock, charge := true, job := some ⟨j, 0, 0, 0⟩, deferred := bad })
    { (k1.dropResults b (fun _ => true)) with
      pend := k1.pend.filter (fun p => p.bank != b)
      mcheck := k1.mcheck.filter (fun m => m.bank != b)
      port := (k1.dropResults b (fun _ => true)).port.map (fun e => if e.bank = b then { e with fpt := none } else e) })

/-- Jobs at the head of the queue dispatched while a FREE bank exists (09 R408). -/
def State.dispatch (s : State) (c : CoreId) : Nat → State
  | 0 => s
  | n + 1 =>
    match (s.core c).jobQueue, (s.core c).freeBank with
    | j :: r, some b => ((s.modCore c (fun k => { k with jobQueue := r })).dispatchInto c b j).dispatch c n
    | _, _ => s

/-- In the post a bank that becomes FREE takes the next job at once (09 R408). -/
def State.dispatchIfPost (s : State) (c : CoreId) : State :=
  if s.t.phase = .post ∧ (s.core c).able then s.dispatch c 15 else s

/-- A bank frozen (09 R410): it stops issuing, its chains and waiting mover commands end, source 6 is raised, and its
job completes. Bank 0 is never frozen: the core stops. -/
def State.freezeBank (s : State) (c : CoreId) (b : BankId) (status detail : Nat) : State :=
  let k := s.bank c b
  if b = 0 then s.coreStop c b k.pc k.lastFault.1 k.lastFault.2
  else
    let s1 := s.modCore c (fun kk =>
      let k1 := kk.modBank b (fun v => { v with
        st := .frozen, wait := none, heldV := [], heldBudget := []
        budgetDue := false, budgetTaken := none, job := none, charge := false })
      { k1 with
        running := if k1.running = some b then none else k1.running
        entering := match k1.entering with | some e => if e.bank = b then none else some e | none => none })
    let s2 := (((s1.leaveScribe c b).endChains c b).discardMoves c b).raiseOn c 6 0
    match k.job with
    | none => s2
    | some j => s2.endRun c j status detail (s.preparedBytes c b) (s.preparedWord c b) false

/-- A blocked bank to which a held fault has become deliverable becomes READY (09 R364, R401; 10 R415). -/
def State.wakeHeld (s : State) (c : CoreId) (b : BankId) : State :=
  let k := s.bank c b
  if k.st = .blocked ∧ tswMask k.tsw < 12 ∧ (k.heldBudget ≠ [] ∨ k.heldV ≠ []) then
    s.modBank c b (fun v => v.makeReady s.t.clock)
  else s

/-- BUDGET held for a bank (09 R361, R364): causes 1 and 2, each once for a job. With cause 1 it has counted as taken since the
cycle of the breach (09 R405). -/
def State.holdBudget (s : State) (c : CoreId) (b : BankId) (resource : Nat) : State :=
  match (s.bank c b).job with
  | none => s
  | some _ =>
    if (s.bank c b).heldBudget.contains resource then s
    else (s.modBank c b (fun v => { v with heldBudget := v.heldBudget ++ [resource] })).wakeHeld c b

/-- A BUDGET taken synchronously: causes 3 and 4 (06 R270). Of several resources the first one taken stands (log entry 113). -/
def State.takeBudget (s : State) (c : CoreId) (b : BankId) (resource : Nat) : State :=
  match (s.bank c b).job with
  | none => s
  | some _ =>
    s.modBank c b (fun v => { v with
      budgetTaken := if v.budgetTaken.isSome then v.budgetTaken else some (s.t.clock, resource) })

/-- The resource of a BUDGET taken or held for a bank's job, of several the first (02 R73; 09 R409, R410; log entry 113). -/
def Bank.budgetOf (k : Bank) : Option Nat := (k.budgetTaken.map Prod.snd).orElse (fun _ => k.heldBudget.head?)

/-- The completion of a job that a bank freeze ends: BUDGET_EXCEEDED where a BUDGET was taken for it, otherwise
JOB_FAULT with the vector of the fault that led to the freeze (09 R410). -/
def State.freezeFor (s : State) (c : CoreId) (b : BankId) (fault : Nat) : State :=
  match (s.bank c b).budgetOf with
  | some r => s.freezeBank c b stBUDGET r
  | none => s.freezeBank c b stJOBFAULT fault

end Sys2Proof.Machine
end

