-- ==== Sys2Proof/Machine/RingCmds.lean ====
section
/-! DEFINITION. The ring commands, NOP and LOAD_CERT, and commands posted by the supervisor (03 R105 to R120; 02 R47 to R51;
18 R725, R730). -/

namespace Sys2Proof.Machine

/-- The state code of a ring (03 R105). -/
def RingSt.code : RingSt → Nat
  | .absent => 0
  | .active => 1
  | .stopped => 2
  | .faulted => 3

/-- A ring command's refusal: the state code of its target (03 R104). -/
def badRing (v : Ring) : CmdEnd := ⟨stBADRING, v.st.code, 0, 0⟩

/-- The context in a descriptor (03 R115, R116). -/
def ctxOf (d : Octets) : RingCtx where
  subBase := BitVec.ofNat 64 (fieldAt d 16 8)
  cplBase := BitVec.ofNat 64 (fieldAt d 24 8)
  subOrder := fieldAt d 32 1
  cplOrder := fieldAt d 33 1
  pri := fieldAt d 34 1
  group := fieldAt d 35 1
  quota := fieldAt d 36 2
  msixVec := fieldAt d 38 2
  modCount := fieldAt d 40 2
  modTime := fieldAt d 42 2
  winBase := BitVec.ofNat 64 (fieldAt d 48 8)
  winLimit := BitVec.ofNat 64 (fieldAt d 56 8)

/-- NOP (R115). -/
def execNopCommand (s : State) : Res := devRow 0 (fun _ t => (t, .done)) s

/-- CREATE_RING (R107, R109, R116). -/
def execCreateRing (s : State) : Res :=
  devRow 1 (fun d t =>
    let r := fieldAt d.desc 8 2
    let v := t.ring r
    if v.st = .absent then (t.renewRing r .active (ctxOf d.desc) true, .done) else (t, badRing v)) s

/-- START_RING (R107, R109). -/
def execStartRing (s : State) : Res :=
  devRow 2 (fun d t =>
    let r := fieldAt d.desc 8 2
    let v := t.ring r
    if v.st = .stopped then (t.setRing r { v with st := .active, fresh := true }, .done) else (t, badRing v)) s

/-- STOP_RING on a ring (03 R107, R117, R118), taking effect at once; with MODE FLUSH it completes when the flush is over, otherwise
now, behind the ring's completions (R112). `cpl` is the completion that an end gives it. -/
def State.stopRing (s : State) (r : Nat) (flush : Bool) (cpl : CmdEnd → Cpl) : State :=
  let v := s.ring r
  if v.st = .active ∨ (v.st = .stopped ∧ flush) then
    let t := s.setRing r { v with st := .stopped }
    if flush then ({ t with host := { t.host with flush := some ⟨r, 0, cpl .done⟩ } }).settleFlush
    else t.complete { cpl .done with after := [(r, v.head, v.gen)] }
  else s.complete (cpl (badRing v))

/-- STOP_GROUP on a group (03 R107, R115): DETAIL the rings changed, 0 where the group has no ring to change (log entry 97).
Ring 0 never enters STOPPED (R111). -/
def State.stopGroup (s : State) (g : Nat) : State × CmdEnd × List (Nat × W32 × Nat) :=
  let l := s.ringNumbers.filter (fun r => r != 0 && (s.ring r).st == .active && (s.ring r).ctx.group == g)
  (l.foldl (fun t r => t.modRing r (fun v => { v with st := .stopped })) s, { CmdEnd.done with detail := l.length },
    l.map (fun r => (r, (s.ring r).head, (s.ring r).gen)))

/-- The completion of a device command that ends in some way. -/
def endCpl (d : DevCmd) (e : CmdEnd) : Cpl := cmdCpl d e.status e.detail e.resBytes (BitVec.ofNat 32 e.jobWord)

/-- STOP_RING (R107, R108, R112, R117, R118); one that flushes waits for a flush in progress. -/
def execStopRing (s : State) : Res :=
  match s.devCmd 3 with
  | none => .next s
  | some d =>
    let flush := fieldAt d.desc 16 1 == 1
    if flush && s.host.flush.isSome then .next s
    else .next ((s.dropCmd d).stopRing (fieldAt d.desc 8 2) flush (endCpl d))

/-- RESIZE_RING (R87, R107): a quiet STOPPED or FAULTED ring takes the new context. -/
def execResizeRing (s : State) : Res :=
  devRow 4 (fun d t =>
    let r := fieldAt d.desc 8 2
    let v := t.ring r
    if (v.st = .stopped ∨ v.st = .faulted) ∧ t.quiet r then (t.renewRing r .stopped (ctxOf d.desc) false, .done)
    else (t, badRing v)) s

/-- DELETE_RING (R107). The ring's vector and moderation stand for the entries it has not signalled (log entry 97). -/
def execDeleteRing (s : State) : Res :=
  devRow 5 (fun d t =>
    let r := fieldAt d.desc 8 2
    let v := t.ring r
    if (v.st = .stopped ∨ v.st = .faulted) ∧ t.quiet r then (t.setRing r (v.renewed .absent v.ctx false), .done)
    else (t, badRing v)) s

/-- SET_QUOTA (R107, R115). -/
def execSetQuota (s : State) : Res :=
  devRow 6 (fun d t =>
    let r := fieldAt d.desc 8 2
    let v := t.ring r
    if v.st = .absent then (t, badRing v)
    else (t.setRing r { v with ctx := { v.ctx with pri := fieldAt d.desc 34 1, group := fieldAt d.desc 35 1, quota := fieldAt d.desc 36 2 } },
      .done)) s

/-- SET_MODERATION (R107, R115): entries not yet signalled go by the new settings at once (R123). -/
def execSetModeration (s : State) : Res :=
  devRow 7 (fun d t =>
    let r := fieldAt d.desc 8 2
    let v := t.ring r
    if v.st = .absent then (t, badRing v)
    else
      let n := fieldAt d.desc 40 2
      let t1 := t.setRing r { v with ctx := { v.ctx with
        msixVec := fieldAt d.desc 38 2, modCount := n, modTime := fieldAt d.desc 42 2 } }
      (if v.u > 0 ∧ v.u ≥ n then t1.signalRing r else t1, .done)) s

/-- STOP_GROUP carried out (R107), its completion held behind the rings it stopped (R112). -/
def State.stopGroupCpl (s : State) (g : Nat) (cpl : CmdEnd → Cpl) : State :=
  let (t, e, after) := s.stopGroup g
  t.complete { cpl e with after := after }

/-- STOP_GROUP (R107, R112). -/
def execStopGroup (s : State) : Res :=
  match s.devCmd 8 with
  | none => .next s
  | some d => .next ((s.dropCmd d).stopGroupCpl (fieldAt d.desc 8 1) (endCpl d))

/-- START_GROUP (R107, R109): DONE with DETAIL 0 where the group has no ring to change (log entry 97). -/
def execStartGroup (s : State) : Res :=
  devRow 9 (fun d t =>
    let l := t.ringNumbers.filter (fun r => r != 0 && (t.ring r).st == .stopped && (t.ring r).ctx.group == fieldAt d.desc 8 1)
    (l.foldl (fun u r => u.modRing r (fun v => { v with st := .active, fresh := true })) t, { CmdEnd.done with detail := l.length })) s

/-- The completion of a posted command (03 R119): RING 0, TAG all ones, SUB_COUNT 0. -/
def postedCpl (s : State) (e : CmdEnd) : Cpl :=
  ⟨s.adm.order, 0, 0, 0xFFFFFFFF, s.t.span, e.status, e.detail, 0, 0, 1, false, true, 0, [], false⟩

/-- POSTED_COMMAND (R119, R120; 06 R272): the oldest posted command is decided and journalled, and completes as its like from ring 0
does; source 9. -/
def execPostedCommand (s : State) : Res :=
  if s.deciding = false ∨ s.host.dbBack = false ∨ s.postedReady = false ∨ s.host.flush.isSome then .next s
  else
    match s.host.postQueue with
    | [] => .next s
    | p :: l =>
      let s1 := s.journalCmd (if p.group then 8 else 3) 0
      let s2 : State := { s1 with
        host := { s1.host with postQueue := l, postDue := s.host.postDue - 1, posted := s.host.posted + 1 }
        adm := { s1.adm with r0Decided := s.adm.r0Decided + 1, order := s.adm.order + 1 } }
      let s3 := if p.group then s2.stopGroupCpl p.target (postedCpl s) else s2.stopRing p.target p.flush (postedCpl s)
      .next (s3.raise 9 0)

/-! ### LOAD_CERT -/

/-- The certificate a new one of its class is compared with (02 R49): one that waits for the next sill comes first. Of classes 0 to
63, which are built in and whose SERIAL the manual does not give, the model holds none (log entry 57). -/
def State.currentCert (s : State) (cls : Nat) : Option Cert :=
  (s.adm.certsNext.find? (fun c => c.cls == cls)).orElse (fun _ => s.adm.certs.get none cls)

/-- The first failing case of R49 for certificate octets against a current certificate. -/
def State.certFault (s : State) (o : Octets) (current : Option Cert) : Option Nat :=
  let c := certOf o
  if !sigOk (s.keyOctets 9) (slice o 0 160) (slice o 160 96) then some 1
  else if certBad o then some 2
  else if current.any (fun k => c.serial ≤ k.serial) then some 3
  else if !certFits s.adm.cfg s.t.k c then some 4
  else if c.cls < 64 then some 5
  else none

/-- The image digest of an INSTALLED session (18 R730). -/
def State.installedDigest (s : State) : Option Octets :=
  match s.upd.session with
  | some x => if x.st = .installed ∧ s.intentStep < 5 then some (s.slotOf x.slot).digest else none
  | none => none

/-- LOAD_CERT (R49, R50; R730 for a staged certificate). -/
def execLoadCert (s : State) : Res :=
  devBlockRow 16 (fun _ o t =>
    let c := certOf o
    let staged := t.installedDigest == some c.imageDigest
    match t.certFault o (t.currentCert c.cls) with
    | some n => (t, ⟨stBADCERT, n, 0, 0⟩)
    | none =>
      if staged then
        ({ t with upd := { t.upd with staged := t.upd.staged.filter (fun k => k.cls != c.cls) ++ [c] } }, .done)
      else
        ({ t with adm := { t.adm with certsNext := t.adm.certsNext.filter (fun k => k.cls != c.cls) ++ [c] } }, .done)) s

end Sys2Proof.Machine
end

