-- ==== Sys2Proof/Machine/ChainRx.lean ====
section
/-! DEFINITION. The chain's messages: witnessed spans, acknowledgements, NAK, CATCHUP, ECHO and the latency check
(14 R565 to R572, R581, R590, R596), and the chain commands (14 R597 to R599). -/

namespace Sys2Proof.Machine

/-! ### Witnessing (14 R565, R566, R579, R580) -/

/-- The entries of a witness record payload: span, leaf, type, data; reading ends where an entry does not fit. -/
def recordEntries : Nat → Octets → List (Nat × Nat × Nat × Octets)
  | 0, _ => []
  | n + 1, b =>
    let size := fieldAt b 10 2
    if b.length < 12 ∨ b.length < 12 + size then []
    else (fieldAt b 0 6, fieldAt b 6 3, fieldAt b 9 1, slice b 12 size) :: recordEntries n (b.drop (12 + size))

/-- The witnessed segment of a source's span. -/
def State.witnessed (s : State) (src span : Nat) : Option Segment :=
  s.scribe.segments.find? (fun g => !g.own && g.source == src && g.span == span)

/-- Whether a source is one of the two this device witnesses, or may become one (14 R563). -/
def State.servesSource (s : State) (src : Nat) : Bool := s.sources.contains src || s.sources.length < 2

/-- An acknowledgement sent to the source (14 R580): FLAGS.LATE for a span that was backfilled, which the witness knows by its
header's FLAGS.RESENT, or that is past its deadline (R571; log entry 64). -/
def State.sendAck (s : State) (src span result : Nat) (header : Octets) (resent : Bool) : State :=
  let late := resent || s.deadlinePassed span
  let b := leBytes 6 span ++ [octet src, octet result, if late then 1 else 0] ++ zeros 7 ++ sha256 header ++ s.privKeyId 3
  let sig := s.sign 3 b
  (s.useFree 48).sendTo src 3 (if late then 2 else 0) (b ++ sig)

/-- A duplicate leaf that differs (14 R566): the span is refused with RESULT 2, a pinned entry, and the regulator told. -/
def State.leafConflict (s : State) (g : Segment) (leaf : Nat) : State :=
  let s1 := (s.setSegment { g with conflict := true }).trouble true 0x0031 7 0xFF ([octet g.source] ++ leBytes 6 g.span ++ leBytes 3 leaf)
  let s2 := regSend s1 3 ([octet g.source, 2] ++ leBytes 6 g.span)
  match g.header with
  | some h => s2.sendAck g.source g.span 2 h g.resent
  | none => s2

/-- The octets of NAK (14 R581). -/
def nakBody (src span first last : Nat) : Octets :=
  [3, octet src, 0, 0] ++ leBytes 6 span ++ leBytes 3 first ++ leBytes 3 last

/-- The first of the checks of a header that need no leaf, SIGNATURE, ORDER and LINK, that it fails; 0 for none (14 R565). -/
def State.headerEarly (s : State) (src : Nat) (h : Octets) : Nat :=
  let held := (s.chain.srcHeld.get none src)
  let flags := fieldAt h 3 1
  let prev := fieldAt h 24 6
  let prevHeld := (s.witnessed src prev).any (fun x => x.header.isSome) || (held.isSome && heldSpan held == prev)
  let linked := (match held with | some o => slice h 80 32 == sha256 o | none => false)
    || flags / 4 % 2 == 1 || (flags / 2 % 2 == 1 && !prevHeld)
  let key := match s.chain.peers.get none src with | some (k, _) => k | none => []
  if !sigOk key (slice h 0 192) (slice h 192 96) then 1
  else if held.isSome ∧ fieldAt h 8 6 ≤ heldSpan held then 5
  else if !linked then 4
  else 0

/-- The RESULT of a header against the leaves held (14 R565). -/
def State.headerResult (s : State) (g : Segment) (h : Octets) : Nat :=
  let leaves := g.leaves.map (fun (_, d) => d.getD [])
  if s.headerEarly g.source h ≠ 0 then s.headerEarly g.source h
  else if fieldAt h 16 4 ≠ leaves.length then 3
  else if g.conflict ∨ slice h 48 32 ≠ spanRoot leaves then 2
  else if freeBlocks s < 14 + spanRoom s then 6
  else 0

/-- A header judged: the segment written and acknowledged, or refused (14 R565). A refused span's leaves are dropped, unless the
span is held already or another header of it waits. -/
def State.judgeHeader (s : State) (g : Segment) (h : Octets) : State :=
  match s.headerResult g h with
  | 0 =>
    let s1 := s.completeSegment { g with accepted := true } h
    (({ s1 with chain := { s1.chain with srcHeld := s1.chain.srcHeld.set none g.source (some h) } }).sendAck
      g.source g.span 0 h g.resent).journalCheck
  | r =>
    let others := g.waiting.filter (fun x => x != h)
    let s1 : State :=
      if g.header.isSome then s
      else if others ≠ [] then s.setSegment { g with waiting := others }
      else { s with scribe := { s.scribe with segments := s.scribe.segments.filter (fun x => !x.same g) } }
    s1.sendAck g.source g.span r h g.resent

/-- One leaf of a source's span (14 R565, R566). -/
def State.takeLeaf (s : State) (src span leaf : Nat) (data : Octets) : State :=
  let g0 := s.witnessed src span
  let g := g0.getD (s.startSegment false src span)
  match g.leaves.get none leaf with
  | some d => if d = data then s else s.leafConflict g leaf
  | none =>
    if g.header.isSome ∨ (g0.isNone ∧ (s.chain.srcHeld.get none src).isSome ∧ span ≤ heldSpan (s.chain.srcHeld.get none src)) then s
    else
      let next := match g.leaves.getLast? with | some (i, _) => i + 1 | none => 0
      let g1 : Segment := { g with leaves := g.leaves.set none leaf (some data), blocks := g.blocks + leafBlocks data }
      let s1 : State := if g0.isSome then s.setSegment g1
        else { s with scribe := { s.scribe with segments := s.scribe.segments ++ [g1] } }
      let s2 := if leaf > next then s1.sendTo src 1 0 (nakBody src span next (leaf - 1)) else s1
      let s3 := s2.journalCheck
      (g1.waiting.filter (fun h => fieldAt h 16 4 ≤ g1.leaves.length)).foldl (fun t h =>
        match t.witnessed src span with
        | some x => t.judgeHeader x h
        | none => t) s3

/-- A header of a source's span (14 R565, R566): one that passes the checks that need no leaf waits for leaves that are
missing. -/
def State.takeHeader (s : State) (src span : Nat) (h : Octets) (resent : Bool) : State :=
  let g0 := s.witnessed src span
  let g1 := g0.getD (s.startSegment false src span)
  let g := { g1 with resent := g1.resent || resent }
  if g.header = some h then s.sendAck src span (if g.conflict then 2 else 0) h g.resent
  else if s.headerEarly src h = 0 ∧ fieldAt h 16 4 > g.leaves.length ∧ g.header.isNone then
    let g1 : Segment := { g with waiting := g.waiting.filter (fun x => x != h) ++ [h] }
    let s1 : State := if g0.isSome then s.setSegment g1
      else { s with scribe := { s.scribe with segments := s.scribe.segments ++ [g1] } }
    let missing := (List.range (fieldAt h 16 4)).filter (fun i => (g.leaves.get none i).isNone)
    s1.sendTo src 1 0 (nakBody src span (missing.headD 0) (missing.getLastD 0))
  else s.judgeHeader g h

/-- WITNESS_RECORD (R565, R566). -/
def execWitnessRecord (f : RxFrame) (s : State) : Res :=
  rxRow 2 f (fun t b =>
    let src := f.hdr.src.toNat
    if !t.servesSource src then t
    else (recordEntries 256 b).foldl (fun u (span, leaf, typ, data) =>
      if typ = 1 then u.takeLeaf src span leaf data
      else if typ = 2 ∧ data.length = 288 then u.takeHeader src span data (f.hdr.flags.getLsbD 0) else u) t) s

/-! ### Acknowledgements (14 R567, R568, R570, R572) -/

/-- The first empty slot of a segment filled; its number. -/
def fillSlot (a : AckSlot) : Nat → List (Option AckSlot) → Option (Nat × List (Option AckSlot))
  | _, [] => none
  | i, none :: r => some (i, some a :: r)
  | i, x :: r => (fillSlot a (i + 1) r).map (fun (j, l) => (j, x :: l))

/-- The position of acknowledgement slot i of a segment (14 R557). -/
def Segment.slotPos (g : Segment) (i : Nat) : Nat := g.start + (g.blocks - 9) + 3 * i

/-- The position after the last hot-journal block appended to a cartridge, acknowledged or not. -/
def State.blocksWritten (s : State) : Nat := max s.cart.nextPos s.cart.reach

/-- Whether a device's acknowledgements hold q of every sealed span from the first QUORUM_SHORT one to the latest whose
deadline has passed (14 R572). -/
def State.chainHealthy (s : State) : Bool :=
  s.scribe.segments.all (fun g => !(g.own && g.header.isSome && s.chain.shortSpan ≤ g.span && s.deadlinePassed g.span)
    || g.acked.length ≥ g.quorum)

/-- The chain healthy again: source 129; admission resumes at the next sill (14 R572). -/
def State.healthCheck (s : State) : State :=
  if s.chain.shortSpan ≠ 0 ∧ s.chainHealthy then
    ({ s with chain := { s.chain with shortSpan := 0, backfill := [] } }).raise 129 0
  else s

/-- A valid acknowledgement taken into its segment: on time or late, once for each witness; only a witness of the span's own
list counts toward its quorum (14 R567). Log entry 95. -/
def State.takeAck (s : State) (g : Segment) (w : Nat) (payload : Octets) : State :=
  if g.acked.contains w then s
  else
    let late := s.deadlinePassed g.span || g.short
    let g1 : Segment := { g with acked := g.acked ++ [w], onTime := if late ∨ !g.witness.contains w then g.onTime else g.onTime ++ [w] }
    let (g2, i) := match fillSlot ⟨payload, if late then 2 else 1⟩ 0 g.acks with
      | some (i, l) => ({ g1 with acks := l }, some i)
      | none => (g1, none)
    let s1 := s.setSegment g2
    let s2 : State := match i with
      | some i =>
        if g.slotPos i < s.blocksWritten then { s1 with cart := { s1.cart with late := s1.cart.late ++ [(g.slotPos i, s.t.clock)] } }
        else s1
      | none => s1
    (s2.quorumMet g2).healthCheck

/-- WITNESS_ACKNOWLEDGEMENT (R567, R568, R570, R572). -/
def execWitnessAcknowledgement (f : RxFrame) (s : State) : Res :=
  rxRow 3 f (fun t b =>
    let w := f.hdr.src.toNat
    let key := match t.chain.peers.get none w with | some (k, _) => k | none => []
    match t.scribe.segments.find? (fun g => g.own && g.header.isSome && g.span == fieldAt b 0 6) with
    | none => t
    | some g =>
      if b.length = 160 ∧ fieldAt b 6 1 = t.chain.cfg.device ∧ fieldAt b 7 1 = 0 ∧ (t.chain.cfg.witness ++ g.witness).contains w
          ∧ slice b 16 32 = sha256 (g.header.getD []) ∧ sigOk key (slice b 0 64) (slice b 64 96) then t.takeAck g w b
      else t) s

/-! ### NAK, CATCHUP, ECHO (14 R566, R581, R596) -/

/-- NAK (R566): the range resent from the hot journal with FLAGS.RESENT. -/
def execNak (f : RxFrame) (s : State) : Res :=
  ctlRow 3 f (fun t b =>
    let w := f.hdr.src.toNat
    let first := fieldAt b 10 3
    let last := fieldAt b 13 3
    if fieldAt b 1 1 ≠ t.chain.cfg.device then t
    else
      match t.scribe.segments.find? (fun g => g.own && g.span == fieldAt b 4 6) with
      | none => t
      | some g => g.leaves.foldl (fun u (i, d) =>
          if first ≤ i ∧ i ≤ last then u.sendTo w 2 1 (recordEntry g.span i 1 (d.getD [])) else u) t) s

/-- CATCHUP (R596): backfill from the span the witness names. -/
def execCatchup (f : RxFrame) (s : State) : Res :=
  ctlRow 4 f (fun t b =>
    let w := f.hdr.src.toNat
    if fieldAt b 1 1 ≠ t.chain.cfg.device ∨ !t.chain.cfg.witness.contains w then t
    else
      let n := max 1 (fieldAt b 4 6)
      { t with chain := { t.chain with backfill := t.chain.backfill.set 0 w n, resend := t.chain.resend.set 0 w n } }) s

/-- ECHO (R581): the body returned unchanged. -/
def execEcho (f : RxFrame) (s : State) : Res :=
  ctlRow 1 f (fun t b => t.sendTo f.hdr.src.toNat 1 0 (2 :: b.drop 1)) s

/-! ### The latency check (14 R590) -/

/-- The largest round trip that passes at span length k. -/
def latencyLimit (k : Nat) : Nat := k * 440625 - 16000

/-- The port of a route under a configuration (14 R578, R598). -/
def State.routeUnder (s : State) (cfg : ChainCfg) (w : Nat) : Option Port :=
  ({ s with chain := { s.chain with cfg := cfg } } : State).route w

/-- The first witness with no MEMBER port on its route, and the primary port it names or 0xFFFF. -/
def State.unrouted (s : State) (cfg : ChainCfg) (ws : List Nat) : Option (Nat × Nat) :=
  (ws.find? (fun w => (s.routeUnder cfg w).isNone)).map (fun w =>
    let p := (cfg.routes.getD w 0x77).toNat % 8
    (w, if p < 4 then p else 0xFFFF))

/-- A witness over whose port more than two witness streams would run, with the port (14 R564): this device's own, and those of
the sources it witnesses. Log entry 104. -/
def State.overPaired (s : State) (cfg : ChainCfg) (ws : List Nat) : Option (Nat × Nat) :=
  ws.findSome? (fun w => match s.routeUnder cfg w with
    | some p => if ((ws ++ s.sources).filter (fun v => s.routeUnder cfg v == some p)).length > 2 then some (w, p.val) else none
    | none => none)

/-- One ECHO of 1,522 octets on the wire: 1,460 of payload, its ID the count left. -/
def State.sendEcho (s : State) (l : LatCheck) : State :=
  let body := padTo 1460 ([1, 0, 0, 0] ++ leBytes 4 l.left)
  let s1 : State := { s with chain := { s.chain with latency := some { l with sentAt := s.t.clock } } }
  match s.routeUnder l.cfg l.current with
  | some p => s1.sendOn p ⟨1, l.cfg.device, l.current, 8, 0, body⟩
  | none => s1

/-- A configuration put in force (14 R594, R598): ports disabled go down; those refused and those newly enabled train. -/
def State.applyConfig (s : State) (cfg : ChainCfg) : State :=
  let s1 : State := { s with chain := { s.chain with cfg := cfg } }
  allPorts.foldl (fun t p =>
    let q := t.port p
    if !t.portEnabled p then t.setPortSt p .down
    else if q.linkUp ∧ (q.st = .down ∨ q.st = .refused) then t.train p else t) s1

/-- What a passed check brings about, by the command it answers: CHAIN_CONFIG, WITNESS_SET from the next span, or
LATENCY_CHECK's figures. -/
def State.latencyPassed (s : State) (l : LatCheck) : State :=
  let s0 : State := { s with chain := { s.chain with latency := none } }
  match l.order with
  | none => s0
  | some d =>
    let fin := fun (t : State) (det jw : Nat) => t.complete (cmdCpl d stDONE det 0 (BitVec.ofNat 32 jw))
    if d.cls = 32 then fin (s0.applyConfig l.cfg) 0 0
    else if d.cls = 33 then fin { s0 with chain := { s0.chain with cfgNext := some (l.witness, l.quorum) } } 0 0
    else if l.witness.isEmpty then fin (s0.useFree 1) (Config.freeValue 44 s.freeCtr % 65536) (Config.freeValue 45 s.freeCtr % 2 ^ 32)
    else fin s0 l.worstPort (l.worst / 64)

/-- What a failed check brings about: the command is refused (R597), or source 130 and a trouble entry (R590). -/
def State.latencyFailed (s : State) (l : LatCheck) (port reason : Nat) : State :=
  let s0 : State := { s with chain := { s.chain with latency := none } }
  match l.order with
  | some d => s0.complete (cmdCpl d stCHAIN port 0 (BitVec.ofNat 32 reason))
  | none => (s0.trouble false 0x0032 7 0xFF ([octet l.current] ++ leBytes 4 l.worst)).raise 130
      (Config.freeValue 46 (port + 65536 * reason) % 65536)

/-- The next witness measured, or the end of the check. -/
def State.latencyNext (s : State) (l : LatCheck) : State :=
  match l.todo with
  | [] => s.latencyPassed l
  | w :: r => s.sendEcho { l with current := w, todo := r, left := 256 }

/-- A check begun for witnesses under a configuration: routes and the pairing condition first. -/
def State.latencyStart (s : State) (order : Option DevCmd) (cfg : ChainCfg) (ws : List Nat) (q : Nat) : State :=
  let l : LatCheck := ⟨order, cfg, ws, q, 0, 0, ws, s.t.clock, 0, 0⟩
  match s.unrouted cfg ws, s.overPaired cfg ws with
  | some (w, p), _ => s.latencyFailed { l with current := w } p 2
  | none, some (w, p) => s.latencyFailed { l with current := w } p 1
  | none, none => s.latencyNext l

/-- The ECHO that is out has had no reply within the largest round trip that passes: the check has failed, with the port it went
over or, where no port serves the witness any more, PORT_DOWN (R590, R599). -/
def State.latencyTick (s : State) : State :=
  match s.chain.latency with
  | none => s
  | some l =>
    if s.t.clock ≤ l.sentAt + latencyLimit s.t.k then s
    else match s.routeUnder l.cfg l.current with
      | some p => s.latencyFailed l p.val 1
      | none => s.latencyFailed l (((s.unrouted l.cfg [l.current]).map Prod.snd).getD 0xFFFF) 2

/-- ECHO_REPLY (R590): one round trip measured; the next ECHO, the next witness, or the end. -/
def execEchoReply (f : RxFrame) (s : State) : Res :=
  ctlRow 2 f (fun t b =>
    match t.chain.latency with
    | none => t
    | some l =>
      if f.hdr.src.toNat ≠ l.current ∨ fieldAt b 4 4 ≠ l.left then t
      else
        let rt := t.t.clock - l.sentAt
        let l1 : LatCheck := if rt > l.worst then { l with worst := rt, worstPort := f.port.val } else l
        if rt > latencyLimit t.t.k then t.latencyFailed l1 f.port.val 1
        else if l.left ≤ 1 then t.latencyNext l1
        else t.sendEcho { l1 with left := l.left - 1 }) s

/-- PERIODIC_LATENCY_CHECK (R590): every 4,096 spans, counted from the periodic check before. -/
def execPeriodicLatencyCheck (s : State) : Res :=
  if s.chain.latency.isSome ∨ s.chain.cfg.witness.isEmpty ∨ s.t.span < s.chain.checkAt then .next s
  else
    let t : State := { s with chain := { s.chain with checkAt := s.t.span + 4096 } }
    .next (t.latencyStart none s.chain.cfg s.chain.cfg.witness s.chain.cfg.quorum)

/-! ### Chain commands (14 R597 to R599) -/

/-- The configuration of a block (14 R598). -/
def cfgOf (o : Octets) : ChainCfg where
  chainId := BitVec.ofNat 32 (fieldAt o 0 4)
  device := fieldAt o 4 1
  quorum := fieldAt o 5 1
  master := fieldAt o 6 1
  portEn := BitVec.ofNat 4 (fieldAt o 7 1)
  portMode := BitVec.ofNat 4 (fieldAt o 8 1)
  witness := ((slice o 9 3).map BitVec.toNat).filter (fun x => x != 0)
  asym := [0, 1, 2, 3].map (fun i => (BitVec.ofNat 16 (fieldAt o (16 + 2 * i) 2)).toInt)
  routes := slice o 64 256

/-- Whether a list holds a value twice. -/
def hasDup : List Nat → Bool
  | [] => false
  | x :: r => r.contains x || hasDup r

/-- Whether a witness list breaks R563; the reason that R599 gives for that rule is SOURCES (log entry 104). -/
def badWitnesses (device : Nat) (ws : List Nat) : Bool := hasDup ws || ws.contains device

/-- Whether a block breaks R598. -/
def cfgBad (o : Octets) : Bool :=
  let c := cfgOf o
  let route := fun (b : Byte) => (b &&& 0x88) != 0 || !((b.toNat % 8 ≤ 3 || b.toNat % 8 == 7) && (b.toNat / 16 ≤ 3 || b.toNat / 16 == 7))
  fieldAt o 0 4 == 0 || outside c.device 1 254 || c.quorum > c.witness.length || c.master == 255 || fieldAt o 7 1 ≥ 16
    || fieldAt o 8 1 ≥ 16 || c.witness.any (fun w => w == 255) || !zeroAt o 12 4
    || c.asym.any (fun a => a < -1000 || 1000 < a) || !zeroAt o 24 40 || c.routes.any route
    || [0, 255, c.device].any (fun i => c.routes.getD i 0 != 0x77)

/-- CHAIN_CONFIG (R597, R598; R590): before the first span or in P2. Refused with ACTIVATION while an activation is in
progress (18 R733). -/
def execChainConfig (s : State) : Res :=
  match s.devCmd 32 with
  | none => .next s
  | some d =>
    match d.block with
    | none => .next s
    | some none =>
      let (t, e) := (s.dropCmd d).hostFail
      .next (t.complete (cmdCpl d e.status e.detail 0 0))
    | some (some o) =>
      if s.chain.latency.isSome then .next s
      else
        let t := s.dropCmd d
        let fin := fun (u : State) (e : CmdEnd) => Host.Outcome.next (u.complete (cmdCpl d e.status e.detail 0 (BitVec.ofNat 32 e.jobWord)))
        if t.activating then fin t (.refused 19)
        else if t.t.run ∧ t.power.st ≠ .p2 then fin t (.chain 0xFFFF 7)
        else if badWitnesses (cfgOf o).device (cfgOf o).witness then fin t (.chain 0xFFFF 8)
        else if cfgBad o then fin (t.useFree 1) (.chain 0xFFFF (t.openReason 47))
        else .next (t.latencyStart (some d) (cfgOf o) (cfgOf o).witness (cfgOf o).quorum)

/-- WITNESS_SET (R597, R563, R590). -/
def execWitnessSet (s : State) : Res :=
  match s.devCmd 33 with
  | none => .next s
  | some d =>
    if s.chain.latency.isSome then .next s
    else
      let t := s.dropCmd d
      let ws := ((slice d.desc 8 3).map BitVec.toNat).filter (fun x => x != 0)
      let fin := fun (u : State) (e : CmdEnd) => Host.Outcome.next (u.complete (cmdCpl d e.status e.detail 0 (BitVec.ofNat 32 e.jobWord)))
      if t.activating then fin t (.refused 19)
      else if badWitnesses t.chain.cfg.device ws then fin t (.chain 0xFFFF 8)
      else .next (t.latencyStart (some d) t.chain.cfg ws (fieldAt d.desc 11 1))

/-- LATENCY_CHECK (R590, R597). -/
def execLatencyCheck (s : State) : Res :=
  match s.devCmd 34 with
  | none => .next s
  | some d =>
    if s.chain.latency.isSome then .next s
    else .next ((s.dropCmd d).latencyStart (some d) s.chain.cfg s.chain.cfg.witness s.chain.cfg.quorum)

/-- JOURNAL_READ (R597): at most LEN octets; RES_BYTES the segment's length. NOT_HELD where the journal has it not. -/
def execJournalRead (s : State) : Res :=
  devRow 35 (fun d t =>
    match t.sealedSegment (fieldAt d.desc 14 1) (fieldAt d.desc 8 6) with
    | none => (t, .chain 0xFFFF 6)
    | some g =>
      let o := g.octets
      t.cmdWrite (fieldAt d.desc 16 8) (o.take (fieldAt d.desc 24 4)) { CmdEnd.done with resBytes := o.length }) s

/-- LEAF_PROOF (R597): a proof that would not lie within the window of CTRL_RING is not written (21 R813); a leaf that came
into the journal after the command was decided is so found here. -/
def execLeafProof (s : State) : Res :=
  devRow 36 (fun d t =>
    match t.leafProof (fieldAt d.desc 8 6) (fieldAt d.desc 14 3) with
    | none => (t, .chain 0xFFFF 6)
    | some o =>
      if !t.inCtrlWindow (fieldAt d.desc 24 8) o.length then (t, ⟨stBADFIELD, 24, 0, 0⟩)
      else t.cmdWrite (fieldAt d.desc 24 8) o .done) s

end Sys2Proof.Machine
end

