-- ==== Sys2Proof/Machine/Entry.lean ====
section
/-! DEFINITION. Taking an exception: faults, events, escalation, window traps, and the frame each writes
(09 R361 to R388, R393 to R400, R404). -/

namespace Sys2Proof.Machine

/-! ### Charging (09 R404, 02 R72) -/

/-- Cycles charged to a bank at a moment: CYCB counts down while CHARGE is on and stops at 0; a charged cycle at 0 is a
breach of its job, at which BUDGET becomes pending and, where it is the job's first, counts as taken (02 R72; 09 R405; log entry
113). -/
def Bank.chargeCyc (k : Bank) (now n : Nat) : Bank :=
  if k.charge then
    if n ≤ k.cycb.toNat then { k with cycb := BitVec.ofNat 32 (k.cycb.toNat - n) }
    else { k with
      cycb := 0, budgetDue := k.budgetDue || k.job.isSome
      budgetTaken := if k.job.isSome ∧ k.budgetTaken.isNone then some (now, 1) else k.budgetTaken }
  else k

/-- The bank that pays for what a bank executes: the served bank for a window trap's cycles (09 R404). -/
def Core.payer (k : Core) (b : BankId) : BankId :=
  if b = bankT ∧ (k.service = .wovf ∨ k.service = .wunf) then k.served else b

/-- Cycles a bank executes. -/
def State.charge (s : State) (c : CoreId) (b : BankId) (n : Nat) : State :=
  s.modBank c ((s.core c).payer b) (fun k => k.chargeCyc s.t.clock n)

/-! ### Frames (09 R378) -/

/-- The octets of an entry frame. -/
def frameOctets (tsw : W64) (e : Entering) (charge : Bool) : Octets :=
  leBytes 8 tsw.toNat ++ leBytes 4 e.savedPc.toNat ++ leBytes 2 e.vector ++ leBytes 2 e.cause.toNat
    ++ leBytes 4 e.addr.toNat ++ leBytes 4 e.xpc.toNat ++ leBytes 2 e.info.toNat
    ++ [octet ((if charge then 1 else 0) + (if e.isPartial then 2 else 0) + (if e.takenOver then 4 else 0)), 0]
    ++ leBytes 4 e.spanCyc.toNat

/-- DEPTH of a bank's TSB (09 R377). -/
def State.depth (s : State) (c : CoreId) (b : BankId) : Nat := fieldAt (s.tsbGet c b 0 1) 0 1

/-- The frame written at the bank's DEPTH, which rises by 1 (09 R382). -/
def State.pushFrame (s : State) (c : CoreId) (b : BankId) (f : Octets) : State :=
  let d := s.depth c b
  (s.tsbPut c b (128 + 32 * d) f).tsbPut c b 0 [octet (d + 1)]

/-- The TSW in force from an entry: MODE, KEY, MASK, FPM, DRM and BRM of the HDT entry, the rest kept (09 R382). -/
def entryTsw (old hdt : W64) : W64 :=
  setField (setField (setField (setField (setField (setField old 63 1 (getField hdt 63 1)) 59 4 (getField hdt 59 4))
    55 4 (getField hdt 55 4)) 51 2 (getField hdt 51 2)) 48 3 (getField hdt 48 3)) 46 2 (getField hdt 46 2)

/-! ### Bank T (09 R366, R393, R396 to R400) -/

/-- The pinned entry and source of a spill failure, bank T's service abandoned and the served bank frozen (09 R400). -/
def State.spillFail (s : State) (c : CoreId) (b : BankId) (vector cause : Nat) : State :=
  let k := s.bank c b
  let s1 := ((s.leaveScribe c bankT).tsbPut c bankT 0 [0]).modCore c (fun k => { k with tActive := false, entering := none })
  let s2 := (s1.trouble true 0x0011 3 c.val ([octet b.val] ++ leBytes 4 k.pc.toNat ++ leBytes 4 k.splp.toNat)).raiseOn c 5 0
  if b = 0 then s2.coreStop c b k.pc vector cause else s2.freezeFor c b vector

/-- Bank T entered at a vector for a served bank: frame with the served bank's PC and TSW, SERVED and SAVED_BWIN, bank
T's TSW and PC from the HDT entry, the bank window on the served bank (09 R382, R393, R396, R397). -/
def State.enterT (s : State) (c : CoreId) (b : BankId) (v : Nat) (sv : Service) (win : Nat) (e : Entering) : State :=
  let k := s.bank c b
  let h := s.hdt c v
  let s1 := s.pushFrame c bankT (frameOctets k.tsw e k.charge)
  let s2 := (s1.tsbPut c bankT 1 [octet b.val]).tsbPut c bankT 2 (leBytes 2 ((s.core c).bwin.toNat % 2048))
  s2.modCore c (fun kk =>
    { (kk.modBank bankT (fun t => { t with tsw := entryTsw t.tsw h.tsw, pc := BitVec.ofNat 32 h.handler })) with
      tActive := true, service := sv, served := b, loopOwner := kk.loopOwner
      bwin := BitVec.ofNat 32 (win * 256 + b.val) })

/-- Whether HDT entry v and bank T's TSB allow an entry into bank T. -/
def State.tEntryOk (s : State) (c : CoreId) (v : Nat) : Bool :=
  s.hdtFrameOk c v && (s.hdt c v).ok v 0 && s.tsbOk c bankT

/-- Whether an entry delivers the pending float record of its bank, which it then clears (07 R310, R312). -/
def Entering.record (e : Entering) : Bool := e.kind == .fault && e.vector == 8 && e.cause.getLsbD 8

/-- The escalation of R393: reason, and the escalated fault's vector, cause and address. A machine check that escalates is
delivered by it (R371). -/
def State.escalate (s : State) (c : CoreId) (b : BankId) (reason : Nat) (e : Entering) : State :=
  let k := s.core c
  if k.tActive then
    if k.service = .esc then s.coreStop c bankT e.savedPc e.vector e.cause.toNat else s.spillFail c k.served e.vector e.cause.toNat
  else if !s.tEntryOk c 15 then s.coreStop c b e.savedPc e.vector e.cause.toNat
  else
    let f : Entering := { e with vector := 15, cause := BitVec.ofNat 16 reason, xpc := e.cause.setWidth 32, info := BitVec.ofNat 16 e.vector }
    let s1 := s.modCore c (fun k => { (k.modBank b (fun v => { v with
        pc := e.savedPc, lastFault := (e.vector, e.cause.toNat), deferred := none, fpt := if e.record then none else v.fpt })) with
      entering := none, mcheck := if e.kind = .mcheck then none else k.mcheck })
    s1.enterT c b 15 .esc (tswCwp (s.bank c b).tsw) f

/-- A blank entry of a bank at its PC. -/
def mkEntering (s : State) (c : CoreId) (b : BankId) (kind : EntryKind) (vector cause : Nat) : Entering :=
  ⟨kind, b, vector, BitVec.ofNat 16 cause, 0, 0, 0, (s.bank c b).pc, false, false, s.spanCyc32, false⟩

/-- A window trap of a bank: WOVF's check of SPLP and SPLL, then bank T, charged to the served bank (09 R365, R396 to
R399, R404). A bad HDT entry or TSB escalates (09 R388). -/
def State.windowTrap (s : State) (c : CoreId) (b : BankId) (overflow : Bool) : State :=
  let k := s.bank c b
  let v := if overflow then 10 else 11
  let e := mkEntering s c b .fault v 0
  if overflow ∧ k.splp.toNat + 256 > k.spll.toNat then s.spillFail c b v 0
  else if !s.hdtFrameOk c v || !(s.hdt c v).ok v 0 then s.escalate c b 3 e
  else if !s.tsbOk c bankT then s.escalate c b 4 e
  else
    let win := if overflow then (tswCwp k.tsw + 2) % 6 else (tswCwp k.tsw + 5) % 6
    (s.enterT c b v (if overflow then .wovf else .wunf) win e).charge c bankT 14

/-! ### Entry into a bank (09 R382 to R388) -/

/-- The level of what is entered (09 R361, R371, R374). -/
def entryLevel (k : Core) (e : Entering) : Nat :=
  match e.kind with
  | .event => sourceLevel k (e.vector - 64)
  | .mcheck => 14
  | _ => 12

/-- Whether an entry leaves CHARGE as it is and is charged: every fault but BUDGET (09 R404). -/
def Entering.keepsCharge (e : Entering) : Bool := (e.kind == .fault && e.vector != 9) || e.kind == .vfault

/-- The last cycles of an entry: the window, the TSW, the PC, CHARGE and the pending bit (09 R382, R404). -/
def State.finishEntry (s : State) (c : CoreId) (e : Entering) : State :=
  let h := s.hdt c e.vector
  let keep := e.keepsCharge
  let s1 := if keep then s.charge c e.bank 14 else s
  s1.modCore c (fun k =>
    let k1 := (k.advance e.bank).modBank e.bank (fun w =>
      { w with
        tsw := entryTsw w.tsw h.tsw, pc := BitVec.ofNat 32 h.handler
        charge := keep && w.charge
        lastFault := if e.kind = .fault ∨ e.kind = .vfault ∨ e.kind = .budget then (e.vector, e.cause.toNat) else w.lastFault
        fpt := if e.record then none else w.fpt
        heldBudget := if e.kind = .budget then w.heldBudget.drop 1 else w.heldBudget
        budgetTaken := if e.kind = .budget ∧ w.budgetTaken.isNone then some (s.t.clock, e.cause.toNat) else w.budgetTaken
        heldV := if e.kind = .vfault then w.heldV.drop 1 else w.heldV })
    { k1 with
      entering := none, loaded := none
      mcheck := if e.kind = .mcheck then none else k1.mcheck
      pend := if e.kind = .event then k1.pend.filter (fun p => p.src != e.vector - 64) else k1.pend })

/-- An entry carried through: the checks of R388, the frame, the spill of R386 where five windows are valid, the rest. -/
def State.runEntry (s : State) (c : CoreId) (e : Entering) : State :=
  let k := s.core c
  let bk := k.bank e.bank
  if !s.hdtFrameOk c e.vector || !(s.hdt c e.vector).ok e.vector (entryLevel k e) then s.escalate c e.bank 3 e
  else if !s.tsbOk c e.bank then s.escalate c e.bank 4 e
  else if !e.atC7 && s.depth c e.bank ≥ 4 then s.escalate c e.bank 2 e
  else
    let s1 := if e.atC7 then s else s.pushFrame c e.bank (frameOctets bk.tsw e bk.charge)
    if tswWval bk.tsw = 5 then
      (s1.modCore c (fun k => { k with entering := some { e with atC7 := true } })).windowTrap c e.bank true
    else s1.finishEntry c e

/-- A synchronous fault or machine check handled by its bank's MASK (09 R363, R371, R394, R400). -/
def State.enterFault (s : State) (c : CoreId) (e : Entering) : State :=
  let k := s.core c
  let mask := tswMask (k.bank e.bank).tsw
  if e.bank = bankT then
    if e.kind = .fault ∧ k.service ≠ .esc then s.spillFail c k.served e.vector e.cause.toNat
    else s.coreStop c bankT e.savedPc e.vector e.cause.toNat
  else if mask = 15 then s.coreStop c e.bank e.savedPc e.vector e.cause.toNat
  else if mask ≥ entryLevel k e then s.escalate c e.bank 1 e
  else s.runEntry c e

/-- A fault latched by the instruction that met it: the entry begins (09 R382 C0) and the ENTRY step carries it
through; nothing else of the instruction happens (04 R154, 05 R204). -/
def State.latch (s : State) (c : CoreId) (b : BankId) (vector cause : Nat) (addr : W32) (info : Nat) : State :=
  let e : Entering := { mkEntering s c b .fault vector cause with addr := addr, info := BitVec.ofNat 16 info }
  s.modCore c (fun k => { k with entering := some e })

/-- The machine check that waits for a bank (09 R371). -/
def Core.mcheckOf (k : Core) (b : BankId) : Option MCheckPend := k.mcheck.filter (fun m => m.bank == b)

/-- The entry of a machine check into its bank (09 R371, R380, R381). -/
def mcheckEntry (s : State) (c : CoreId) (b : BankId) (m : MCheckPend) : Entering :=
  { mkEntering s c b .mcheck 68 4 with addr := m.addr, info := m.octets, isPartial := m.isPartial }

/-- What is due at the boundary of the running bank: a machine check, a held fault or an event, leaving out one source. Of
events and the machine check, source 4 at level 14, the highest level goes first, then the lowest number (09 R369, R371); a
held fault goes before an event of level 12 and after one above it (R364). -/
def dueEntry (s : State) (c : CoreId) (b : BankId) (skip : Option Nat) : Option Entering :=
  let k := s.core c
  let bk := k.bank b
  let mask := tswMask bk.tsw
  let ev := bestPending { k with pend := k.pend.filter (fun p => some p.src != skip) } b mask true
  let evLevel := match ev with | some p => sourceLevel k p.src | none => 0
  let evE := ev.map (fun p => mkEntering s c b .event (64 + p.src) p.detail)
  let evFirst := match ev with | some p => evLevel = 15 || (evLevel = 14 && p.src < 4) | none => false
  match (if skip = some 4 then none else k.mcheckOf b) with
  | some m => if evFirst then evE else some (mcheckEntry s c b m)
  | none =>
    if mask < 12 ∧ evLevel ≤ 12 then
      match bk.heldBudget, bk.heldV with
      | r :: _, _ => some (mkEntering s c b .budget 9 r)
      | [], v :: _ => some { mkEntering s c b .vfault 12 v.cause with addr := v.addr, xpc := v.handle }
      | [], [] => evE
    else evE

/-- A machine check that arises on a core: for the bank that executes, or bank 0 where none does, which leaves BLOCKED for
it (09 R371, R401). One already pending is kept (R368). -/
def State.raiseMcheck (s : State) (c : CoreId) (m : BankId → MCheckPend) : State :=
  let k := s.core c
  if k.mcheck.isSome then s
  else
    let b := k.current.getD 0
    (s.modCore c (fun k => { (if (k.bank b).st = .blocked then k.modBank b (fun v => v.makeReady s.t.clock) else k) with
      mcheck := some (m b) })).probationFail 3

/-! ### Takeover (09 R384) -/

/-- Whether an entry may be taken over by a source of a level: above the old MASK and above the level being entered; a fault
whose mask escalates it or stops the core is none. -/
def Entering.yields (e : Entering) (k : Core) (level : Nat) : Bool :=
  let mask := tswMask (k.bank e.bank).tsw
  e.bank != bankT && !k.tActive && level > mask && level > entryLevel k e
    && !((e.kind == .fault || e.kind == .mcheck) && mask ≥ entryLevel k e)

/-- The fields of an entry replaced by those of what takes it over; the frame slot, the saved PC and TSW and the window are
kept. -/
def Entering.takenBy (e f : Entering) : Entering :=
  { e with
    kind := f.kind, vector := f.vector, cause := f.cause, addr := f.addr, xpc := f.xpc, info := f.info
    isPartial := f.isPartial, takenOver := true }

/-- An entry taken over; a frame already written gets the new fields. -/
def State.takeOver (s : State) (c : CoreId) (e f : Entering) : State :=
  let g := e.takenBy f
  let s1 := s.modCore c (fun k => { k with entering := some g })
  if e.atC7 then
    let bk := s.bank c e.bank
    s1.tsbPut c e.bank (128 + 32 * (s.depth c e.bank - 1)) (frameOctets bk.tsw g bk.charge)
  else s1

/-- A machine check that has arisen for the bank of an entry takes that entry over where it may. -/
def State.mcheckOver (s : State) (c : CoreId) (e : Entering) : State :=
  match (s.core c).mcheckOf e.bank with
  | some m => if e.yields (s.core c) 14 then s.takeOver c e (mcheckEntry s c e.bank m) else s
  | none => s

/-- The same for the entry in progress. -/
def State.mcheckTakeover (s : State) (c : CoreId) : State :=
  match (s.core c).entering with
  | some e => s.mcheckOver c e
  | none => s

/-! ### Bank switches due (09 R402) -/

/-- A bank's priority (R402). -/
def Core.priority (k : Core) (b : BankId) : Nat :=
  if b = 0 then 7 else match (k.bank b).job with | some j => j.job.cert.bankPri | none => 0

/-- Whether a bank comes before another in R402's choice: priority, bank 0, READY longest, lowest number. -/
def Core.before (k : Core) (a b : BankId) : Bool :=
  k.priority a > k.priority b ||
    (k.priority a == k.priority b &&
      (a == 0 || (b != 0 && ((k.bank a).readySince < (k.bank b).readySince ||
        ((k.bank a).readySince == (k.bank b).readySince && a < b)))))

/-- The READY bank the scheduler considers (R402). -/
def Core.candidate (k : Core) : Option BankId :=
  (taskBanks.filter (fun b => (k.bank b).st == .ready)).foldl
    (fun best b => match best with
      | none => some b
      | some a => if k.before b a then some b else best) none

/-- The bank R402 switches to now, if any. -/
def Core.switchTo (k : Core) : Option BankId :=
  if k.tActive ∨ k.entering.isSome then none
  else
    match k.candidate, k.running with
    | none, _ => none
    | some b, none => some b
    | some b, some r => if k.priority b > k.priority r ∨ (b = 0 ∧ r ≠ 0) then some b else none

/-- An entry carried through by its kind. -/
def State.carry (s : State) (c : CoreId) (e : Entering) : State :=
  if e.kind = .fault ∨ e.kind = .mcheck then s.enterFault c e else s.runEntry c e

/-- The ENTRY step (09 R382): a machine check in bank T stops the core (R371); an entry begun is carried through; otherwise
whatever is due at the boundary of the bank that executes is entered, but for a bank switch that is due there (R402). -/
def State.entryStep (s0 : State) (c : CoreId) : State :=
  if ((s0.core c).mcheckOf bankT).isSome then s0.coreStop c bankT (s0.bank c bankT).pc 68 4
  else
  let s := s0.mcheckTakeover c
  let k := s.core c
  match k.entering with
  | some e => if k.tActive ∧ e.bank ≠ bankT then s else s.carry c e
  | none =>
    match k.current with
    | none => s
    | some b =>
      if b = bankT ∨ k.switchTo.isSome then s
      else
        match (k.bank b).deferred with
        | some cause => s.escalate c b cause (mkEntering s c b .event 72 0)
        | none =>
          match dueEntry s c b none with
          | none => s
          | some e => s.carry c e

/-- The TAKEOVER step (09 R384): an event of a level above the old MASK and above the level being entered takes over the
entry that has begun, or the one that is due. Source 4 is the machine check. -/
def State.takeoverStep (s : State) (c : CoreId) (src : Nat) : State :=
  let k := s.core c
  let cand : Option Entering := match k.entering with
    | some e => some e
    | none => match k.running with
      | some b => if k.tActive ∨ k.switchTo.isSome then none else dueEntry s c b (some src)
      | none => none
  match cand with
  | none => s
  | some e =>
    if src = 4 then s.mcheckOver c e
    else
    match k.pend.find? (fun p => p.src == src && p.bank == e.bank) with
    | none => s
    | some p =>
      if (k.ev.get EvCopy.zero src).wake ∨ !e.yields k (sourceLevel k src) then s
      else s.takeOver c e (mkEntering s c e.bank .event (64 + src) p.detail)

end Sys2Proof.Machine
end

