-- ==== Sys2Proof/Machine/Operands.lean ====
section
/-! DEFINITION. Operands of ledger-core instructions: register operands and their tag checks (04 R153 to R158, R825),
memory operands and their protection, alignment and tag checks (05 R184 to R191, R195, R226 to R228), and the issue of an
instruction: fetch permission, the scoreboard, traps, the loop step and the charge (05 R188, R205; 06 R247; 09 R404). -/

namespace Sys2Proof.Machine

/-- How an instruction does not complete: a precise fault (09 R361: vector, cause, address, INFO of R380); held in OP or
blocked with nothing changed (05 R205); or a window trap, whose entry into bank T is the step's whole effect (09 R365). -/
inductive Trap where
  | fault (vector cause : Nat) (addr : W32) (info : Nat)
  | hold
  | become (s : State)
  deriving Repr

/-- How an instruction completes: the state, its cycles, the branch target if it branches, whether it has set PC itself, the
octets of storage a machine check may leave part-written: address and number (07 R290, 08 R349), and the register it has loaded
from bench memory (05 R203). -/
structure Done where
  s      : State
  cost   : Nat
  target : Option W32
  ownPc  : Bool
  wrote  : Nat × Nat
  loaded : Option (Fin 104)

/-- What an instruction does. -/
abbrev Act := Except Trap Done

/-- Completion that falls through. -/
def finish (s : State) (cost : Nat) : Act := .ok ⟨s, cost, none, false, (0, 0), none⟩

/-- Completion by a taken branch. -/
def jumpTo (s : State) (t : W32) (cost : Nat) : Act := .ok ⟨s, cost, some t, false, (0, 0), none⟩

/-- Completion that has set PC itself. -/
def settled (s : State) (cost : Nat) : Act := .ok ⟨s, cost, none, true, (0, 0), none⟩

/-- A completion that wrote n octets of storage at an address. -/
def wrote (addr n : Nat) (r : Act) : Act := r.map (fun d => { d with wrote := (addr, n) })

/-- A completion that loaded a register from an address: a bench load's value is there one cycle later, a bay load's in time (05
R203, R210). -/
def loading (slot : Fin 104) (addr : Nat) (r : Act) : Act := r.map (fun d => { d with loaded := if isBay addr then none else some slot })

/-- RI, PRIV and the other vectors of 09 R361. -/
def riTrap : Trap := .fault 1 0 0 0
def privTrap : Trap := .fault 2 0 0 0
def tagTrap (cause info : Nat) : Trap := .fault 3 cause 0 info
def tagTrapAt (cause : Nat) (addr : W32) (info : Nat) : Trap := .fault 3 cause addr info
def protTrap (cause addr info : Nat) : Trap := .fault 4 cause (BitVec.ofNat 32 addr) info
def alignTrap (cause addr : Nat) : Trap := .fault 5 cause (BitVec.ofNat 32 addr) 0
def budgetTrap (cause : Nat) : Trap := .fault 9 cause 0 0

/-- A condition that must hold. -/
def need (p : Bool) (t : Trap) : Except Trap Unit := if p then .ok () else .error t

/-! ### Register operands -/

/-- Whether a register slot of a bank has a long-unit result in flight (05 R205). -/
def Core.inFlight (k : Core) (b : BankId) (i : Fin 104) : Bool := k.port.any (fun e => e.bank == b && e.slot == some i)

/-- Whether a register cannot yet be read: a result is in flight, or the instruction before has loaded it from bench memory (05
R203, R205). -/
def Core.unread (k : Core) (b : BankId) (i : Fin 104) : Bool := k.inFlight b i || k.loaded == some (b, i)

/-- A register read by the executing bank; one that cannot yet be read holds the instruction (05 R203, R205). -/
def readReg (s : State) (c : CoreId) (b : BankId) (r : Reg) : Except Trap TVal :=
  let k := s.core c
  if k.unread b ((k.bank b).slot b r) then .error .hold else .ok ((k.bank b).reg b r)

/-- The destination register: a pending result holds the instruction (05 R205). -/
def destReg (s : State) (c : CoreId) (b : BankId) (r : Reg) : Except Trap Unit :=
  let k := s.core c
  need (!k.inFlight b ((k.bank b).slot b r)) .hold

/-- The operands in the order encoded: their INFO number (09 R380: 1 d, 2 a, 3 b), the tags accepted, the value. -/
structure Opnd where
  info   : Nat
  accept : List (BitVec 4)
  v      : TVal

/-- One operand's tag fault (04 R155, R157, R825). -/
def Opnd.check (o : Opnd) : Except Trap Unit :=
  if reservedTag o.v.tag then .error (tagTrap 2 o.info)
  else if !o.accept.contains o.v.tag then .error (tagTrap 1 o.info)
  else if malformed o.v then .error (tagTrap 3 o.info)
  else .ok ()

/-- POISONED of a value met in a register (04 R156, 09 R380). -/
def poisonTrap (v : TVal) : Trap := .fault 13 (bits v.val 0 8) 0 0

/-- The tag checks of an instruction's register operands: POISONED first, then in the order encoded (04 R156, R157). -/
def checkOpnds (l : List Opnd) : Except Trap Unit :=
  match l.find? (fun o => o.v.tag == tPOISON) with
  | some o => .error (poisonTrap o.v)
  | none => l.forM Opnd.check

/-- Every tag but POISON and the reserved ones. -/
def anyTag : List (BitVec 4) := [0, 1, 2, 3, 4, 5, 6, 7, 8, 9, 0xA]

/-- Any tag, without the payload check (04 R159: a copy carries the tag unchanged). -/
def checkAny (info : Nat) (v : TVal) : Except Trap Unit :=
  if v.tag = tPOISON then .error (poisonTrap v)
  else if reservedTag v.tag then .error (tagTrap 2 info)
  else .ok ()

/-! ### Memory operands -/

/-- The fields of a REF (04 R136). -/
def refBase (v : Payload) : Nat := bits v 0 32
def refLen (v : Payload) : Nat := bits v 32 32
def refKey (v : Payload) : BitVec 4 := v.extractLsb' 64 4
def refWrite (v : Payload) : Bool := v.getLsbD 68
def refRead (v : Payload) : Bool := v.getLsbD 69

/-- An access as its base register gives it (05 R185 to R187): the base, the offset, whether through a REF. -/
structure Access where
  base  : TVal
  off   : Int
  acc   : Acc
  key   : BitVec 4
  super : Bool

/-- The access a base register and an offset make in a bank. -/
def mkAccess (k : Bank) (base : TVal) (off : Int) (acc : Acc) : Access :=
  if base.tag = tREF then ⟨base, off, acc, refKey base.val, false⟩
  else ⟨base, off, acc, tswKey k.tsw, tswMode k.tsw⟩

/-- Its address before any check. -/
def Access.addr (x : Access) : Int :=
  (if x.base.tag = tREF then (refBase x.base.val : Int) else (x.base.val.toNat : Int)) + x.off

/-- The PROT cause of the part from octet o on, m octets long, of an access of n octets: the lowest of R195. The bounds
and the rights of a REF are those of the whole access (05 R187). A BIN sum outside 32 bits names no address, so that RANGE
is all it meets; a sum within them is UNMAPPED before it is RANGE. -/
def State.partCause (s : State) (c : CoreId) (x : Access) (n o m : Nat) : Option Nat :=
  let a := x.addr + o
  if x.base.tag = tREF then
    let inMap := 0 ≤ a && (locOf a.toNat).isSome && (locOf (a.toNat + m - 1)).isSome
    let right := if x.acc = .store then refWrite x.base.val else refRead x.base.val
    if !inMap then some 1
    else if x.off < 0 ∨ x.off + n > refLen x.base.val then some 3
    else if !right then some 4
    else s.accCause c a.toNat x.acc x.key x.super
  else if x.addr < 0 ∨ x.addr ≥ 2 ^ 32 then some 2
  else if (locOf a.toNat).isNone ∨ (locOf (a.toNat + m - 1)).isNone then some 1
  else if x.base.val.toNat ≥ 2 ^ 32 then some 2
  else s.accCause c a.toNat x.acc x.key x.super

/-- The parts of an access by granule: offset and length (05 R227). -/
def halves (addr n : Nat) : List (Nat × Nat) :=
  let r := 16 - addr % 16
  if n ≤ r then [(0, n)] else [(0, r), (r, n - r)]

/-- The lowest cause of several parts, at the first part that meets it (05 R195). -/
def lowestCause (l : List (Nat × Nat)) : Option (Nat × Nat) :=
  l.foldl (fun best p => match best with
    | none => some p
    | some q => if p.1 < q.1 then some p else some q) none

/-- Why an access of n octets, up to 16, is refused, and the octet refused: between the halves of a split access the lower
half's cause (05 R227, R228), otherwise the lowest cause of the whole access (05 R195). -/
def State.accessRefusal (s : State) (c : CoreId) (x : Access) (n : Nat) : Option (Nat × Nat) :=
  let found := (halves (x.addr % 16).toNat n).filterMap (fun (o, m) => (s.partCause c x n o m).map (fun k => (k, o)))
  if n < 16 then found.head? else lowestCause found

/-- An access checked for mapping, bounds, rights, key and frame; the address it reaches. -/
def State.checkAccess (s : State) (c : CoreId) (x : Access) (n : Nat) : Except Trap Nat :=
  let a := x.addr
  match s.accessRefusal c x n with
  | some (k, o) => .error (protTrap k (((a + o) % (2 ^ 32 : Int)).toNat) x.acc.info)
  | none => .ok a.toNat

/-- The tag fault of a granule met in memory: the tags accepted, the operand number (04 R156, R160; 09 R380). -/
def granFault (v : TVal) (addr : Nat) (accept : List (BitVec 4)) (info : Nat) : Option Trap :=
  if v.tag = tPOISON then some (.fault 13 (bits v.val 0 8) (BitVec.ofNat 32 addr) 0)
  else if reservedTag v.tag then some (tagTrapAt 2 (BitVec.ofNat 32 addr) info)
  else if !accept.contains v.tag then some (tagTrapAt 1 (BitVec.ofNat 32 addr) info)
  else none

/-- The POISONED fault of a granule met in memory (04 R156; 09 R380). -/
def poisonFault (v : TVal) (addr : Nat) : Option Trap :=
  if v.tag = tPOISON then some (.fault 13 (bits v.val 0 8) (BitVec.ofNat 32 addr) 0) else none

/-- The granule tag checks of an access: POISONED of either half first, then the lower half's tag fault (04 R157; 05 R228). -/
def State.checkGrans (s : State) (c : CoreId) (addr n : Nat) (accept : List (BitVec 4)) (info : Nat) : Except Trap Unit :=
  let parts := halves addr n
  match (parts.findSome? (fun (o, _) => poisonFault (s.gran c (addr + o)) (addr + o))).orElse
      (fun _ => parts.findSome? (fun (o, _) => granFault (s.gran c (addr + o)) (addr + o) accept info)) with
  | some t => .error t
  | none => .ok ()

/-- A partial store refuses POISON granules, and meets no other tag check (04 R161). -/
def State.checkStore (s : State) (c : CoreId) (addr n : Nat) : Except Trap Unit :=
  match (halves addr n).find? (fun (o, _) => (s.gran c (addr + o)).tag == tPOISON) with
  | some (o, _) => .error (.fault 13 (bits (s.gran c (addr + o)).val 0 8) (BitVec.ofNat 32 (addr + o)) 0)
  | none => .ok ()

/-! ### Errors met by reads (12 R496 to R499) -/

/-- What the error correction finds at the granule of an address. -/
def foundAt (errs : Errs) (addr : Nat) : Ecc := ((errs.find? (fun e => e.1 / 16 == addr / 16)).map Prod.snd).getD .clean

/-- The granules at some addresses read: each error found is corrected and counted, or leaves POISON (12 R497, R498). -/
def State.findErrors (s : State) (c : CoreId) (errs : Errs) (addrs : List Nat) : State :=
  addrs.foldl (fun t a => t.eccGran c (a / 16 * 16) (foundAt errs a)) s

/-- Checks made on a state that the error correction may have changed: their fault is latched on that state. -/
def faultOn {α : Type} (c : CoreId) (k : BankId) (t : State) (r : Except Trap α) : Except Trap α :=
  match r with
  | .error (.fault v cause addr info) => .error (.become (t.latch c k v cause addr info))
  | r => r

/-- The tags a load of octets accepts (04 R160). -/
def octetTags : List (BitVec 4) := [tRAW, tBIN, tB64]

/-- A base register: BIN or REF (05 R185). -/
def baseOk (info : Nat) (v : TVal) : Opnd := ⟨info, [tBIN, tREF], v⟩

/-- The octets of memory from an access already checked. -/
def State.loadNat (s : State) (c : CoreId) (addr n : Nat) : Nat := leNat (s.octets c addr n)

/-! ### Issue -/

/-- The address field END of LEND, and the loop's first word (06 R245). -/
def lendEnd (l : W32) : Nat := getField (l.setWidth 64) 2 17 * 4
def lendStart (l : W32) : Nat := lendEnd l - 4 * getField (l.setWidth 64) 20 6

/-- Whether a bank's hardware loop runs and is not suspended (06 R247). -/
def Bank.loopLive (k : Bank) : Bool :=
  k.lend.getLsbD 31 && k.lend.getLsbD 30 == tswMode k.tsw && getField (k.lend.setWidth 64) 26 4 == tswMask k.tsw
    && getField (k.lend.setWidth 64) 0 2 == 0

/-- Whether the loop buffer holds the whole body of a bank's loop (05 R218). -/
def Core.ownsLoop (k : Core) (b : BankId) : Bool := k.loopOwner == some (b, true)

/-- A bank's loop leaves the loop buffer (05 R218, R221). -/
def Core.dropLoop (k : Core) (b : BankId) : Core :=
  { k with loopOwner := if k.loopOwner.any (fun o => o.1 == b) then none else k.loopOwner }

/-- The loop buffer at a step back to a body's first instruction: an iteration captured from its first word on is held
whole; otherwise the iteration that begins is captured. A bank that does not execute, or plain mode, changes nothing (05 R218;
log entry 20). -/
def Core.captured (k : Core) (b : BankId) : Option (BankId × Bool) :=
  if k.serviceMode && k.current == some b then some (b, k.loopOwner.any (fun o => o.1 == b)) else k.loopOwner

/-- LEND with ACT cleared. -/
def lendOff (l : W32) : W32 := l &&& 0x7FFFFFFF

/-- The fetch permission of a word at the PC (05 R188, R189). -/
def State.fetchCause (s : State) (c : CoreId) (b : BankId) (addr : Nat) : Option Nat :=
  let t := (s.bank c b).tsw
  if addr ≥ 2 ^ 32 then some 1 else s.accCause c addr .fetch (tswKey t) (tswMode t)

/-- An instruction completed: PC moves on, the loop step or the end of the loop (06 R247, R248), the charge (09 R404).
`words` is the instruction's length; its last word's address is compared with END. A taken branch within a body that issues
from the loop buffer costs its not-taken count and 1, which is its taken count less 1, the branch itself lying in the body
(05 R219; 06 R240; 07 R303); one that ends the loop leaves the buffer empty (05 R218). -/
def State.retire (s0 : State) (c : CoreId) (b : BankId) (words : Nat) (d : Done) : State :=
  let pc := (s0.bank c b).pc
  let s := d.s
  let k := s.bank c b
  let inBuf := (s.core c).ownsLoop b && (lendStart k.lend ≤ pc.toNat && pc.toNat ≤ lendEnd k.lend)
  if d.ownPc then s.charge c b d.cost
  else
    match d.target with
    | some t =>
      let inside := lendStart k.lend ≤ t.toNat && t.toNat ≤ lendEnd k.lend
      let cost := if k.loopLive && inside && inBuf && (s.core c).serviceMode then d.cost - 1 else d.cost
      let s1 := s.modBank c b (fun k => { k with
        pc := t, lend := if k.loopLive && !inside then lendOff k.lend else k.lend })
      (if k.loopLive && !inside then s1.modCore c (fun k => k.dropLoop b) else s1).charge c b cost
    | none =>
      let last := pc.toNat + 4 * (words - 1)
      if k.loopLive && last == lendEnd k.lend then
        let n := k.lcnt - 1
        let s1 := s.modBank c b (fun k =>
          if n = 0 then { k with lcnt := n, lend := lendOff k.lend, pc := BitVec.ofNat 32 (lendEnd k.lend + 4) }
          else { k with lcnt := n, pc := BitVec.ofNat 32 (lendStart k.lend) })
        let s2 := s1.modCore c (fun kk => { kk with
          loopOwner := if n = 0 then (kk.dropLoop b).loopOwner else kk.captured b })
        s2.charge c b d.cost
      else (s.modBank c b (fun k => { k with pc := pc + BitVec.ofNat 32 (4 * words) })).charge c b d.cost

/-- The instruction at a bank's PC completed with a number of cycles: PC past it, the loop step taken. -/
def State.stepOver (s : State) (c : CoreId) (b : BankId) (cost : Nat) : State := s.retire c b 1 ⟨s, cost, none, false, (0, 0), none⟩

/-- A WAIT ends: its condition has come, so that the bank goes on after it (06 R262; 09 R401, R406). -/
def State.endWait (s : State) (c : CoreId) (b : BankId) : State :=
  (s.stepOver c b 0).modBank c b (fun v => v.makeReady s.t.clock)

/-- Whether an entry in progress keeps the core from issuing: any but one that waits at C7 while bank T spills for it
(09 R386). -/
def Core.entryHolds (k : Core) : Bool :=
  match k.entering with
  | none => false
  | some e => !(k.tActive && e.atC7 && e.bank != bankT)

/-- The bank that issues on a core, if the core runs and no entry is in progress (09 R366, R394, R410). -/
def Core.issuer (k : Core) : Option BankId := if k.able && !k.entryHolds then k.current else none

/-- The debug capabilities in force (17 R693): D2 on a SEALED device in P0 or P1 acts as D1, and TRST_N ends every level. -/
def State.debugCap (s : State) : Nat :=
  if s.sec.trstLow then 0
  else if s.sec.dbgLevel = 2 ∧ s.sec.life = .sealed ∧ (s.power.st = .p0 ∨ s.power.st = .p1) then 1
  else s.sec.dbgLevel

/-- A breakpoint of the debug port at an address, taken as BREAK (17 R679). -/
def State.breakAt (s : State) (c : CoreId) (pc : W32) : Bool := s.debugCap ≥ 2 && s.sec.breaks.contains (c, pc)

/-- The register that the last instruction of a core has loaded from bench memory, which an instruction after it finds ready (05
R203). -/
def State.setLoaded (s : State) (c : CoreId) (o : Option (BankId × Fin 104)) : State :=
  if (s.core c).loaded = o then s else s.modCore c (fun k => { k with loaded := o })

/-- A single step of a halted core taken (17 R679). -/
def State.endStep (s : State) (c : CoreId) : State := if (s.core c).step then s.modCore c (fun k => { k with step := false }) else s

/-- An instruction issues on a core's executing bank at its PC. Nothing happens where no bank executes; an instruction
held in OP executes a cycle and nothing else (05 R203, R205, R225; 09 R404; log entry 10); a fetch that is not permitted takes
PROT (05 R188, R189, R200); a fault is latched; otherwise the instruction completes. -/
def issueW (c : CoreId) (words : Nat) (body : State → BankId → Act) (s : State) : Res :=
  match (s.core c).issuer with
  | none => .next s
  | some b =>
    let pc := (s.bank c b).pc
    match (s.fetchCause c b pc.toNat).orElse (fun _ => if words = 2 then s.fetchCause c b (pc.toNat + 4) else none) with
    | some cause => .next ((s.latch c b 4 cause pc 3).endStep c)
    | none =>
      if s.breakAt c pc then .next ((s.latch c b 14 0 0 0).endStep c)
      else
        match body s b with
        | .error .hold => .next ((s.charge c b 1).setLoaded c none)
        | .error (.become t) => .next (t.endStep c)
        | .error (.fault v cause addr info) => .next ((s.latch c b v cause addr info).endStep c)
        | .ok d => .next (((s.retire c b words d).endStep c).setLoaded c (d.loaded.map (fun i => (b, i))))

/-- A one-word instruction. -/
def issue (c : CoreId) (body : State → BankId → Act) (s : State) : Res := issueW c 1 body s

/-- Whether a bank has a result in flight. -/
def State.resultsDue (s : State) (c : CoreId) (b : BankId) : Bool := (s.core c).port.any (fun e => e.bank == b)

/-- Whether a bank has a float result in flight: an entry that may carry flags (07 R313, R314). Binary divisions bring
none and are told apart by their tag BIN. -/
def State.floatsDue (s : State) (c : CoreId) (b : BankId) : Bool :=
  (s.core c).port.any (fun e => e.bank == b && e.val.tag != tBIN)

/-- The FPT cause of a pending record: its trapping flags in bits [4:2] and bit 8 (07 R312). -/
def FptRec.cause (r : FptRec) : Nat := (r.flags &&& 0x1C).toNat + 256

/-- A pending imprecise record is delivered as FPT before a delivery point executes, where MODE and MASK are those of the
record (07 R310). The entry clears the record when it delivers it: an entry taken over leaves it, so that the instruction takes the
trap again (09 R384). -/
def deliverNow (s : State) (c : CoreId) (b : BankId) : Except Trap Unit :=
  let k := s.core c
  match (k.bank b).fpt with
  | none => .ok ()
  | some r =>
    if r.mode = tswMode (k.bank b).tsw ∧ r.mask.toNat = tswMask (k.bank b).tsw then
      let e : Entering := { mkEntering s c b .fault 8 r.cause with xpc := r.pc }
      .error (.become (s.modCore c (fun k => { k with entering := some e })))
    else .ok ()

/-- A serializing instruction waits for every result of its bank in flight, then delivers a pending record (05 R224,
07 R310). -/
def deliver (s : State) (c : CoreId) (b : BankId) : Except Trap Unit := do
  need (!s.resultsDue c b) .hold
  deliverNow s c b

/-- Supervisor mode is needed (06: "sup"). -/
def needSuper (s : State) (c : CoreId) (b : BankId) : Except Trap Unit := need (tswMode (s.bank c b).tsw) privTrap

/-- A PC plus 4. -/
def nextPc (s : State) (c : CoreId) (b : BankId) : W32 := (s.bank c b).pc + 4

end Sys2Proof.Machine
end

