-- ==== Sys2Proof/Machine/Lve.lean ====
section
/-! DEFINITION. The long-vector engine's steps: a chain enters the queue, starts, and ends DONE, FAULTED or STOPPED
(10 R412 to R419, R440 to R450). -/

namespace Sys2Proof.Machine

/-- Whether a chain was issued before another by the same bank, by SEQ counted back from the bank's present count
(10 R416). -/
def State.issuedBefore (s : State) (x y : ChainEnt) : Bool :=
  x.core == y.core && x.bank == y.bank &&
    ((s.bank x.core x.bank).chainSeq - x.handle.extractLsb' 16 16).toNat
      > ((s.bank y.core y.bank).chainSeq - y.handle.extractLsb' 16 16).toNat

/-- Whether a queued chain is held: an earlier chain of its bank is FAULTED, or resumed and not yet back in the queue
(10 R449). -/
def State.chainHeld (s : State) (x : ChainEnt) : Bool :=
  s.chainList.any (fun (_, y) => s.issuedBefore y x && (y.st == .faulted || !y.entered))

/-- VFAULT held in the issuing bank (10 R445, R446). -/
def State.holdVfault (s : State) (x : ChainEnt) (f : ChainFault) : State :=
  (s.modBank x.core x.bank (fun k => { k with
    heldV := k.heldV ++ [⟨f.cause + 256 * f.detail, BitVec.ofNat 32 f.addr, x.handle⟩] })).wakeHeld x.core x.bank

/-- The fault fields of a descriptor: STATE 4, FSTAGE, FCAUSE, FDETAIL, FPOS, FADDR (10 R445). -/
def State.putFault (s : State) (x : ChainEnt) (f : ChainFault) : State :=
  s.engPut x.core (x.addr.toNat + 69)
    ([4, octet f.stage, octet f.cause, octet f.detail, 0, 0, 0] ++ leBytes 4 f.pos ++ leBytes 8 (f.addr % 2 ^ 48)
      ++ leBytes 4 x.cycles ++ zeros 4)

/-- A chain set FAULTED, its entry kept (10 R445). -/
def State.faultChain (s : State) (e : Nat) (x : ChainEnt) (f : ChainFault) : State :=
  let y := { x with st := .faulted, fault := some f }
  (((s.setChainEnt e (some y)).putFault y f).updateVpos y).holdVfault y f

/-- The address FADDR gets where a fault has no element address: log entry 32. -/
def freeAddr (s : State) : Nat := Config.freeValue 92 s.freeCtr % 2 ^ 48

/-- CHAIN_ENQUEUE (R417): the chains enter in the order of their VCHAIN or VRESUME; a resumed chain takes its place
before its bank's held chains (10 R447). -/
def execChainEnqueue (entry : Fin 64) (s : State) : Res :=
  match s.chainEnt entry.val with
  | none => .next s
  | some x =>
    if x.entered ∨ x.st ≠ .queued ∨ s.chainList.any (fun (_, y) => !y.entered && y.st == .queued && y.place < x.place) then
      .next s
    else
      let later := (s.chainList.filter (fun (_, y) => y.entered && y.st == .queued && s.issuedBefore x y)).map (fun (_, y) => y.place)
      let at_ := later.foldl min s.lve.nextPlace
      let moved : State := s.chainList.foldl (fun t (e, y) =>
        if y.place ≥ at_ ∧ y.entered then t.setChainEnt e (some { y with place := y.place + 1 }) else t) s
      .next { moved with lve := { (moved.setChainEnt entry.val (some { x with entered := true, place := at_ })).lve with
        nextPlace := s.lve.nextPlace + 1 } }

/-- Cycles left before the first cycle of the next post, in the plate and the sill (10 R419): the plate as its guard has been
steered (02 R41), and the next sill at its span's length (02 R37). -/
def State.toPost (s : State) : Option Nat :=
  match s.t.phase with
  | .sill => some (s.t.k * 15625 - s.t.cyc)
  | .plate => some (((spanCycles s.t.k : Int) + s.t.corr - s.t.cyc).toNat + s.t.lenNext.getD s.t.k * 15625)
  | _ => none

/-- Whether R419 lets a chain start now. -/
def State.bank0May (s : State) (x : ChainEnt) : Bool :=
  x.bank != 0 || (match s.toPost with | some n => (progOf x.desc).cost x.pos ≤ n | none => false)

/-- The first chain of a list in the order in which they stand in the queue. -/
def firstPlace (l : List (Nat × ChainEnt)) : Option (Nat × ChainEnt) :=
  l.foldl (fun best p => match best with
    | none => some p
    | some q => if p.2.place < q.2.place then some p else some q) none

/-- The chain that starts next (10 R412): the first of the queue that is not held; where R419 does not let that one start, the
first chain of a job behind it. -/
def State.nextChain (s : State) : Option (Nat × ChainEnt) :=
  let l := s.chainList.filter (fun (_, x) => x.entered && x.st == .queued && !s.chainHeld x)
  match firstPlace l with
  | none => none
  | some p => if s.bank0May p.2 then some p else firstPlace (l.filter (fun (_, x) => x.bank != 0))

/-- The running chain. -/
def State.running (s : State) : Option (Nat × ChainEnt) := s.chainList.find? (fun (_, x) => x.st == .running)

/-- CHAIN_START (R412). -/
def execChainStart (s : State) : Res :=
  match s.running, s.nextChain with
  | none, some (e, x) =>
    let y := { x with st := .running, start := x.pos, since := s.t.clock, fault := none }
    .next ((s.setChainEnt e (some y)).putChainState y 2)
  | _, _ => .next s

/-- The vector cycles a chain's job has left; none where the chain is charged to no job (10 R441). -/
def State.vecLeft (s : State) (x : ChainEnt) : Option Nat :=
  match (s.bank x.core x.bank).job with
  | some j => if x.bank = 0 ∨ x.job ≠ some j.job.id then none else some (j.job.cert.vecCyc - j.vecUsed)
  | none => none

/-- Whether the job's VEC_CYC covers a running chain's cost. -/
def State.vecCovers (s : State) (x : ChainEnt) : Bool :=
  match s.vecLeft x with
  | some n => (progOf x.desc).cost x.start ≤ n
  | none => true

/-- CHAIN_DONE (R440): the run of the running chain ends with every element processed; `corrected` of its reads found an error
that was corrected (12 R497). -/
def execChainDone (corrected : Nat) (s : State) : Res :=
  match s.running with
  | none => .next s
  | some (e, x) =>
    if !s.vecCovers x then .next s
    else
      let r := runChain s x none none
      match r.fault with
      | some _ => .next s
      | none =>
        let (s1, y) := s.takeRun x r ((progOf x.desc).cost x.start)
        .next (((s1.freeChain e y 3).putCycles y).correctedN corrected)

/-- The state after an uncorrectable error (12 R498) in a granule of octets that a chain may read: the `g`-th of those that hold
the `n` octets from an address on. -/
def State.granEcc (s : State) (x : ChainEnt) (hbm : Bool) (a : Int) (n g : Nat) : State :=
  if (accessRefused s x.ctx hbm a n .load).isSome then s
  else match (granAddrs a.toNat n)[g]? with
    | some b => s.poisonAt hbm b
    | none => s

/-- The same in element `i` of a stream. -/
def State.streamEcc (s : State) (x : ChainEnt) (t : Stream) (i g : Nat) : State :=
  match elemAddr s x.ctx t i with
  | .ok a => s.granEcc x t.hbm a (esize t.etype) g
  | .error _ => s

/-- The addresses a run reads in its start-up: ACC's element, TALLY's bins (11 R474, R476). -/
def Prog.zReads (p : Prog) : List Nat := if p.zkind = 2 ∧ p.zop < 128 then [] else p.zAddrs

/-- What an uncorrectable error does before the run meets it, and the element of an error in the engine's buffers. -/
def State.chainEcc (s : State) (x : ChainEnt) (ecc : Option ChainEcc) : State × Option Nat :=
  let p := progOf x.desc
  let stream := fun (w : ChainStream) => match w with | .a => some p.sa | .b => if p.bEn then some p.sb else none | .z => some p.sz
  match ecc with
  | none => (s, none)
  | some (.element .z i g) =>
    (match p.zReads[i]? with | some a => s.granEcc x p.sz.hbm a (esize p.sz.etype) g | none => s, none)
  | some (.element w i g) => (match stream w with | some t => s.streamEcc x t i g | none => s, none)
  | some (.index w i g) =>
    (match stream w with
      | some t => if t.form = 3 then s.granEcc x t.ihbm (t.aux + i * t.iwidth : Nat) t.iwidth g else s
      | none => s, none)
  | some (.buffer i) => (s, some i)

/-- CHAIN_FAULTED (R445): the running chain met a fault; it ends its strip and its drain. -/
def execChainFaulted (ecc : Option ChainEcc) (corrected : Nat) (s : State) : Res :=
  match s.running with
  | none => .next s
  | some (e, x) =>
    if !s.vecCovers x then .next s
    else
      let (s0, buf) := s.chainEcc x ecc
      let r := runChain s0 x buf none
      match r.fault with
      | none => .next s
      | some (i, g, f) =>
        let (s1, y) := s0.takeRun x r ((progOf x.desc).cost x.start)
        .next (((s1.faultChain e y ⟨g, f.cause, f.detail, i, f.addr.getD (freeAddr s)⟩).useFree 1).correctedN corrected)

/-- CHAIN_STOPPED (R441): the job's VEC_CYC is used up; the chain ends in that cycle and BUDGET is held with cause 2. -/
def execChainStopped (corrected : Nat) (s : State) : Res :=
  match s.running with
  | none => .next s
  | some (e, x) =>
    match s.vecLeft x with
    | none => .next s
    | some n =>
      if (progOf x.desc).cost x.start ≤ n then .next s
      else .next (((s.stopChain e x n).holdBudget x.core x.bank 2).correctedN corrected)

/-- WAIT_CHAINS_RELEASE (R417). -/
def execWaitChainsRelease (c : CoreId) (b : BankId) (s : State) : Res :=
  let k := s.bank c b
  let idle := s.chainList.all (fun (_, x) => !(x.core == c && x.bank == b && x.st != .faulted))
  if k.st = .blocked ∧ k.wait = some .chains ∧ idle then .next (s.endWait c b) else .next s

end Sys2Proof.Machine
end

