-- ==== Sys2Proof/Machine/Scalar.lean ====
section
/-! DEFINITION. Integer arithmetic, logical and shift instructions (06 R232 to R236). The acts have names of their own
because RPT repeats some of them (06 R252). -/

namespace Sys2Proof.Machine

/-- A form A instruction of two register operands: tag checks, then d := f a b. -/
def alu2 (accept : List (BitVec 4)) (cost : Nat) (f : TVal → TVal → TVal) (c : CoreId) (d a b : Reg)
    (s : State) (k : BankId) : Act := do
  let x ← readReg s c k a
  let y ← readReg s c k b
  destReg s c k d
  checkOpnds [⟨2, accept, x⟩, ⟨3, accept, y⟩]
  finish (s.setReg c k d (f x y)) cost

/-- An instruction of one register operand: tag check, then d := f a. -/
def alu1 (accept : List (BitVec 4)) (cost : Nat) (f : TVal → TVal) (c : CoreId) (d a : Reg) (s : State) (k : BankId) :
    Act := do
  let x ← readReg s c k a
  destReg s c k d
  checkOpnds [⟨2, accept, x⟩]
  finish (s.setReg c k d (f x)) cost

/-- A BIN result. -/
def bin (v : Payload) : TVal := ⟨tBIN, v⟩

/-- A sign-extended 14-bit immediate. -/
def immS (imm : BitVec 14) : Payload := imm.signExtend 128

/-- A zero-extended 14-bit immediate. -/
def immZ (imm : BitVec 14) : Payload := imm.setWidth 128

def actAdd : CoreId → Reg → Reg → Reg → State → BankId → Act := alu2 [tBIN] 1 (fun x y => bin (x.val + y.val))
def actSub : CoreId → Reg → Reg → Reg → State → BankId → Act := alu2 [tBIN] 1 (fun x y => bin (x.val - y.val))
def actMul : CoreId → Reg → Reg → Reg → State → BankId → Act := alu2 [tBIN] 4 (fun x y => bin (x.val * y.val))

/-- The high 128 bits of the signed product (06 R232). -/
def mulHigh (x y : Payload) : Payload := ((x.signExtend 256 * y.signExtend 256) >>> 128).setWidth 128

def actMulh : CoreId → Reg → Reg → Reg → State → BankId → Act := alu2 [tBIN] 4 (fun x y => bin (mulHigh x.val y.val))

/-- A copy: any tag, the payload unchecked (04 R156, R159, R825). -/
def actMov (c : CoreId) (d a : Reg) (s : State) (k : BankId) : Act := do
  let x ← readReg s c k a
  destReg s c k d
  checkAny 2 x
  finish (s.setReg c k d x) 1

def actAddi (c : CoreId) (d a : Reg) (imm : BitVec 14) : State → BankId → Act :=
  alu1 [tBIN] 1 (fun x => bin (x.val + immS imm)) c d a

def actMovi (c : CoreId) (d : Reg) (imm : BitVec 14) (s : State) (k : BankId) : Act := do
  destReg s c k d
  finish (s.setReg c k d (bin (immS imm))) 1

def actAddis (c : CoreId) (d a : Reg) (imm : BitVec 14) : State → BankId → Act :=
  alu1 [tBIN] 1 (fun x => bin (x.val + immS imm <<< 16)) c d a

/-- A division sent to the divide unit; a zero divisor takes DZERO cause 2 before dispatch (06 R234, R235; 05 R208). The
result goes to the completion port. -/
def actDivide (f : Payload → Payload → Payload) (c : CoreId) (d a b : Reg) (s : State) (k : BankId) : Act := do
  let x ← readReg s c k a
  let y ← readReg s c k b
  destReg s c k d
  checkOpnds [⟨2, [tBIN], x⟩, ⟨3, [tBIN], y⟩]
  need (y.val != 0) (.fault 7 2 0 0)
  let e : PortEntry := ⟨k, some ((s.bank c k).slot k d), bin (f x.val y.val), 0, none⟩
  finish (s.modCore c (fun kk => { kk with port := kk.port ++ [e] })) 1

/-! ### Logical and shift -/

/-- RAW or BIN. -/
def rawBin : List (BitVec 4) := [tRAW, tBIN]

/-- BIN if every operand is BIN, otherwise RAW (04 R163, 06 R236). -/
def logicTag (x y : TVal) : BitVec 4 := if x.tag = tBIN ∧ y.tag = tBIN then tBIN else tRAW

/-- A logical instruction. -/
def logic2 (f : Payload → Payload → Payload) : CoreId → Reg → Reg → Reg → State → BankId → Act :=
  alu2 rawBin 1 (fun x y => ⟨logicTag x y, f x.val y.val⟩)

/-- A logical instruction with an immediate. -/
def logicI (f : Payload → Payload) : CoreId → Reg → Reg → State → BankId → Act :=
  alu1 rawBin 1 (fun x => ⟨x.tag, f x.val⟩)

/-- The amount of a shift: b[6:0]. -/
def amount (y : Payload) : Nat := y.toNat % 128

def actAnd : CoreId → Reg → Reg → Reg → State → BankId → Act := logic2 (fun x y => x &&& y)
def actOr : CoreId → Reg → Reg → Reg → State → BankId → Act := logic2 (fun x y => x ||| y)
def actXor : CoreId → Reg → Reg → Reg → State → BankId → Act := logic2 (fun x y => x ^^^ y)
def actAndn : CoreId → Reg → Reg → Reg → State → BankId → Act := logic2 (fun x y => x &&& ~~~ y)
def actSll : CoreId → Reg → Reg → Reg → State → BankId → Act := logic2 (fun x y => x <<< amount y)
def actSrl : CoreId → Reg → Reg → Reg → State → BankId → Act := logic2 (fun x y => x >>> amount y)
def actSra : CoreId → Reg → Reg → Reg → State → BankId → Act := logic2 (fun x y => x.sshiftRight (amount y))

/-- The number of 1 bits. -/
def popcount (x : Payload) : Nat := ((List.range 128).filter (fun i => x.getLsbD i)).length

def actPopc : CoreId → Reg → Reg → State → BankId → Act := alu1 rawBin 1 (fun x => binNat (popcount x.val))

def actSlli (c : CoreId) (d a : Reg) (n : BitVec 7) : State → BankId → Act := logicI (fun x => x <<< n.toNat) c d a
def actSrli (c : CoreId) (d a : Reg) (n : BitVec 7) : State → BankId → Act := logicI (fun x => x >>> n.toNat) c d a
def actSrai (c : CoreId) (d a : Reg) (n : BitVec 7) : State → BankId → Act := logicI (fun x => x.sshiftRight n.toNat) c d a
def actAndi (c : CoreId) (d a : Reg) (imm : BitVec 14) : State → BankId → Act := logicI (fun x => x &&& immZ imm) c d a
def actOri (c : CoreId) (d a : Reg) (imm : BitVec 14) : State → BankId → Act := logicI (fun x => x ||| immZ imm) c d a
def actXori (c : CoreId) (d a : Reg) (imm : BitVec 14) : State → BankId → Act := logicI (fun x => x ^^^ immZ imm) c d a

/-! ### The meanings -/

/-- ADD (R232). -/
def execAdd (c : CoreId) (d a b : Reg) (s : State) : Res := issue c (actAdd c d a b) s
/-- SUB (R232). -/
def execSub (c : CoreId) (d a b : Reg) (s : State) : Res := issue c (actSub c d a b) s
/-- MUL (R232, R234). -/
def execMul (c : CoreId) (d a b : Reg) (s : State) : Res := issue c (actMul c d a b) s
/-- MULH (R232, R234). -/
def execMulh (c : CoreId) (d a b : Reg) (s : State) : Res := issue c (actMulh c d a b) s
/-- DIV (R232, R233, R235). -/
def execDiv (c : CoreId) (d a b : Reg) (s : State) : Res := issue c (actDivide (fun x y => x.sdiv y) c d a b) s
/-- REM (R232, R233, R235). -/
def execRem (c : CoreId) (d a b : Reg) (s : State) : Res := issue c (actDivide (fun x y => x.srem y) c d a b) s
/-- MOV (R232). -/
def execMov (c : CoreId) (d a : Reg) (s : State) : Res := issue c (actMov c d a) s
/-- ADDI (R232). -/
def execAddi (c : CoreId) (d a : Reg) (imm : BitVec 14) (s : State) : Res := issue c (actAddi c d a imm) s
/-- MOVI (R232). -/
def execMovi (c : CoreId) (d : Reg) (imm : BitVec 14) (s : State) : Res := issue c (actMovi c d imm) s
/-- ADDIS (R232). -/
def execAddis (c : CoreId) (d a : Reg) (imm : BitVec 14) (s : State) : Res := issue c (actAddis c d a imm) s
/-- AND (R236). -/
def execAndR (c : CoreId) (d a b : Reg) (s : State) : Res := issue c (actAnd c d a b) s
/-- OR (R236). -/
def execOrR (c : CoreId) (d a b : Reg) (s : State) : Res := issue c (actOr c d a b) s
/-- XOR (R236). -/
def execXorR (c : CoreId) (d a b : Reg) (s : State) : Res := issue c (actXor c d a b) s
/-- ANDN (R236). -/
def execAndn (c : CoreId) (d a b : Reg) (s : State) : Res := issue c (actAndn c d a b) s
/-- SLL (R236). -/
def execSll (c : CoreId) (d a b : Reg) (s : State) : Res := issue c (actSll c d a b) s
/-- SRL (R236). -/
def execSrl (c : CoreId) (d a b : Reg) (s : State) : Res := issue c (actSrl c d a b) s
/-- SRA (R236). -/
def execSra (c : CoreId) (d a b : Reg) (s : State) : Res := issue c (actSra c d a b) s
/-- POPC (R236). -/
def execPopc (c : CoreId) (d a : Reg) (s : State) : Res := issue c (actPopc c d a) s
/-- SLLI (R236). -/
def execSlli (c : CoreId) (d a : Reg) (n : BitVec 7) (s : State) : Res := issue c (actSlli c d a n) s
/-- SRLI (R236). -/
def execSrli (c : CoreId) (d a : Reg) (n : BitVec 7) (s : State) : Res := issue c (actSrli c d a n) s
/-- SRAI (R236). -/
def execSrai (c : CoreId) (d a : Reg) (n : BitVec 7) (s : State) : Res := issue c (actSrai c d a n) s
/-- ANDI (R236). -/
def execAndi (c : CoreId) (d a : Reg) (imm : BitVec 14) (s : State) : Res := issue c (actAndi c d a imm) s
/-- ORI (R236). -/
def execOri (c : CoreId) (d a : Reg) (imm : BitVec 14) (s : State) : Res := issue c (actOri c d a imm) s
/-- XORI (R236). -/
def execXori (c : CoreId) (d a : Reg) (imm : BitVec 14) (s : State) : Res := issue c (actXori c d a imm) s

end Sys2Proof.Machine
end

