-- ==== Sys2Proof/Machine/Memory.lean ====
section
/-! DEFINITION. Loads and stores (06 R237 to R239), with what the error correction finds at the granules a load reads (12
R496 to R499). -/

namespace Sys2Proof.Machine

/-- The documented cycles of a load or store: bench or bay, and 2 more for a split access (06 R237, 05 R210, R227). -/
def memCost (addr n : Nat) : Nat := (if isBay addr then 24 else 1) + (if addr % 16 + n > 16 then 2 else 0)

/-- An n-octet number as a BIN, zero- or sign-extended. -/
def extend (sgn : Bool) (n v : Nat) : TVal :=
  if sgn ∧ v ≥ 2 ^ (8 * n - 1) then bin (BitVec.ofInt 128 ((v : Int) - 2 ^ (8 * n))) else binNat v

/-- LD1 to LD8S: base and address checked, granules checked, d := n octets (04 R160). -/
def actLoad (n : Nat) (sgn : Bool) (c : CoreId) (d base : Reg) (disp : BitVec 14) (errs : Errs) (s : State) (k : BankId) :
    Act := do
  let x ← readReg s c k base
  destReg s c k d
  checkOpnds [baseOk 2 x]
  let addr ← s.checkAccess c (mkAccess (s.bank c k) x disp.toInt .load) n
  let t := s.findErrors c errs (granAddrs addr n)
  faultOn c k t (t.checkGrans c addr n octetTags 4)
  loading ((s.bank c k).slot k d) addr (finish (t.setReg c k d (extend sgn n (t.loadNat c addr n))) (memCost addr n))

/-- LDG: a whole granule, tag and payload (04 R159). -/
def actLdg (c : CoreId) (d base : Reg) (disp : BitVec 14) (errs : Errs) (s : State) (k : BankId) : Act := do
  let x ← readReg s c k base
  destReg s c k d
  checkOpnds [baseOk 2 x]
  let addr ← s.checkAccess c (mkAccess (s.bank c k) x disp.toInt .load) 16
  need (addr % 16 == 0) (alignTrap 1 addr)
  let t := s.findErrors c errs [addr]
  faultOn c k t (t.checkGrans c addr 16 anyTag 4)
  loading ((s.bank c k).slot k d) addr (finish (t.setReg c k d (t.gran c addr)) (memCost addr 16))

/-- LDU8: 8 octets at base, then base := base + displacement; d equal to base takes RI (06 R239). -/
def actLdu8 (c : CoreId) (d base : Reg) (disp : BitVec 14) (errs : Errs) (s : State) (k : BankId) : Act := do
  need (d != base) riTrap
  let x ← readReg s c k base
  destReg s c k d
  checkOpnds [⟨2, [tBIN], x⟩]
  let addr ← s.checkAccess c (mkAccess (s.bank c k) x 0 .load) 8
  let t := s.findErrors c errs (granAddrs addr 8)
  faultOn c k t (t.checkGrans c addr 8 octetTags 4)
  loading ((s.bank c k).slot k d) addr
    (finish ((t.setReg c k d (extend false 8 (t.loadNat c addr 8))).setReg c k base (bin (x.val + immS disp))) (memCost addr 8))

/-- ST1 to ST8: the low n octets of s stored (04 R161). -/
def actStore (n : Nat) (accept : List (BitVec 4)) (c : CoreId) (src base : Reg) (disp : BitVec 14) (s : State)
    (k : BankId) : Act := do
  let v ← readReg s c k src
  let x ← readReg s c k base
  checkOpnds [⟨1, accept, v⟩, baseOk 2 x]
  let addr ← s.checkAccess c (mkAccess (s.bank c k) x disp.toInt .store) n
  s.checkStore c addr n
  finish (s.setOctets c addr (leBytes n v.val.toNat)) (memCost addr n)

/-- The tag conditions of a copied source register and of other operands: POISONED first (04 R157), the copied operand
with any tag. -/
def checkCopy (v : TVal) (info : Nat) (rest : List Opnd) : Except Trap Unit := do
  need (!(v.tag == tPOISON)) (poisonTrap v)
  need (!rest.any (fun o => o.v.tag == tPOISON)) (poisonTrap ((rest.find? (fun o => o.v.tag == tPOISON)).map (·.v) |>.getD v))
  checkAny info v
  checkOpnds rest

/-- STG: s stored whole, tag and payload; it replaces a POISON granule (12 R500). -/
def actStg (c : CoreId) (src base : Reg) (disp : BitVec 14) (s : State) (k : BankId) : Act := do
  let v ← readReg s c k src
  let x ← readReg s c k base
  checkCopy v 1 [baseOk 2 x]
  let addr ← s.checkAccess c (mkAccess (s.bank c k) x disp.toInt .store) 16
  need (addr % 16 == 0) (alignTrap 1 addr)
  finish (s.setGran c addr v) (memCost addr 16)

/-- The tags ST8 and STU8 accept. -/
def st8Tags : List (BitVec 4) := [tRAW, tBIN, tB64]

/-- STU8: as ST8 at base, then base := base + displacement; the old value of the register is stored (06 R239). -/
def actStu8 (c : CoreId) (src base : Reg) (disp : BitVec 14) (s : State) (k : BankId) : Act := do
  let v ← readReg s c k src
  let x ← readReg s c k base
  checkOpnds [⟨1, st8Tags, v⟩, ⟨2, [tBIN], x⟩]
  let addr ← s.checkAccess c (mkAccess (s.bank c k) x 0 .store) 8
  s.checkStore c addr 8
  finish ((s.setOctets c addr (leBytes 8 v.val.toNat)).setReg c k base (bin (x.val + immS disp))) (memCost addr 8)

/-- LD1 (R237). -/
def execLd1 (c : CoreId) (d base : Reg) (disp : BitVec 14) (errs : Errs) (s : State) : Res := issue c (actLoad 1 false c d base disp errs) s
/-- LD2 (R237). -/
def execLd2 (c : CoreId) (d base : Reg) (disp : BitVec 14) (errs : Errs) (s : State) : Res := issue c (actLoad 2 false c d base disp errs) s
/-- LD4 (R237). -/
def execLd4 (c : CoreId) (d base : Reg) (disp : BitVec 14) (errs : Errs) (s : State) : Res := issue c (actLoad 4 false c d base disp errs) s
/-- LD8 (R237). -/
def execLd8 (c : CoreId) (d base : Reg) (disp : BitVec 14) (errs : Errs) (s : State) : Res := issue c (actLoad 8 false c d base disp errs) s
/-- LD1S (R237). -/
def execLd1s (c : CoreId) (d base : Reg) (disp : BitVec 14) (errs : Errs) (s : State) : Res := issue c (actLoad 1 true c d base disp errs) s
/-- LD2S (R237). -/
def execLd2s (c : CoreId) (d base : Reg) (disp : BitVec 14) (errs : Errs) (s : State) : Res := issue c (actLoad 2 true c d base disp errs) s
/-- LD4S (R237). -/
def execLd4s (c : CoreId) (d base : Reg) (disp : BitVec 14) (errs : Errs) (s : State) : Res := issue c (actLoad 4 true c d base disp errs) s
/-- LD8S (R237). -/
def execLd8s (c : CoreId) (d base : Reg) (disp : BitVec 14) (errs : Errs) (s : State) : Res := issue c (actLoad 8 true c d base disp errs) s
/-- LDG (R237). -/
def execLdg (c : CoreId) (d base : Reg) (disp : BitVec 14) (errs : Errs) (s : State) : Res := issue c (actLdg c d base disp errs) s
/-- LDU8 (R239). -/
def execLdu8 (c : CoreId) (d base : Reg) (disp : BitVec 14) (errs : Errs) (s : State) : Res := issue c (actLdu8 c d base disp errs) s
/-- ST1 (R237). -/
def execSt1 (c : CoreId) (src base : Reg) (disp : BitVec 14) (s : State) : Res := issue c (actStore 1 rawBin c src base disp) s
/-- ST2 (R237). -/
def execSt2 (c : CoreId) (src base : Reg) (disp : BitVec 14) (s : State) : Res := issue c (actStore 2 rawBin c src base disp) s
/-- ST4 (R237). -/
def execSt4 (c : CoreId) (src base : Reg) (disp : BitVec 14) (s : State) : Res := issue c (actStore 4 rawBin c src base disp) s
/-- ST8 (R237). -/
def execSt8 (c : CoreId) (src base : Reg) (disp : BitVec 14) (s : State) : Res := issue c (actStore 8 st8Tags c src base disp) s
/-- STG (R237). -/
def execStg (c : CoreId) (src base : Reg) (disp : BitVec 14) (s : State) : Res := issue c (actStg c src base disp) s
/-- STU8 (R239). -/
def execStu8 (c : CoreId) (src base : Reg) (disp : BitVec 14) (s : State) : Res := issue c (actStu8 c src base disp) s

end Sys2Proof.Machine
end

