-- ==== Sys2Proof/Machine/Branch.lean ====
section
/-! DEFINITION. Branches, calls, windows, hardware loops (06 R240 to R250). -/

namespace Sys2Proof.Machine

/-- The target of a branch with a word displacement (05 R197). A sum outside 32 bits wraps: log entry 20. -/
def relTarget (pc : W32) (disp : Int) : W32 := pc + BitVec.ofInt 32 (4 * disp)

/-- The conditions of CB (06 R241). -/
def cbHolds (cond : Fin 8) (a b : Payload) : Bool :=
  match cond with
  | 0 => a == b
  | 1 => a != b
  | 2 => a.slt b
  | 3 => !a.slt b
  | 4 => a.ult b
  | 5 => !a.ult b
  | 6 => a &&& b != 0
  | 7 => a &&& b == 0

/-- A register target of JR, CALLR and RET: BIN, in 32 bits, a multiple of 4, else taken precisely at the branch (06
R243; protection before alignment, 04 R158). `info` is the operand's number; RET's W15 has none. Log entry 20. -/
def regTarget (s : State) (c : CoreId) (k : BankId) (a : Reg) (info : Nat) : Except Trap W32 := do
  let x ← readReg s c k a
  checkOpnds [⟨info, [tBIN], x⟩]
  need (x.val.toNat < 2 ^ 32) (protTrap 2 (x.val.toNat % 2 ^ 32) 3)
  need (x.val.toNat % 4 == 0) (alignTrap 2 x.val.toNat)
  return x.val.setWidth 32

/-- W15's code (05 R168). -/
def regW15 : Reg := 23

/-- Whether an instruction at the PC lies inside the body of a running loop: LEND.ACT is 1 while a loop is running (06 R245,
R248). -/
def Bank.inBody (k : Bank) : Bool := k.lend.getLsbD 31 && lendStart k.lend ≤ k.pc.toNat && k.pc.toNat ≤ lendEnd k.lend

/-- CALL and CALLR (06 R240, R244): RI in bank T and inside a running loop's body, WOVF with five windows valid. -/
def actCall (target : State → CoreId → BankId → Except Trap W32) (c : CoreId) (s : State) (k : BankId) : Act := do
  let bk := s.bank c k
  need (k != bankT) riTrap
  need (!bk.inBody) riTrap
  let t ← target s c k
  need (tswWval bk.tsw != 5) (.become (s.windowTrap c k true))
  settled ((s.advance c k).modBank c k (fun v => { v.setReg k regW15 (bin ((bk.pc + 4).setWidth 128)) with pc := t })) 3

/-- RET (06 R240, R243, R244). -/
def actRet (c : CoreId) (s : State) (k : BankId) : Act := do
  need (k != bankT) riTrap
  let t ← regTarget s c k regW15 0
  need (tswWval (s.bank c k).tsw != 1) (.become (s.windowTrap c k false))
  jumpTo (s.modBank c k Bank.retreat) t 3

/-- LEND's value when a loop starts (06 R245, R246). -/
def mkLend (tsw : W64) (endAddr len : Nat) : W32 :=
  BitVec.ofNat 32 (2 ^ 31 + (if tswMode tsw then 2 ^ 30 else 0) + tswMask tsw * 2 ^ 26 + len % 64 * 2 ^ 20
    + endAddr / 4 % 2 ^ 17 * 4)

/-- The loop buffer when a loop starts: in service mode its first iteration is captured, and what the buffer held goes (05
R218, R221; log entry 20). -/
def Core.startLoop (k : Core) (b : BankId) : Core :=
  { k with loopOwner := if k.serviceMode then some (b, false) else (k.dropLoop b).loopOwner }

/-- LOOP (06 R246, R220). -/
def actLoop (c : CoreId) (a : Reg) (len : BitVec 6) (s : State) (k : BankId) : Act := do
  let x ← readReg s c k a
  checkOpnds [⟨2, [tBIN], x⟩]
  let bk := s.bank c k
  need (x.val.toNat < 2 ^ 32) riTrap
  need (!bk.lend.getLsbD 31) riTrap
  if x.val = 0 then
    jumpTo (s.modBank c k (fun v => { v with lcnt := 0 })) (bk.pc + BitVec.ofNat 32 (4 * (len.toNat + 2))) 3
  else
    finish ((s.modBank c k (fun v => { v with
      lcnt := x.val.setWidth 32
      lend := mkLend v.tsw (bk.pc.toNat + 4 * (len.toNat + 1)) len.toNat })).modCore c (fun kk => kk.startLoop k)) 1

/-- A conditional branch: 1 cycle not taken, 3 taken. -/
def branchIf (p : Bool) (s : State) (t : W32) : Act := if p then jumpTo s t 3 else finish s 1

/-- CB (R241). -/
def execCb (c : CoreId) (a b : Reg) (cond : Fin 8) (disp : BitVec 11) (s : State) : Res :=
  issue c (fun s k => do
    let x ← readReg s c k a
    let y ← readReg s c k b
    checkOpnds [⟨2, rawBin, x⟩, ⟨3, rawBin, y⟩]
    branchIf (cbHolds cond x.val y.val) s (relTarget (s.bank c k).pc disp.toInt)) s

/-- BCC (R242). -/
def execBcc (c : CoreId) (mask : BitVec 4) (disp : BitVec 11) (s : State) : Res :=
  issue c (fun s k =>
    branchIf (mask.getLsbD (tswCc (s.bank c k).tsw)) s (relTarget (s.bank c k).pc disp.toInt)) s

/-- BR (R240). -/
def execBr (c : CoreId) (disp : BitVec 24) (s : State) : Res :=
  issue c (fun s k => jumpTo s (relTarget (s.bank c k).pc disp.toInt) 3) s

/-- CALL (R244). -/
def execCall (c : CoreId) (disp : BitVec 24) (s : State) : Res :=
  issue c (actCall (fun s c k => .ok (relTarget (s.bank c k).pc disp.toInt)) c) s

/-- JR (R243). -/
def execJr (c : CoreId) (a : Reg) (s : State) : Res :=
  issue c (fun s k => do let t ← regTarget s c k a 2; jumpTo s t 3) s

/-- CALLR (R244). -/
def execCallr (c : CoreId) (a : Reg) (s : State) : Res := issue c (actCall (fun s c k => regTarget s c k a 2) c) s

/-- RET (R244). -/
def execRet (c : CoreId) (s : State) : Res := issue c (actRet c) s

/-- LOOP (R246). -/
def execLoop (c : CoreId) (a : Reg) (len : BitVec 6) (s : State) : Res := issue c (actLoop c a len) s

end Sys2Proof.Machine
end

