-- ==== Sys2Proof/Machine/Rpt.lean ====
section
/-! DEFINITION. The repeat prefix (06 R251 to R255; 05 R199). The prefixed word is an operand of the command; the
instructions that may be prefixed are read from it here. -/

namespace Sys2Proof.Machine

/-- A register field of an instruction word. -/
def regFld (w : W32) (hi : Nat) : Reg := ⟨fld w hi (hi - 4) % 32, Nat.mod_lt _ (by decide)⟩

/-- An instruction that may be prefixed: what it does, the registers it writes, and whether I = 0 allows it (06 R252). -/
structure Repeatable where
  act    : State → BankId → Act
  writes : List Reg
  both   : Bool

/-- The form A instructions of 0x10 and 0x20 that may be prefixed. -/
def repeatA (c : CoreId) (w : W32) : Option Repeatable :=
  let d := regFld w 23; let a := regFld w 18; let b := regFld w 13
  let r2 := fun (f : CoreId → Reg → Reg → Reg → State → BankId → Act) (both : Bool) => some (⟨f c d a b, [d], both⟩ : Repeatable)
  match fld w 31 24, fldFn w with
  | 0x10, 0x000 => r2 actAdd true
  | 0x10, 0x001 => r2 actSub true
  | 0x10, 0x004 => r2 actMul false
  | 0x10, 0x005 => r2 actMulh false
  | 0x10, 0x010 => some ⟨actMov c d a, [d], true⟩
  | 0x20, 0x000 => r2 actAnd true
  | 0x20, 0x001 => r2 actOr true
  | 0x20, 0x002 => r2 actXor true
  | 0x20, 0x003 => r2 actAndn true
  | 0x20, 0x008 => r2 actSll true
  | 0x20, 0x009 => r2 actSrl true
  | 0x20, 0x00A => r2 actSra true
  | 0x20, 0x00C => some ⟨actPopc c d a, [d], true⟩
  | _, _ => none

/-- The form B instructions that may be prefixed. -/
def repeatB (c : CoreId) (w : W32) : Option Repeatable :=
  let d := regFld w 23; let a := regFld w 18
  let imm := w.extractLsb' 0 14; let n := w.extractLsb' 0 7
  match fld w 31 24 with
  | 0x11 => some ⟨actAddi c d a imm, [d], true⟩
  | 0x21 => some ⟨actSlli c d a n, [d], true⟩
  | 0x22 => some ⟨actSrli c d a n, [d], true⟩
  | 0x23 => some ⟨actSrai c d a n, [d], true⟩
  | 0x24 => some ⟨actAndi c d a imm, [d], true⟩
  | 0x25 => some ⟨actOri c d a imm, [d], true⟩
  | 0x26 => some ⟨actXori c d a imm, [d], true⟩
  | _ => none

/-- The loads and stores that may be prefixed. -/
def repeatD (c : CoreId) (errs : Errs) (w : W32) : Option Repeatable :=
  let d := regFld w 23; let base := regFld w 18; let disp := w.extractLsb' 0 14
  let ld := fun n sgn => some (⟨actLoad n sgn c d base disp errs, [d], false⟩ : Repeatable)
  let st := fun n t => some (⟨actStore n t c d base disp, [], false⟩ : Repeatable)
  match fld w 31 24 with
  | 0x30 => ld 1 false
  | 0x31 => ld 1 true
  | 0x32 => ld 2 false
  | 0x33 => ld 2 true
  | 0x34 => ld 4 false
  | 0x35 => ld 4 true
  | 0x36 => ld 8 false
  | 0x37 => ld 8 true
  | 0x38 => some ⟨actLdg c d base disp errs, [d], false⟩
  | 0x39 => some ⟨actLdu8 c d base disp errs, [d, base], false⟩
  | 0x3A => st 1 rawBin
  | 0x3B => st 2 rawBin
  | 0x3C => st 4 rawBin
  | 0x3D => st 8 st8Tags
  | 0x3E => some ⟨actStg c d base disp, [], false⟩
  | 0x3F => some ⟨actStu8 c d base disp, [base], false⟩
  | _ => none

/-- The instruction a prefixed word is, if it may be prefixed at all. -/
def repeatable (c : CoreId) (errs : Errs) (w : W32) : Option Repeatable :=
  if !definedWord w then none
  else (repeatA c w).orElse fun _ => (repeatB c w).orElse fun _ => repeatD c errs w

/-- Iterations with I = 0: all of them at once; only the first can fault (06 R253). The cycles are summed. -/
def repeatAll (act : State → BankId → Act) (k : BankId) : Nat → State → Nat → Act
  | 0, s, cost => finish s cost
  | n + 1, s, cost => do
    let d ← act s k
    repeatAll act k n d.s (cost + d.cost)

/-- Up to n iterations with I = 1: each decrements the count register; a fault saves the RPT's PC with the iterations before it
done (06 R254). Answers the state, the cycles and the register last loaded, and whether the run was stopped by a fault or a
hold. -/
def repeatSome (act : State → BankId → Act) (c : CoreId) (k : BankId) (count : Reg) : Nat → State → Nat → Option (Fin 104) →
    Except (Trap × State × Nat) (State × Nat × Option (Fin 104))
  | 0, s, cost, l => .ok (s, cost, l)
  | n + 1, s, cost, _ =>
    match act s k with
    | .error t => .error (t, s, cost)
    | .ok d =>
      let left := ((d.s.bank c k).reg k count).val - 1
      repeatSome act c k count n (d.s.setReg c k count (bin left)) (cost + d.cost) d.loaded

/-- The prefix with I = 1 and S = 1 (06 R254, R255). `iters` is how many iterations run before the next boundary taken,
at least 1. -/
def rptCounted (r : Repeatable) (c : CoreId) (count : Reg) (iters : Nat) (s : State) (k : BankId) : Act := do
  let x ← readReg s c k count
  checkOpnds [⟨0, [tBIN], x⟩]
  need (x.val.toNat < 2 ^ 32) riTrap
  let n := x.val.toNat
  if n = 0 then finish s 1
  else
    let m := min n (max iters 1)
    let paid := fun (t : State) (cost : Nat) => if cost = 1 then t else t.charge c k cost
    match repeatSome r.act c k count m s 1 none with
    | .error (.fault v cause addr info, t, cost) => .error (.become ((paid t cost).latch c k v cause addr info))
    | .error (.become t, _, cost) => .error (.become (paid t cost))
    | .error (.hold, t, cost) => if cost = 1 then .error .hold else settled t cost
    | .ok (t, cost, l) => (if m = n then finish t cost else settled t cost).map (fun d => { d with loaded := l })

/-- RPT (R251 to R255). -/
def execRpt (c : CoreId) (i s : Bool) (count : Reg) (imm : BitVec 7) (next : W32) (iterations : Nat) (errs : Errs)
    (st : State) : Res :=
  let legal := (!i && !s && count == 0 && imm.toNat < 64) || (i && s && imm == 0)
  if !legal then issue c (fun _ _ => .error riTrap) st
  else
    issueW c 2 (fun t k => do
      let bk := t.bank c k
      need (!(bk.inBody && bk.pc.toNat + 4 > lendEnd bk.lend)) riTrap
      match repeatable c errs next with
      | none => .error riTrap
      | some r =>
        need (i || r.both) riTrap
        need (!(i && r.writes.contains count)) riTrap
        if i then rptCounted r c count iterations t k
        else repeatAll r.act k (imm.toNat + 1) t 1) st

end Sys2Proof.Machine
end

