-- ==== Sys2Proof/Machine/TagOps.lean ====
section
/-! DEFINITION. Tag and reference instructions (06 R256 to R258; 04 R165). -/

namespace Sys2Proof.Machine

/-- The families RAW may be relabelled to with a check (04 R165). -/
def typedTags : List (BitVec 4) := [tDEC, tDFF, tDFI, tDFQ, tDFS, tB64, tDWH, tDWL]

/-- Whether a user-mode relabel is allowed (04 R165, 06 R257). The operand is no POISON. -/
def relabelAllowed (src dst : BitVec 4) : Bool :=
  src == dst || (src == tRAW && (dst == tBIN || typedTags.contains dst)) || (dst == tRAW && src != tREF)

/-- RETAG and RETAGU: a tag from 0xB to 0xE takes RI; a relabel to the operand's own tag copies (06 R257). -/
def actRetag (checked : Bool) (c : CoreId) (d a : Reg) (tag : BitVec 4) (s : State) (k : BankId) : Act := do
  need (!reservedTag tag) riTrap
  if !checked then needSuper s c k
  let x ← readReg s c k a
  destReg s c k d
  checkAny 2 x
  need (tswMode (s.bank c k).tsw || relabelAllowed x.tag tag) privTrap
  need (!checked || x.tag == tag || !malformed ⟨tag, x.val⟩) (tagTrap 3 2)
  finish (s.setReg c k d ⟨tag, x.val⟩) 1

/-- RETAG (R257). -/
def execRetag (c : CoreId) (d a : Reg) (tag : BitVec 4) (s : State) : Res := issue c (actRetag true c d a tag) s
/-- RETAGU (R256). -/
def execRetagu (c : CoreId) (d a : Reg) (tag : BitVec 4) (s : State) : Res := issue c (actRetag false c d a tag) s

/-- GTAG (R256). -/
def execGtag (c : CoreId) (d a : Reg) (s : State) : Res :=
  issue c (fun s k => do
    let x ← readReg s c k a
    destReg s c k d
    checkAny 2 x
    finish (s.setReg c k d (binNat x.tag.toNat)) 1) s

/-- A REF with its base and length replaced, key and rights kept. A base of 2^32, which only an empty REF reaches, is
held as 0. -/
def withRange (x : Payload) (base len : Nat) : Payload :=
  BitVec.ofNat 128 (base % 2 ^ 32 + len % 2 ^ 32 * 2 ^ 32 + bits x 64 6 * 2 ^ 64)

/-- A REF narrowed by the fields of b (06 R258). -/
def narrowed (x y : Payload) : Payload :=
  let rights : Payload := (if y.getLsbD 64 then BitVec.ofNat 128 (2 ^ 68) else 0)
    ||| (if y.getLsbD 65 then BitVec.ofNat 128 (2 ^ 69) else 0)
  withRange x (refBase x + bits y 0 32) (bits y 32 32) &&& ~~~ rights

/-- REFN (R258). -/
def execRefn (c : CoreId) (d a b : Reg) (s : State) : Res :=
  issue c (fun s k => do
    let x ← readReg s c k a
    let y ← readReg s c k b
    destReg s c k d
    checkOpnds [⟨2, [tREF], x⟩, ⟨3, [tBIN], y⟩]
    need (bits y.val 66 62 == 0) (tagTrap 3 3)
    need (bits y.val 0 32 + bits y.val 32 32 ≤ refLen x.val)
      (protTrap 3 ((refBase x.val + bits y.val 0 32) % 2 ^ 32) 0)
    finish (s.setReg c k d ⟨tREF, narrowed x.val y.val⟩) 1) s

/-- REFGET (R256): base, length, or rights in [5:4] and key in [3:0]. -/
def execRefget (c : CoreId) (d a : Reg) (which : Fin 3) (s : State) : Res :=
  issue c (fun s k => do
    let x ← readReg s c k a
    destReg s c k d
    checkOpnds [⟨2, [tREF], x⟩]
    let v := match which with
      | 0 => refBase x.val
      | 1 => refLen x.val
      | 2 => bits x.val 64 6
    finish (s.setReg c k d (binNat v)) 1) s

end Sys2Proof.Machine
end

