-- ==== Sys2Proof/Machine/Control.lean ====
section
/-! DEFINITION. Control registers, the bank window and LTSW (05 R174 to R182, R224; 06 R259 to R261, R264; 09 R375, R398). -/

namespace Sys2Proof.Machine

/-- Cycles of a serializing instruction: its documented count and 2 of refetch (05 R225). -/
def serial (n : Nat) : Nat := n + 2

/-- The bank whose SPLP and SPLL an instruction reaches (09 R398). -/
def Core.spillBank (k : Core) (b : BankId) : BankId := if b = bankT then k.served else b

/-- A control register's value (05 R177). -/
def State.readCr (s : State) (c : CoreId) (b : BankId) (n : Nat) : Nat :=
  let k := s.core c
  let v := k.bank b
  match n with
  | 0 => v.pc.toNat
  | 1 => v.tsw.toNat
  | 2 => v.tsbr.toNat
  | 3 => k.hdtr.toNat
  | 4 => k.svce.toNat
  | 5 => v.svcp.toNat
  | 6 => v.svct.toNat
  | 7 => k.bwin.toNat
  | 8 => (k.bank (k.spillBank b)).splp.toNat
  | 9 => (k.bank (k.spillBank b)).spll.toNat
  | 10 => v.fpsf.toNat
  | 11 => v.lcnt.toNat
  | 12 => v.lend.toNat
  | 13 => (s.vposNow c b).toNat
  | 14 => k.mcver.toNat
  | _ => v.cycb.toNat

/-- The control registers user mode may read (05 R177). -/
def userReads (n : Nat) : Bool := [1, 10, 11, 12, 13, 14, 15].contains n

/-- FPSF: results in flight are waited for and a pending record is delivered (07 R310, R314). -/
def fpsfPoint (s : State) (c : CoreId) (b : BankId) (n : Nat) : Except Trap Unit :=
  if n = 10 then do
    need (!s.floatsDue c b) .hold
    deliverNow s c b
  else .ok ()

/-- MFCR (R178). -/
def execMfcr (c : CoreId) (d cr : Reg) (s : State) : Res :=
  issue c (fun s k => do
    need (cr.val < 16) riTrap
    need (tswMode (s.bank c k).tsw || userReads cr.val) privTrap
    fpsfPoint s c k cr.val
    destReg s c k d
    finish (s.setReg c k d (binNat (s.readCr c k cr.val))) 2) s

/-- The widths of the writable control registers (05 R177). -/
def crWidth (n : Nat) : Nat := if n = 6 then 64 else if n = 13 then 96 else 32

/-- The bits of a control register that must be zero (05 R177, R180; 06 R245, R264; 10 R442), reserved values included. -/
def crLegal (n v : Nat) : Bool :=
  v < 2 ^ crWidth n &&
  match n with
  | 2 => v % 256 == 0
  | 3 => v % 4096 == 0
  | 4 => v % 4 == 0
  | 6 => v / 2 ^ 24 % 2 ^ 16 == 0
  | 7 => v / 2 ^ 11 == 0 && v / 32 % 8 == 0 && v / 256 % 8 ≤ 5 && v % 32 ≤ 16
  | 8 => v % 16 == 0
  | 9 => v % 16 == 0
  | 10 => v < 32
  | 12 => v / 2 ^ 19 % 2 == 0
  | 13 => v / 2 ^ 80 == 0
  | _ => true

/-- LEVEL, TARGET and FLAGS of HDT entry v at a table address, read for the copy of R375; an entry outside bench memory
reads as free values (log entry 21). -/
def State.hdtFields (s : State) (c : CoreId) (base v : Nat) : Nat × Nat × Nat :=
  let a := base + 32 * v
  if isBench a then
    let o := s.octets c (a + 4) 3
    (fieldAt o 0 1, fieldAt o 1 1, fieldAt o 2 1)
  else (Config.freeValue (1000 + v) s.freeCtr % 16, Config.freeValue (2000 + v) s.freeCtr % 16, Config.freeValue (3000 + v) s.freeCtr % 2)

/-- Whether the three fields hold no reserved value (09 R373). -/
def hdtFieldsOk (f : Nat × Nat × Nat) : Bool := f.1 < 16 && (f.2.1 < 16 || f.2.1 == 31) && f.2.2 < 2

/-- The copy of all 512 sources (09 R375). -/
def State.hdtCopy (s : State) (c : CoreId) (base : Nat) : SMap EvCopy :=
  (List.range 512).foldl (fun m i =>
    let f := s.hdtFields c base (64 + i)
    m.set EvCopy.zero i ⟨f.1, f.2.1, f.2.2 == 1⟩) []

/-- A control register written (05 R177). A new HDTR may make a pending source deliverable to a BLOCKED bank (09 R375, R401);
a loop set by LEND is not the one in the loop buffer (05 R218). -/
def State.writeCr (s : State) (c : CoreId) (b : BankId) (n : Nat) (v : Nat) : State :=
  let w : W32 := BitVec.ofNat 32 v
  match n with
  | 2 => s.modBank c b (fun k => { k with tsbr := w })
  | 3 =>
    let ev := s.hdtCopy c v
    taskBanks.foldl (fun t b => t.wakeBank c b)
      ((s.modCore c (fun k => { k with hdtr := w, ev := ev })).useFree (if isBench (v + 32 * 575) then 0 else 1))
  | 4 => s.modCore c (fun k => { k with svce := w })
  | 5 => s.modBank c b (fun k => { k with svcp := w })
  | 6 => s.modBank c b (fun k => { k with svct := BitVec.ofNat 64 v })
  | 7 => s.modCore c (fun k => { k with bwin := w })
  | 8 => s.modBank c ((s.core c).spillBank b) (fun k => { k with splp := w })
  | 9 => s.modBank c ((s.core c).spillBank b) (fun k => { k with spll := w })
  | 10 => s.modBank c b (fun k => { k with fpsf := w })
  | 11 => s.modBank c b (fun k => { k with lcnt := w })
  | 12 => (s.modBank c b (fun k => { k with lend := w })).modCore c (fun k => k.dropLoop b)
  | 13 => s.modBank c b (fun k => { k with vpos := BitVec.ofNat 96 v })
  | 15 => s.modBank c b (fun k => { k with cycb := w })
  | _ => s

/-- The registers whose MTCR serializes (05 R224). -/
def serialCr (n : Nat) : Bool := [2, 3, 4, 8, 9].contains n

/-- The reload of R375 reads the table: the errors it finds, then POISONED at the first granule of an entry that holds POISON
(12 R497 to R499). -/
def State.readHdt (s : State) (c : CoreId) (k : BankId) (errs : Errs) (base : Nat) : Except Trap State := do
  let entries := (List.range 512).map (fun i => base + 32 * (64 + i))
  let t := s.findErrors c errs entries
  faultOn c k t (match (entries.filter isBench).findSome? (fun x => poisonFault (t.gran c x) x) with
    | some f => .error f
    | none => .ok ())
  return t

/-- MTCR (R179). -/
def execMtcr (c : CoreId) (cr a : Reg) (errs : Errs) (s : State) : Res :=
  issue c (fun s k => do
    let n := cr.val
    need (n < 16) riTrap
    need (!(n == 0 || n == 1 || n == 14)) riTrap
    need (tswMode (s.bank c k).tsw || n == 10) privTrap
    if serialCr n then deliver s c k
    fpsfPoint s c k n
    let x ← readReg s c k a
    checkOpnds [⟨2, rawBin, x⟩]
    need (crLegal n x.val.toNat) riTrap
    let s ← if n = 3 then s.readHdt c k errs x.val.toNat else .ok s
    faultOn c k s (need (n != 3 || (List.range 512).all (fun i => hdtFieldsOk (s.hdtFields c x.val.toNat (64 + i)))) riTrap)
    finish (s.writeCr c k n x.val.toNat)
      ((if serialCr n then serial 2 else 2) + (if n = 3 then 512 else 0))) s

/-! ### The bank window (05 R180, R181) -/

/-- The bank BWIN names. -/
def Core.bwBank (k : Core) : BankId :=
  let n := k.bwin.toNat % 32
  if h : n < 17 then ⟨n, h⟩ else bankT

/-- The slot a code reaches through BWIN. -/
def Core.bwSlot (k : Core) (r : Reg) : Fin 104 := slotOf (k.bwBank == bankT) (k.bwin.toNat / 256 % 8) r

/-- MFBW (R260). -/
def execMfbw (c : CoreId) (d code : Reg) (s : State) : Res :=
  issue c (fun s k => do
    needSuper s c k
    let kk := s.core c
    need (!kk.unread kk.bwBank (kk.bwSlot code)) .hold
    destReg s c k d
    let x := (kk.bank kk.bwBank).regs[kk.bwSlot code]
    checkAny 2 x
    finish (s.setReg c k d x) 2) s

/-- MTBW (R260). -/
def execMtbw (c : CoreId) (code a : Reg) (s : State) : Res :=
  issue c (fun s k => do
    needSuper s c k
    let kk := s.core c
    need (!kk.inFlight kk.bwBank (kk.bwSlot code)) .hold
    let x ← readReg s c k a
    checkAny 2 x
    finish (s.modBank c kk.bwBank (fun v => v.setSlot (kk.bwSlot code) x)) 2) s

/-- The TSW fields user mode may not change: MODE, KEY, MASK, CWP, WVAL (05 R176). -/
def tswGuarded (w : W64) : Nat × Nat := (getField w 55 9, getField w 40 6)

/-- LTSW (R261; 05 R175, R176). -/
def execLtsw (c : CoreId) (a : Reg) (s : State) : Res :=
  issue c (fun s k => do
    deliver s c k
    let x ← readReg s c k a
    checkOpnds [⟨2, rawBin, x⟩]
    let w : W64 := x.val.setWidth 64
    let old := (s.bank c k).tsw
    need (x.val.toNat < 2 ^ 64 && tswLegal w) riTrap
    need (tswMode old || tswGuarded w == tswGuarded old) privTrap
    finish (s.modBank c k (fun v => { v with tsw := w })) (serial 2)) s

end Sys2Proof.Machine
end

