-- ==== Sys2Proof/Machine/SystemOps.lean ====
section
/-! DEFINITION. System instructions (06 R262, R263, R265, R271, R272; 09 R372, R389 to R392, R406, R407, R409, R410;
07 R313). -/

namespace Sys2Proof.Machine

/-- NOP (R262). -/
def execNop (c : CoreId) (s : State) : Res := issue c (fun s _ => finish s 1) s

/-- SVCN of LEND (06 R245). -/
def svcn (l : W32) : Nat := getField (l.setWidth 64) 0 2

/-- LEND with SVCN replaced. -/
def setSvcn (l : W32) (n : Nat) : W32 := (l &&& 0xFFFFFFFC) ||| BitVec.ofNat 32 (n % 4)

/-- SVC (R263, R250). It takes no loop step: log entry 22. -/
def execSvc (c : CoreId) (fn : BitVec 24) (s : State) : Res :=
  issue c (fun s k => do
    need (k != bankT) riTrap
    let v := s.bank c k
    need (svcn v.lend != 3) riTrap
    deliver s c k
    let entry := (s.core c).svce
    settled (s.modBank c k (fun v => { v with
      svcp := v.pc + 4
      svct := (v.tsw &&& 0xFFFFFFFFFF000000) ||| fn.setWidth 64
      tsw := setField v.tsw 63 1 1
      pc := entry
      lend := if v.lend.getLsbD 31 then setSvcn v.lend (svcn v.lend + 1) else v.lend })) (serial 2)) s

/-- An address as PC holds it: bits [1:0] zero (05 R177). -/
def pcOf (w : W32) : W32 := w &&& 0xFFFFFFFC

/-- RSV (R262, R250, R264). -/
def execRsv (c : CoreId) (s : State) : Res :=
  issue c (fun s k => do
    needSuper s c k
    deliver s c k
    let w := setField (s.bank c k).svct 0 40 0
    need (tswLegal w) riTrap
    settled (s.modBank c k (fun v => { v with
      pc := pcOf v.svcp, tsw := w, lend := if svcn v.lend ≠ 0 then setSvcn v.lend (svcn v.lend - 1) else v.lend })) (serial 2)) s

/-- The frame RTE reads (09 R389): TSW, PC, CHARGE. -/
def State.topFrame (s : State) (c : CoreId) (b : BankId) : W64 × W32 × Bool :=
  let f := s.tsbGet c b (128 + 32 * (s.depth c b - 1)) 32
  (BitVec.ofNat 64 (fieldAt f 0 8), pcOf (BitVec.ofNat 32 (fieldAt f 8 4)), fieldAt f 26 1 % 2 == 1)

/-- RTE in a task bank (09 R389 to R391), after its checks. Its cycles are charged as the handler ran. -/
def State.rteTask (s : State) (c : CoreId) (b : BankId) : State :=
  let (w, pc, charge) := s.topFrame c b
  let d := s.depth c b
  let s1 := (s.charge c b (serial 4)).modBank c b (fun v =>
    let r := v.retreat
    { r with tsw := setField (setField w 43 3 (tswCwp r.tsw)) 40 3 (tswWval r.tsw), pc := pc, charge := charge })
  s1.tsbPut c b 0 [octet (d - 1)]

/-- A value as BWIN holds it: bits [31:11] and [7:5] zero (00 R10; 05 R180). -/
def bwinOf (n : Nat) : W32 := BitVec.ofNat 32 n &&& 0x71F

/-- RTE in bank T (09 R392): BWIN and the served bank's WVAL restored, the served bank resumed from the frame. -/
def State.rteT (s : State) (c : CoreId) : State :=
  let k := s.core c
  let (w, pc, charge) := s.topFrame c bankT
  let d := s.depth c bankT
  let bw := bwinOf (fieldAt (s.tsbGet c bankT 2 2) 0 2)
  let s1 := (s.charge c bankT (serial 4)).tsbPut c bankT 0 [octet (d - 1)]
  s1.modCore c (fun kk =>
    { (kk.modBank k.served (fun v =>
        let n := tswWval v.tsw
        let n' := match k.service with | .wovf => n - 1 | .wunf => n + 1 | .esc => n
        { v with tsw := setField (setField w 43 3 (tswCwp v.tsw)) 40 3 n', pc := pc, charge := charge })) with
      bwin := bw, tActive := false })

/-- Octets of a bank's TSB that an instruction reads: POISONED at the first granule of them that holds POISON (12 R499). -/
def State.tsbWhole (s : State) (c : CoreId) (b : BankId) (off n : Nat) : Except Trap Unit :=
  match (granAddrs ((s.bank c b).tsbr.toNat + off) n).findSome? (fun a => poisonFault (s.gran c a) a) with
  | some t => .error t
  | none => .ok ()

/-- The granules of a bank's TSB that RTE reads: the first, and the frame it takes back (09 R389, R392). -/
def State.rteReads (s : State) (c : CoreId) (b : BankId) : List Nat :=
  let a := (s.bank c b).tsbr.toNat
  a :: granAddrs (a + 128 + 32 * (s.depth c b - 1)) 32

/-- RTE (R389 to R392). -/
def execRte (c : CoreId) (errs : Errs) (s : State) : Res :=
  issue c (fun s k => do
    needSuper s c k
    deliver s c k
    let s := s.findErrors c errs (s.rteReads c k)
    faultOn c k s do
    s.tsbWhole c k 0 4
    need (s.depth c k != 0) riTrap
    s.tsbWhole c k (128 + 32 * (s.depth c k - 1)) 32
    need (tswLegal (s.topFrame c k).1) riTrap
    if k = bankT then settled (s.rteT c) 0
    else do
      let v := s.bank c k
      need (tswWval v.tsw != 1) (.become (s.windowTrap c k false))
      need ((tswCwp v.tsw + 5) % 6 == tswCwp (s.topFrame c k).1) (.become (s.escalate c k 5 (mkEntering s c k .fault 0 0)))
      settled (s.rteTask c k) 0) s

/-- The core's loop buffer discarded (05 R192, R193). -/
def State.dropLoopBuffer (s : State) (c : CoreId) : State := s.modCore c (fun k => { k with loopOwner := none })

/-- IFLUSH (R193). -/
def execIflush (c : CoreId) (s : State) : Res :=
  issue c (fun s k => do deliver s c k; finish (s.dropLoopBuffer c) (serial 1)) s

/-- FMODE (R214). -/
def execFmode (c : CoreId) (service : Bool) (s : State) : Res :=
  issue c (fun s k => do
    needSuper s c k
    deliver s c k
    finish (s.modCore c (fun kk => { kk with serviceMode := service, loopOwner := if service then kk.loopOwner else none }))
      (serial 1)) s

/-- BRK (R262): the instruction completes and BREAK is entered with the PC of the next (09 R379, R380). Log entry 22. -/
def execBrk (c : CoreId) (fn : BitVec 24) (s : State) : Res :=
  issue c (fun s k =>
    let t := s.stepOver c k 1
    .error (.become (t.latch c k 14 (fn.toNat % 2 ^ 16) 0 (fn.toNat / 2 ^ 16)))) s

/-- FRCODE (R192, R265). -/
def execFrcode (c : CoreId) (a : Reg) (s : State) : Res :=
  issue c (fun s k => do
    needSuper s c k
    deliver s c k
    let x ← readReg s c k a
    checkOpnds [⟨2, [tBIN], x⟩]
    let n := x.val.toNat
    need (n < 2 ^ 32 && (locOf n).isSome) (protTrap 1 (n % 2 ^ 32) 0)
    need (!isBay n) (protTrap 8 n 0)
    match s.frame c n with
    | none => .error (protTrap 1 n 0)
    | some e =>
      need (e.st != .free) (protTrap 6 n 0)
      finish ((s.setFrame c n { e with st := .code }).dropLoopBuffer c) (serial 2)) s

/-- The command PCMD reads from register a (06 R271), none where a field is reserved or out of range. -/
def postedOf (v : Payload) : Option PostedCmd :=
  let cmd := bits v 0 8; let flush := v.getLsbD 8; let t := bits v 16 12
  if bits v 28 100 != 0 || bits v 9 7 != 0 then none
  else if cmd = 3 ∧ 1 ≤ t then some ⟨false, t, flush⟩
  else if cmd = 8 ∧ flush = false ∧ t < 256 then some ⟨true, t, false⟩
  else none

/-- PCMD (R271, R272). -/
def execPcmd (c : CoreId) (d a : Reg) (s : State) : Res :=
  issue c (fun s k => do
    need (c == s.controlCore) riTrap
    needSuper s c k
    let x ← readReg s c k a
    destReg s c k d
    checkOpnds [⟨2, rawBin, x⟩]
    match postedOf x.val with
    | none => finish (s.setReg c k d (binNat 2)) 4
    | some p =>
      if s.host.postQueue.length ≥ 8 then finish (s.setReg c k d (binNat 1)) 4
      else
        finish (({ s with host := { s.host with postQueue := s.host.postQueue ++ [p] } }).setReg c k d (binNat 0)) 4) s

/-- POST (R372). -/
def execPost (c : CoreId) (a : Reg) (s : State) : Res :=
  issue c (fun s k => do
    let x ← readReg s c k a
    checkOpnds [⟨2, [tBIN], x⟩]
    let src := bits x.val 0 9
    need (256 ≤ src && bits x.val 9 7 == 0 && bits x.val 22 106 == 0) riTrap
    need (tswMode (s.bank c k).tsw || 384 ≤ src) privTrap
    finish (s.raiseOn ⟨bits x.val 16 6 % 64, Nat.mod_lt _ (by decide)⟩ src 0) 2) s

/-- FBAR (R313): waits for the bank's float results and delivers a pending record. -/
def execFbar (c : CoreId) (s : State) : Res :=
  issue c (fun s k => do
    need (!s.floatsDue c k) .hold
    deliverNow s c k
    finish s 1) s

/-! ### WAIT (09 R406, R407) -/

/-- The bank blocks and leaves the core; the wait's PC stays unless `next` is given. -/
def State.block (s : State) (c : CoreId) (b : BankId) (w : Wait) : State :=
  s.modCore c (fun k => { (k.modBank b (fun v => { v with st := .blocked, wait := some w, selfBlocked := true })) with
    running := if k.running = some b then none else k.running })

/-- A WAIT that blocks until a condition: bank T takes RI; where the condition holds, or its time has passed, it costs one
cycle; otherwise the bank blocks with PC on the WAIT and a deliverable source wakes it at once. -/
def actWait (c : CoreId) (w : State → BankId → Wait) (now : State → BankId → Bool) (s : State) (k : BankId) : Act := do
  need (k != bankT) riTrap
  deliverNow s c k
  if now s k then finish s 1 else settled (((s.block c k (w s k)).wakeBank c k).wakeHeld c k) 1

/-- Whether every chain the bank has issued is done or faulted. -/
def State.chainsIdle (s : State) (c : CoreId) (b : BankId) : Bool :=
  s.chainList.all (fun (_, x) => !(x.core == c && x.bank == b && x.st != .faulted))

/-- Whether every mover command the bank has issued is done. -/
def State.movesIdle (s : State) (c : CoreId) (b : BankId) : Bool :=
  s.mover.cmds.all (fun m => !(m.core == c && m.bank == b))

/-- Whether every draw and seal request the bank has issued is done. -/
def State.sealsIdle (s : State) (c : CoreId) (b : BankId) : Bool :=
  s.ds.draws.all (fun r => !(r.core == c && r.bank == b)) && s.ds.seals.all (fun r => !(r.core == c && r.bank == b))
    && s.ds.rcpts.all (fun r => !(r.core == c && r.bank == b))

/-- WAIT EVENT (R407): a pending WAKE source ends it at once; otherwise the bank blocks at the next instruction. -/
def execWaitEvent (c : CoreId) (s : State) : Res :=
  issue c (fun s k => do
    need (k != bankT) riTrap
    deliverNow s c k
    let kk := s.core c
    match bestPending kk k (tswMask (kk.bank k).tsw) false with
    | some p =>
      if (kk.ev.get EvCopy.zero p.src).wake then
        finish ((s.modCore c (fun v => { v with pend := v.pend.filter (· != p) })).putWoken c k p.src) 1
      else
        let t := s.stepOver c k 1
        settled (((t.block c k .event).wakeBank c k).wakeHeld c k) 0
    | none =>
      let t := s.stepOver c k 1
      settled ((t.block c k .event).wakeHeld c k) 0) s

/-- WAIT UNTIL (R406): argument 0 takes RI; the target is counted from the first cycle of the span's sill. -/
def execWaitUntil (c : CoreId) (arg : BitVec 20) (s : State) : Res :=
  issue c (fun s k => do
    need (arg != 0) riTrap
    let target := s.t.startClock + 32 * arg.toNat
    actWait c (fun _ _ => .until target) (fun t _ => target ≤ t.t.clock) s k) s

/-- WAIT CHAINS (R406). -/
def execWaitChains (c : CoreId) (s : State) : Res :=
  issue c (actWait c (fun _ _ => .chains) (fun t k => t.chainsIdle c k)) s

/-- WAIT MOVES (R406). -/
def execWaitMoves (c : CoreId) (s : State) : Res :=
  issue c (actWait c (fun _ _ => .moves) (fun t k => t.movesIdle c k)) s

/-- WAIT SEALS (R406). -/
def execWaitSeals (c : CoreId) (s : State) : Res :=
  issue c (actWait c (fun _ _ => .seals) (fun t k => t.sealsIdle c k)) s

/-- A job ended by WAIT DISPATCH: the bank FREE at once, its chains ended, the completion of R409. -/
def State.endByDispatch (s : State) (c : CoreId) (b : BankId) : State :=
  let v := s.bank c b
  let f := s.tsbGet c b 96 12
  let s1 := s.modCore c (fun k => { (k.modBank b (fun v => { v with
    st := .free, wait := none, job := none, budgetDue := false, budgetTaken := none, heldBudget := [], heldV := [], charge := false })) with
    running := if k.running = some b then none else k.running })
  let s2 := (s1.leaveScribe c b).endChains c b
  let s3 := match v.job with
    | none => s2
    | some j =>
      match v.budgetOf with
      | some r => s2.endRun c j stBUDGET r (fieldAt f 4 4) (BitVec.ofNat 32 (fieldAt f 8 4)) true
      | none => s2.endRun c j (fieldAt f 0 1) (fieldAt f 2 2) (fieldAt f 4 4) (BitVec.ofNat 32 (fieldAt f 8 4)) true
  s3.dispatchIfPost c

/-- WAIT DISPATCH (R409). A breach of the job's core cycles within its own 4 counts as taken (R405). -/
def execWaitDispatch (c : CoreId) (errs : Errs) (s : State) : Res :=
  issue c (fun s k => do
    need (k != bankT && k != 0) riTrap
    needSuper s c k
    deliverNow s c k
    let s := s.findErrors c errs [(s.bank c k).tsbr.toNat + 96]
    faultOn c k s do
    s.tsbWhole c k 96 12
    let v := s.bank c k
    let st := fieldAt (s.tsbGet c k 96 1) 0 1
    need (v.budgetOf.isSome || st == 0 || st == 0x21) riTrap
    settled ((s.charge c k 4).endByDispatch c k) 0) s

/-- WAIT FREEZE (R406, R410): the served bank frozen, bank T's service ended with DEPTH 0, BWIN kept. -/
def execWaitFreeze (c : CoreId) (s : State) : Res :=
  issue c (fun s k => do
    need (k == bankT) riTrap
    needSuper s c k
    deliverNow s c k
    let kk := s.core c
    let (vec, cause) := match kk.service with
      | .wovf => (10, 0)
      | .wunf => (11, 0)
      | .esc => (kk.bank kk.served).lastFault
    let t := (((s.charge c k 1).leaveScribe c bankT).tsbPut c bankT 0 [0]).modCore c (fun v => { v with tActive := false })
    let pc := (t.bank c kk.served).pc
    if kk.served = 0 then settled (t.coreStop c 0 pc vec cause) 0
    else settled (t.freezeFor c kk.served vec) 0) s

/-- UNDEFINED_OPCODE (05 R198): RI. -/
def execUndefinedOpcode (c : CoreId) (w : W32) (s : State) : Res :=
  if definedWord w then .fault (.illFormed "a word no table defines (R198)")
  else issue c (fun _ _ => .error riTrap) s

end Sys2Proof.Machine
end

