-- ==== Sys2Proof/Machine/FrameOps.lean ====
section
/-! DEFINITION. Frame and memory-control instructions (12 R488 to R493). -/

namespace Sys2Proof.Machine

/-- The bits of a frame entry (12 R488). -/
def FrameEntry.pack (e : FrameEntry) : Nat :=
  e.key.toNat * 16 + (if e.fp then 8 else 0) + (match e.st with | .free => 0 | .data => 1 | .code => 2)

/-- The entry an operand of SFRM or HBMS gives, none where it takes RI (12 R491). -/
def frameOf (v : Payload) (hbm : Bool) : Option FrameEntry :=
  if bits v 8 120 != 0 || v.getLsbD 2 || bits v 0 2 ≥ 2 || (hbm && v.getLsbD 3) then none
  else some ⟨v.extractLsb' 4 4, v.getLsbD 3, if bits v 0 2 = 0 then .free else .data⟩

/-- The address a frame instruction names, with its entry: BIN, mapped (12 R490, R491). -/
def frameAt (s : State) (c : CoreId) (x : TVal) : Except Trap (Nat × FrameEntry) :=
  let n := x.val.toNat
  match if n < 2 ^ 32 then s.frame c n else none with
  | none => .error (protTrap 1 (n % 2 ^ 32) 0)
  | some e => .ok (n, e)

/-- GFRM (R490). -/
def execGfrm (c : CoreId) (d a : Reg) (s : State) : Res :=
  issue c (fun s k => do
    needSuper s c k
    let x ← readReg s c k a
    destReg s c k d
    checkOpnds [⟨2, [tBIN], x⟩]
    let (n, e) ← frameAt s c x
    finish (s.setReg c k d (binNat e.pack)) (if isBay n then 24 else 2)) s

/-- SFRM (R491): a frame that leaves CODE discards the fetch path (05 R192). -/
def execSfrm (c : CoreId) (a b : Reg) (s : State) : Res :=
  issue c (fun s k => do
    needSuper s c k
    let x ← readReg s c k a
    let y ← readReg s c k b
    checkOpnds [⟨2, [tBIN], x⟩, ⟨3, [tBIN], y⟩]
    let (n, e) ← frameAt s c x
    match frameOf y.val false with
    | none => .error riTrap
    | some f =>
      let t := s.setFrame c n f
      if e.st = .code then finish (t.dropLoopBuffer c) (serial 4)
      else finish t (if isBay n then 32 else 4)) s

/-- The granules of a frame's numbers taken out of a memory: they read as RAW zero (12 R490, R494). -/
def zeroGrans (m : SMap TVal) (g : Nat) : SMap TVal := m.filter (fun (k, _) => k < g || g + 256 ≤ k)

/-- A frame zeroed. -/
def State.zeroFrame (s : State) (c : CoreId) (addr : Nat) : State :=
  if isBay addr then { s with bay := zeroGrans s.bay ((addr - 0x10000000) / 4096 * 256) }
  else s.modCore c (fun k => { k with bench := zeroGrans k.bench (addr / 4096 * 256) })

/-- FZERO (R492). -/
def execFzero (c : CoreId) (a : Reg) (s : State) : Res :=
  issue c (fun s k => do
    needSuper s c k
    let x ← readReg s c k a
    checkOpnds [⟨2, [tBIN], x⟩]
    let (n, e) ← frameAt s c x
    need (e.st != .code) (protTrap 7 n 2)
    finish (s.zeroFrame c n) (if isBay n then 280 else 260)) s

/-- HBMS (R491). -/
def execHbms (c : CoreId) (a b : Reg) (s : State) : Res :=
  issue c (fun s k => do
    needSuper s c k
    let x ← readReg s c k a
    let y ← readReg s c k b
    checkOpnds [⟨2, [tBIN], x⟩, ⟨3, [tBIN], y⟩]
    need (x.val.toNat < s.variant.gib) riTrap
    match frameOf y.val true with
    | none => .error riTrap
    | some f => finish { s with hbmRegions := s.hbmRegions.set FrameEntry.zero x.val.toNat f } 32) s

/-- HBMG (R490). -/
def execHbmg (c : CoreId) (d a : Reg) (s : State) : Res :=
  issue c (fun s k => do
    needSuper s c k
    let x ← readReg s c k a
    destReg s c k d
    checkOpnds [⟨2, [tBIN], x⟩]
    need (x.val.toNat < s.variant.gib) riTrap
    finish (s.setReg c k d (binNat (s.hbmRegions.get FrameEntry.zero x.val.toNat).pack)) 24) s

end Sys2Proof.Machine
end

