-- ==== Sys2Proof/Machine/Storage.lean ====
section
/-! DEFINITION. Storage operands of any length (05 R187, R195; 04 R161, R162; 07 R289): protection over the whole operand,
tags of every granule, cycles of access. -/

namespace Sys2Proof.Machine

/-- The parts of a range by frame: offset and length. -/
def framePieces : Nat → Nat → Nat → Nat → List (Nat × Nat)
  | 0, _, _, _ => []
  | fuel + 1, addr, off, n =>
    let r := 4096 - (addr + off) % 4096
    if n ≤ r then [(off, n)] else (off, r) :: framePieces fuel addr (off + r) (n - r)

/-- An operand of n octets checked whole: the lowest PROT cause, at the lowest address that meets it (05 R195). -/
def State.checkRange (s : State) (c : CoreId) (x : Access) (n : Nat) : Except Trap Nat :=
  let a := x.addr
  let found := (framePieces (n / 4096 + 2) (a % 4096).toNat 0 n).filterMap
    (fun (o, m) => (s.partCause c x n o m).map (fun k => (k, o)))
  match lowestCause found with
  | some (k, o) => .error (protTrap k ((a + o) % (2 ^ 32 : Int)).toNat x.acc.info)
  | none => .ok a.toNat

/-- An operand both read and written. -/
def State.checkBoth (s : State) (c : CoreId) (k : Bank) (base : TVal) (off : Int) (n : Nat) : Except Trap Nat := do
  let _ ← s.checkRange c (mkAccess k base off .load) n
  s.checkRange c (mkAccess k base off .store) n

/-- A storage operand already checked for protection: address, length, INFO number, and the tags it accepts; none where
only POISON matters (an operand that is only written, 04 R161). -/
structure MemOpnd where
  addr   : Nat
  n      : Nat
  info   : Nat
  accept : Option (List (BitVec 4))

/-- The first granule of an operand that is POISON. -/
def MemOpnd.poison (o : MemOpnd) (s : State) (c : CoreId) : Option Trap :=
  ((granAddrs o.addr o.n).find? (fun a => (s.gran c a).tag == tPOISON)).map
    (fun a => .fault 13 (bits (s.gran c a).val 0 8) (BitVec.ofNat 32 a) 0)

/-- The tag fault of an operand: the first granule whose tag it does not accept, or where each other one is accepted the
first with a reserved tag (04 R157: the lowest cause). -/
def MemOpnd.wrong (o : MemOpnd) (s : State) (c : CoreId) : Option Trap :=
  match o.accept with
  | none => none
  | some l =>
    let found := fun (reserved : Bool) => (granAddrs o.addr o.n).findSome? (fun a =>
      if reservedTag (s.gran c a).tag = reserved then granFault (s.gran c a) a l o.info else none)
    (found false).orElse (fun _ => found true)

/-- The tag checks of storage operands: POISONED first, then the operands in order (04 R157, R162). -/
def State.checkMem (s : State) (c : CoreId) (l : List MemOpnd) : Except Trap Unit :=
  match (l.findSome? (fun o => o.poison s c)).orElse (fun _ => l.findSome? (fun o => o.wrong s c)) with
  | some t => .error t
  | none => .ok ()

/-- Storage operands read and checked: the errors found in those that are read, then their tags (12 R497 to R499; 04 R156,
R157). Answers the state the reads leave. -/
def State.readMem (s : State) (c : CoreId) (k : BankId) (errs : Errs) (l : List MemOpnd) : Except Trap State := do
  let t := s.findErrors c errs ((l.filter (fun o => o.accept.isSome)).flatMap (fun o => granAddrs o.addr o.n))
  faultOn c k t (t.checkMem c l)
  return t

/-! ### A machine check within a step (07 R290; 08 R349; 09 R381) -/

/-- Memory as a step that was broken off leaves it: of the n octets at an address, those at the offsets done are written;
the bank stays as it was. -/
def State.broken (s : State) (c : CoreId) (b : BankId) (d : Done) (done : List Nat) : State :=
  let base := d.s.modBank c b (fun _ => s.bank c b)
  let kept := (granAddrs d.wrote.1 d.wrote.2).foldl (fun t a => t.setGran c a (s.gran c a)) base
  ((List.range d.wrote.2).filter (fun j => done.contains j)).foldl
    (fun t j => t.setByte c (d.wrote.1 + j) (d.s.byte c (d.wrote.1 + j))) kept

/-- A microword found uncorrectable, until the core's next reset (13 R520). -/
def State.noteBadWord (s : State) (c : CoreId) (w : Nat) : State :=
  s.modCore c (fun k => { k with badWords := if k.badWords.contains w then k.badWords else k.badWords ++ [w] })

/-- An instruction of opcode 0x86, which runs as a vendor routine (13 R531): where it would complete, an uncorrectable word that
its routine reaches raises MCHECK instead, with PC on it and nothing written (13 R520; 09 R371; log entry 100). -/
def vendorRoutine (badWord : Option (Fin 16384)) (c : CoreId) (body : State → BankId → Act) (s : State) (k : BankId) : Act :=
  match badWord, body s k with
  | some w, .ok d => .error (.become (((s.noteBadWord c w.val).charge c k d.cost).raiseMcheck c (fun b => ⟨b, false, 0, 0⟩)))
  | _, r => r

/-- An instruction between two interruption points, with the machine check it may meet: it ends as PARTIAL with PC on it,
and the check waits for its bank with the range that may have been written. `always` is R349's rule, which holds with nothing
written too; R290's needs the write of operand 1. The step's cycles are charged (log entry 100). -/
def interruptible (m : Meets) (always : Bool) (c : CoreId) (body : State → BankId → Act) (s : State) (k : BankId) : Act :=
  match m.check, body s k with
  | some done, .ok d =>
    let t := s.broken c k d done
    let u := match m.word with | some w => t.noteBadWord c w.val | none => t
    .error (.become ((u.charge c k d.cost).raiseMcheck c (fun b =>
      ⟨b, always || d.wrote.2 != 0, BitVec.ofNat 32 d.wrote.1, BitVec.ofNat 16 d.wrote.2⟩)))
  | _, r => r

/-- The cycles of one access to a storage operand (07 R289). -/
def accessCost (addr n : Nat) : Nat := (granAddrs addr n).length + (if isBay addr then 23 else 0)

/-- A decimal error as a trap (07 R275, R276). -/
def dtrap : DErr → Trap
  | .ovf cause => .fault 6 cause 0 0
  | .zero => .fault 7 1 0 0

/-- A decimal computation in an instruction. -/
def liftD {α : Type} (r : Except DErr α) : Except Trap α :=
  match r with
  | .error e => .error (dtrap e)
  | .ok x => .ok x

/-- A digit or sign that fails in a storage operand: its TAG cause (04 R151, R152). -/
def liftDigits {α : Type} (r : Except Nat α) (addr info : Nat) : Except Trap α :=
  match r with
  | .error k => .error (tagTrapAt k (BitVec.ofNat 32 addr) info)
  | .ok x => .ok x

end Sys2Proof.Machine
end

