-- ==== Sys2Proof/Machine/Requests.lean ====
section
/-! DEFINITION. Request instructions: SCRIBE, VCHAIN, VRESUME, MOVR, DRAW, SEAL, RCPT (06 R266 to R270, R826; 10 R413 to R416,
R447; 12 R508 to R510; 14 R544 to R548; 16 R633 to R646), and the release of a bank blocked on a full queue (06 R269). -/

namespace Sys2Proof.Machine

/-! ### Acceptance (14 R545 to R548) -/

/-- Whether the scribe accepts records: in the sill and the post of a span it has opened (06 R268). -/
def State.scribeOpen (s : State) : Bool := (s.t.phase == .sill || s.t.phase == .post) && s.scribe.spanOpen

/-- The free slots of the scribe's buffer (14 R546). -/
def State.scribeSlots (s : State) : Nat := 4096 - (s.scribe.leaves.filter (fun l => !l.written)).length

/-- The leaves of the span, with those that the draws in progress will still append (14 R545; 16 R641). -/
def State.spanRecords (s : State) : Nat := s.scribe.leaves.length + s.ds.draws.length

/-- Whether the span has a record left for bank 0 (14 R548). -/
def State.bank0Room (s : State) : Bool := s.scribe.bank0 + s.adm.scrAdm + 8 < s.t.k * 1000

/-! ### Full queues (06 R269) -/

/-- The banks that wait for a slot of the scribe's buffer and found it full before a bank did (14 R547); a bank 0 that waits
for a record of the next span (R548) is none of them. -/
def State.scribeWaiters (s : State) (c : CoreId) (b : BankId) : Nat :=
  ((s.scribe.waitq.takeWhile (· != (c, b))).filter (fun p => p.2 != 0 || s.bank0Room)).length

/-- Whether a queue has room for a bank's next instruction. A SCRIBE is accepted in its turn: a bank that found the buffer
full keeps its place until its SCRIBE is accepted, made READY or not (14 R547). No span takes more than k × 1,000 leaves (R545):
a SCRIBE beyond them, which only bank T or an earlier bank-0 record can bring about, waits for the next span. -/
def State.queueRoom (s : State) (c : CoreId) (b : BankId) (q : QueueKind) : Bool :=
  match q with
  | .scribe => s.scribeOpen && s.scribeWaiters c b < s.scribeSlots && (b != 0 || s.bank0Room) && s.spanRecords < s.t.k * 1000
  | .chains => (s.chainList.filter (fun (_, x) => x.core == c && x.bank == b)).length < 4 && s.chainList.length < 64
  | .moves =>
    (s.mover.cmds.filter (fun m => m.core == c && m.bank == b)).length < 8
      && (b == 0 || (s.mover.cmds.filter (fun m => !m.service)).length < 128)
  | .draw =>
    s.ds.draws.length < 8 && s.ds.draws.all (fun r => !(r.core == c && r.bank == b))
      && (b != 0 || s.bank0Room)
  | .seal => s.ds.seals.all (fun r => !(r.core == c && r.bank == b))
  | .receipt => s.ds.rcpts.all (fun r => !(r.core == c && r.bank == b))

/-- A bank's place among those that wait for the scribe's buffer, taken once. -/
def State.joinScribe (s : State) (c : CoreId) (b : BankId) : State :=
  if s.scribe.waitq.contains (c, b) then s else { s with scribe := { s.scribe with waitq := s.scribe.waitq ++ [(c, b)] } }

/-- The test before a request issues: with its queue full the bank blocks, nothing charged; bank T, which never blocks
(09 R407), waits in OP. -/
def queueTest (s : State) (c : CoreId) (k : BankId) (q : QueueKind) : Except Trap Unit :=
  if s.queueRoom c k q then .ok ()
  else
    let s1 := if q = .scribe then s.joinScribe c k else s
    if k = bankT then .error (.become s1)
    else .error (.become (((s1.block c k (.queue q)).wakeBank c k).wakeHeld c k))

/-- QUEUE_ROOM (R269): a bank blocked on a queue that has room becomes READY. -/
def execQueueRoom (c : CoreId) (b : BankId) (s : State) : Res :=
  let k := s.bank c b
  match k.st, k.wait with
  | .blocked, some (.queue q) =>
    if s.queueRoom c b q then .next (s.modBank c b (fun v => v.makeReady s.t.clock)) else .next s
  | _, _ => .next s

/-! ### Operands in bay memory -/

/-- An operand of n octets that must lie wholly in bay memory: a bench address is UNMAPPED (06 R267; 10 R413). -/
def State.checkBay (s : State) (c : CoreId) (x : Access) (n : Nat) : Except Trap Nat :=
  let a := x.addr
  let inRange := 0 ≤ a && a < 2 ^ 32 && (x.base.tag == tREF || x.base.val.toNat < 2 ^ 32)
  if inRange && !isBay a.toNat then .error (protTrap 1 a.toNat x.acc.info)
  else if inRange && n ≠ 0 && !isBay (a.toNat + n - 1) then .error (protTrap 1 0x13EC0000 x.acc.info)
  else s.checkRange c x n

/-- A request block: in bay memory, readable and writable, aligned to its size, every granule RAW (10 R413, 16 R634). Answers
the state its read leaves, and its address. -/
def State.checkBlock (s : State) (c : CoreId) (k : BankId) (errs : Errs) (base : TVal) (n : Nat) : Except Trap (State × Nat) := do
  let _ ← s.checkBay c (mkAccess (s.bank c k) base 0 .load) n
  let a ← s.checkBay c (mkAccess (s.bank c k) base 0 .store) n
  need (a % n == 0) (alignTrap 1 a)
  let t ← s.readMem c k errs [⟨a, n, 4, some [tRAW]⟩]
  return (t, a)

/-- An address of a request block as a BIN base. -/
def binBase (n : Nat) : TVal := binNat n

/-- An output range a request block names (16 R634). -/
def State.checkOut (s : State) (c : CoreId) (k : BankId) (addr n align : Nat) : Except Trap Unit := do
  let a ← s.checkBay c (mkAccess (s.bank c k) (binBase addr) 0 .store) n
  need (a % align == 0) (alignTrap 1 a)
  s.checkMem c [⟨a, n, 5, some [tRAW]⟩]

/-- The handle of R416 and R826. -/
def handleOf (c : CoreId) (k : BankId) (seq : W16) (entry : Nat) : W32 :=
  BitVec.ofNat 32 (seq.toNat * 65536 + k.val % 16 * 4096 + c.val * 64 + entry)

/-- The job that runs in a bank, by its order of consumption. -/
def Bank.jobId (k : Bank) : Option Nat := k.job.map (fun j => j.job.id)

/-- One more scribe record of a bank's job counted (02 R72), or the breach of R270. -/
def scribeBudget (s : State) (c : CoreId) (k : BankId) : Except Trap State :=
  match (s.bank c k).job with
  | none => .ok s
  | some j =>
    if j.scrUsed ≥ j.job.cert.scrRec then
      .error (.become ((s.takeBudget c k 4).latch c k 9 4 0 0))
    else .ok (s.modBank c k (fun v => { v with job := some { j with scrUsed := j.scrUsed + 1 } }))

/-! ### The instructions -/

/-- SCRIBE (R266 to R268, R270, R544, R545, R548). Once it has room the bank waits no longer, whether it completes or faults
(R547). -/
def execScribe (c : CoreId) (d a b : Reg) (errs : Errs) (s : State) : Res :=
  issue c (fun s k => do
    queueTest s c k .scribe
    let s := s.leaveScribe c k
    faultOn c k s do
    let x ← readReg s c k a
    let y ← readReg s c k b
    destReg s c k d
    checkOpnds [baseOk 2 x, ⟨3, [tBIN], y⟩]
    let n := y.val.toNat
    need (1 ≤ n && n ≤ 512) riTrap
    let addr ← s.checkBay c (mkAccess (s.bank c k) x 0 .load) n
    need (addr % 16 == 0) (alignTrap 1 addr)
    let s ← s.readMem c k errs [⟨addr, n, 4, some [tRAW]⟩]
    let s1 ← scribeBudget s c k
    let body := s.octets c addr n
    let data := match (s.bank c k).job with
      | some j => leafData 1 c.val k.val j.job.cert.cls j.job.ring j.job.count.toNat body
      | none => leafData 4 c.val k.val 0 0 0 body
    let s2 := s1.appendLeaf data c k (s.bank c k).jobId
    let s3 : State := { s2 with scribe := { s2.scribe with bank0 := if k = 0 then s2.scribe.bank0 + 1 else s2.scribe.bank0 } }
    finish (s3.setReg c k d (binNat s.scribe.leaves.length)) (24 + cdiv n 64)) s

/-- The lowest free chain entry. -/
def State.freeEntry (s : State) : Nat := ((List.range 64).find? (fun e => (s.chainEnt e).isNone)).getD 0

/-- VCHAIN (R266, R413 to R416, R418, R426): the copy taken, the handle, and BAD_DESC where the copy is refused. -/
def execVchain (c : CoreId) (d a : Reg) (errs : Errs) (s : State) : Res :=
  issue c (fun s k => do
    need (k != bankT) riTrap
    queueTest s c k .chains
    let x ← readReg s c k a
    destReg s c k d
    checkOpnds [baseOk 2 x]
    let (s, addr) ← s.checkBlock c k errs x 128
    let v := s.bank c k
    let seq := v.chainSeq + 1
    let e := s.freeEntry
    let ent : ChainEnt := ⟨handleOf c k seq e, c, k, v.jobId, BitVec.ofNat 32 addr, s.octets c addr 128, v.tsw, .queued,
      false, s.lve.nextPlace, 0, 0, [], [], 0, 0, none⟩
    let s1 := s.modBank c k (fun v => { v with chainSeq := seq })
    let s2 : State := { s1 with lve := { s1.lve with nextPlace := s1.lve.nextPlace + 1 } }
    let s3 := match badDesc s ent.desc (k == 0) with
      | some o => (s2.faultChain e ent ⟨0, 1, o, 0, freeAddr s⟩).useFree 1
      | none => ((s2.setChainEnt e (some ent)).putChainState ent 1).updateVpos ent
    finish (s3.setReg c k d (binNat ent.handle.toNat)) 32) s

/-- The chain a handle names, if it may be resumed by a bank (10 R447). -/
def State.resumable (s : State) (c : CoreId) (k : BankId) (h : Payload) : Option (Nat × ChainEnt) :=
  (s.chainList.find? (fun (_, x) => x.handle.toNat == h.toNat && x.st == .faulted && x.core == c && x.bank == k))

/-- VRESUME (R447, R449). -/
def execVresume (c : CoreId) (d a : Reg) (errs : Errs) (s : State) : Res :=
  issue c (fun s k => do
    need (k != bankT) riTrap
    let x ← readReg s c k a
    destReg s c k d
    checkOpnds [⟨2, [tBIN], x⟩]
    match s.resumable c k x.val with
    | none => .error riTrap
    | some (e, y) =>
      let (s, _) ← s.checkBlock c k errs (binBase y.addr.toNat) 128
      faultOn c k s do
      let resume := fieldAt (s.octets c (y.addr.toNat + 68) 1) 0 1
      let bad := match y.fault with | some f => f.cause == 1 | none => false
      need (resume == 1 || (resume == 0 && !bad)) riTrap
      let s1 := s.modBank c k (fun v => { v with chainSeq := v.chainSeq + 1 })
      let s2 := if resume = 1 then s1.freeChain e y 6
        else
          let z := { y with st := .queued, entered := false, place := s.lve.nextPlace }
          let t : State := { s1 with lve := { s1.lve with nextPlace := s1.lve.nextPlace + 1 } }
          (t.setChainEnt e (some z)).putChainState z 1
      finish (s2.setReg c k d x) 32) s

/-! ### MOVR (12 R508 to R512, R514) -/

/-- The fields of a mover command. -/
structure MovOp where
  kind : Nat
  ss   : Nat
  ds   : Nat
  len  : Nat
  src  : Nat
  dst  : Nat

/-- The fields of a command's octets. -/
def movOp (d : Octets) : MovOp :=
  ⟨fieldAt d 0 1, fieldAt d 1 1 % 16, fieldAt d 1 1 / 16, fieldAt d 4 4, fieldAt d 8 8, fieldAt d 16 8⟩

/-- Whether a command breaks its table: reserved fields or values, nonzero STATE, ERROR or DONE_BYTES, overlap (R510). -/
def movBad (d : Octets) : Bool :=
  let m := movOp d
  m.kind == 0 || m.kind > 3 || m.ss > 4 || m.ds > 4 || !zeroAt d 2 2 || m.len == 0 || m.len > 268435456 || !zeroAt d 24 8
    || (m.kind == 3 && (m.ss != 0 || m.src != 0))
    || (m.kind != 3 && m.ss == m.ds && m.src < m.dst + m.len && m.dst < m.src + m.len)

/-- Whether a range lies in a space (12 R478). -/
def State.inMovSpace (s : State) (space off len : Nat) : Bool :=
  match space with
  | 0 => off + len ≤ 0x80000
  | 1 => isBay off && isBay (off + len - 1)
  | 2 => off + len ≤ s.hbmBytes
  | 3 => off + len ≤ 0x40000000
  | _ => off + len ≤ 2 ^ 64

/-- Whether a space is tagged. -/
def taggedSpace (space : Nat) : Bool := space ≤ 2

/-- Whether a host range lies within what a job may reach, or for bank 0 within the window of CTRL_RING (03 R98). After PERST_N the
windows of the jobs dispatched before are gone; their host moves are taken and fail when they are performed (19 R738). -/
def State.hostRangeOk (s : State) (job : Option JobRun) (read : Bool) (off len : Nat) : Bool :=
  match job with
  | none => s.host.ctrl.wbase.toNat ≤ off && off + len ≤ s.host.ctrl.wlimit.toNat + 1
  | some j =>
    let w := if j.job.ring = 0 then (s.host.ctrl.wbase.toNat, s.host.ctrl.wlimit.toNat)
      else match s.host.rings.get Ring.absent j.job.ring with | r => (r.ctx.winBase.toNat, r.ctx.winLimit.toNat)
    let d := j.job.desc
    let lo := if read then fieldAt d 8 8 else fieldAt d 24 8
    let n := if read then fieldAt d 16 4 else fieldAt d 20 4
    (j.job.id < s.host.discardBelow || (w.1 ≤ off && off + len ≤ w.2 + 1)) && lo ≤ off && off + len ≤ lo + n

/-- The frames or regions of a range that refuse it (12 R486, R510): the cause and the address. -/
def State.movRefused (s : State) (c : CoreId) (key : BitVec 4) (super : Bool) (space off len : Nat) (acc : Acc) :
    Option (Nat × Nat) :=
  match space with
  | 0 | 1 =>
    (List.range ((off + len - 1) / 4096 - off / 4096 + 1)).findSome? (fun i =>
      let a := max off ((off / 4096 + i) * 4096)
      (s.accCause c a acc key super).map (fun k => (k, a)))
  | 2 =>
    (List.range ((off + len - 1) / 2 ^ 30 - off / 2 ^ 30 + 1)).findSome? (fun i =>
      let a := max off ((off / 2 ^ 30 + i) * 2 ^ 30)
      (frameCause (s.region a) true acc key super).map (fun k => (k, a)))
  | _ => none

/-- The checks of R510 on a command's ranges. -/
def State.checkMov (s : State) (c : CoreId) (k : BankId) (m : MovOp) : Except Trap Unit := do
  let v := s.bank c k
  let super := tswMode v.tsw
  let src := m.kind != 3
  need (super || !(m.ds == 3 || (src && m.ss == 3))) privTrap
  need (!src || s.inMovSpace m.ss m.src m.len) (protTrap 2 (m.src % 2 ^ 32) 1)
  need (s.inMovSpace m.ds m.dst m.len) (protTrap 2 (m.dst % 2 ^ 32) 2)
  let both := m.kind == 1 && taggedSpace m.ss && taggedSpace m.ds
  need (!both || (m.src % 16 == 0 && m.len % 16 == 0)) (alignTrap 1 (m.src % 2 ^ 32))
  need (!both || m.dst % 16 == 0) (alignTrap 1 (m.dst % 2 ^ 32))
  need (!(src && m.ss == 4) || s.hostRangeOk v.job true m.src m.len) (protTrap 2 (m.src % 2 ^ 32) 1)
  need (m.ds != 4 || s.hostRangeOk v.job false m.dst m.len) (protTrap 2 (m.dst % 2 ^ 32) 2)
  match (if src then s.movRefused c (tswKey v.tsw) super m.ss m.src m.len .load else none) with
  | some (cause, a) => .error (protTrap cause (a % 2 ^ 32) 1)
  | none =>
    match s.movRefused c (tswKey v.tsw) super m.ds m.dst m.len .store with
    | some (cause, a) => .error (protTrap cause (a % 2 ^ 32) 2)
    | none => .ok ()

/-- The mover bytes of a job's command counted, or the breach of R270. -/
def moverBudget (s : State) (c : CoreId) (k : BankId) (n : Nat) : Except Trap State :=
  match (s.bank c k).job with
  | none => .ok s
  | some j =>
    if j.movUsed + n > j.job.cert.movBytes then
      .error (.become ((s.takeBudget c k 3).latch c k 9 3 0 0))
    else .ok (s.modBank c k (fun v => { v with job := some { j with movUsed := j.movUsed + n } }))

/-- The lowest free command slot of a bank (06 R826). -/
def State.freeSlot (s : State) (c : CoreId) (k : BankId) : Nat :=
  ((List.range 8).find? (fun e => s.mover.cmds.all (fun m => !(m.core == c && m.bank == k && m.slot == e)))).getD 0

/-- MOVR (R266, R508 to R512). -/
def execMovr (c : CoreId) (d a : Reg) (errs : Errs) (s : State) : Res :=
  issue c (fun s k => do
    queueTest s c k .moves
    let x ← readReg s c k a
    destReg s c k d
    checkOpnds [baseOk 2 x]
    let acc := mkAccess (s.bank c k) x 0 .load
    need (!(0 ≤ acc.addr && acc.addr < 2 ^ 32 && isBay acc.addr.toNat)) (protTrap 1 acc.addr.toNat 1)
    let addr ← s.checkRange c acc 32
    need (addr % 32 == 0) (alignTrap 1 addr)
    let s ← s.readMem c k errs [⟨addr, 32, 4, some [tRAW]⟩]
    faultOn c k s do
    let cmd := s.octets c addr 32
    let m := movOp cmd
    need (!movBad cmd) riTrap
    s.checkMov c k m
    let s1 ← moverBudget s c k m.len
    let slot := s.freeSlot c k
    let seq := (s.bank c k).moverSeq + 1
    let ent : MovCmd := ⟨c, k, slot, (s.bank c k).jobId, BitVec.ofNat 32 addr, cmd, (s.bank c k).tsw, false, s.mover.order, false, 0⟩
    let s2 := s1.modBank c k (fun v => { v with moverSeq := seq })
    let s3 : State := { s2 with mover := ⟨s2.mover.cmds ++ [ent], s2.mover.order + 1⟩ }
    finish ((s3.putMov ent 1 0 0).setReg c k d (binNat (handleOf c k seq slot).toNat)) 4) s

/-! ### DRAW, SEAL, RCPT (16 R633 to R646) -/

/-- Whether a draw request block takes RI (16 R635). -/
def drawBad (d : Octets) : Bool :=
  let lo := fieldAt d 16 2; let hi := fieldAt d 18 2; let n := fieldAt d 2 1; let f := fieldAt d 1 1
  fieldAt d 0 1 != 1 || f > 1 || n == 0 || n > 64 || fieldAt d 3 1 != 0 || hi < lo || !zeroAt d 20 4 || !zeroAt d 28 4
    || (f == 1 && n > hi - lo + 1)

/-- DRAW (R633 to R636, R641). -/
def execDraw (c : CoreId) (d a : Reg) (errs : Errs) (s : State) : Res :=
  issue c (fun s k => do
    need (k != bankT) riTrap
    queueTest s c k .draw
    let x ← readReg s c k a
    destReg s c k d
    checkOpnds [baseOk 2 x]
    let (s, addr) ← s.checkBlock c k errs x 64
    faultOn c k s do
    let blk := s.octets c addr 64
    need (!drawBad blk) riTrap
    s.checkOut c k (fieldAt blk 24 4) 160 16
    let s1 ← scribeBudget s c k
    let seq := (s.bank c k).drawSeq + 1
    let s2 := s1.modBank c k (fun v => { v with drawSeq := seq })
    let r : EngReq := ⟨c, k, (s.bank c k).jobId, BitVec.ofNat 32 addr, blk, (s.bank c k).tsw, s.t.span, s.t.clock, [], true⟩
    let s3 : State := { s2 with
      ds := { s2.ds with draws := s2.ds.draws ++ [r] }
      scribe := { s2.scribe with bank0 := if k = 0 then s2.scribe.bank0 + 1 else s2.scribe.bank0 } }
    finish (s3.setReg c k d (binNat (handleOf c k seq 0).toNat)) 32) s

/-- Output octets of a seal operation (16 R646). -/
def sealOutLen (op n : Nat) : Nat :=
  match op with
  | 1 | 3 => 32
  | 2 => 48
  | 4 => n + 16
  | 5 => n - 16
  | 6 => 96
  | _ => 0

/-- Whether a seal request block takes RI (16 R645, R646). -/
def sealBad (d : Octets) : Bool :=
  let op := fieldAt d 0 1; let n := fieldAt d 4 4; let gcm := op == 4 || op == 5
  op == 0 || op > 7 || (op ≤ 2 && fieldAt d 1 1 != 0) || fieldAt d 2 1 != 0 || fieldAt d 3 1 != 0 || n > 4096
    || (if gcm then fieldAt d 20 4 > 1024 else !zeroAt d 16 8) || (!gcm && !zeroAt d 24 12) || !zeroAt d 40 24
    || (op == 5 && n < 16) || (op == 6 && n != 48) || (op == 7 && n != 144)

/-- The key a seal request names, as it stands at issue, and whether its slot permits the operation (16 R646; 17 R662, R664,
R666): OP 1 and 2 need none; the others a key of slots 16 to 95 whose USES names the operation. -/
def State.sealKey (s : State) (op slot : Nat) : Octets × Bool :=
  if op ≤ 2 then ([], true)
  else
    match s.key slot with
    | some k => (k.key, 16 ≤ slot && slot ≤ 95 && k.uses.testBit op)
    | none => ([], false)

/-- SEAL (R633, R634, R645, R646). -/
def execSeal (c : CoreId) (d a : Reg) (errs : Errs) (s : State) : Res :=
  issue c (fun s k => do
    need (k != bankT) riTrap
    queueTest s c k .seal
    let x ← readReg s c k a
    destReg s c k d
    checkOpnds [baseOk 2 x]
    let (s, addr) ← s.checkBlock c k errs x 64
    faultOn c k s do
    let blk := s.octets c addr 64
    let op := fieldAt blk 0 1
    need (!(op == 6 || op == 7) || k == 0) privTrap
    need (!sealBad blk) riTrap
    let n := fieldAt blk 4 4
    if n ≠ 0 then
      let _ ← s.checkBay c (mkAccess (s.bank c k) (binBase (fieldAt blk 8 4)) 0 .load) n
    if fieldAt blk 20 4 ≠ 0 then
      let _ ← s.checkBay c (mkAccess (s.bank c k) (binBase (fieldAt blk 16 4)) 0 .load) (fieldAt blk 20 4)
    if sealOutLen op n ≠ 0 then
      s.checkOut c k (fieldAt blk 12 4) (sealOutLen op n) 16
    let seq := (s.bank c k).sealSeq + 1
    let key := s.sealKey op (fieldAt blk 1 1)
    let r : EngReq := ⟨c, k, (s.bank c k).jobId, BitVec.ofNat 32 addr, blk, (s.bank c k).tsw, s.t.span, s.t.clock, key.1, key.2⟩
    let s1 := s.modBank c k (fun v => { v with sealSeq := seq })
    let s2 : State := { s1 with ds := { s1.ds with seals := s1.ds.seals ++ [r] } }
    finish (s2.setReg c k d (binNat (handleOf c k seq 0).toNat)) 32) s

/-- RCPT (R633, R643). -/
def execRcpt (c : CoreId) (d a b : Reg) (s : State) : Res :=
  issue c (fun s k => do
    need (k != bankT) riTrap
    queueTest s c k .receipt
    let x ← readReg s c k a
    let y ← readReg s c k b
    destReg s c k d
    checkOpnds [⟨2, [tBIN], x⟩, baseOk 3 y]
    let addr ← s.checkBay c (mkAccess (s.bank c k) y 0 .store) 32
    need (addr % 32 == 0) (alignTrap 1 addr)
    let i := x.val.toNat
    match s.scribe.leaves[i]?, (s.bank c k).jobId with
    | some l, some j =>
      need (l.core == c && l.bank == k && l.job == some j && !l.receipted) riTrap
      let seq := (s.bank c k).rcptSeq + 1
      let r : RcptReq := ⟨c, k, some j, BitVec.ofNat 32 addr, s.t.clock, s.t.span, i, leafHash l.data, s.keyOctets 5⟩
      let s1 := s.modBank c k (fun v => { v with rcptSeq := seq })
      let s2 : State := { s1 with
        ds := { s1.ds with rcpts := s1.ds.rcpts ++ [r] }
        scribe := { s1.scribe with leaves := s1.scribe.leaves.set i { l with receipted := true } } }
      finish (s2.setReg c k d (binNat (handleOf c k seq 0).toNat)) 4
    | _, _ => .error riTrap) s

end Sys2Proof.Machine
end

