-- ==== Sys2Proof/Machine/Draw.lean ====
section
/-! DEFINITION. The draw unit, the receipt pipe and the seal engine: draws and their evidence (16 R627 to R642), receipts
(14 R555, R556; 16 R643, R644), seal requests (16 R645 to R648), the draw commands (16 R657). -/

namespace Sys2Proof.Machine

/-! ### Draws (16 R635 to R642) -/

/-- The least b with 2^b at least m (16 R637). -/
def bitsFor (m : Nat) : Nat := if m ≤ 1 then 0 else Nat.log2 (m - 1) + 1

/-- How a selection ends: STATUS, the numbers, the words rejected. -/
abbrev Drawn := Nat × List Nat × Nat

/-- The selection of R637 over the generator's words; none where they end before the draw does. `left` numbers are still
to draw, `tries` words have been tried for the present one. -/
def select (low m : Nat) (distinct : Bool) : List W32 → (left tries rejects : Nat) → (drawn : List Nat) → Option Drawn
  | ws, left, tries, rejects, drawn =>
    if left = 0 then some (1, drawn, rejects)
    else if tries = 4096 then some (3, drawn, rejects)
    else match ws with
      | [] => none
      | w :: r =>
        let v := w.toNat % 2 ^ bitsFor m
        if v < m ∧ !(distinct && drawn.contains (low + v)) then select low m distinct r (left - 1) 0 rejects (drawn ++ [low + v])
        else select low m distinct r left (tries + 1) (rejects + 1) drawn

/-- NUMBERS (16 R639). -/
def numbersOctets (l : List Nat) : Octets := padTo 128 (l.flatMap (leBytes 2))

/-- BITSET (16 R639). -/
def bitsetOctets (high : Nat) (l : List Nat) : Octets :=
  leBytes 16 (if high ≤ 127 then l.foldl (fun n v => n ||| 2 ^ v) 0 else 0)

/-- Where the evidence leaf of a draw that completes now goes: its span and leaf index (16 R640). -/
def State.evidencePlace (s : State) : Nat × Nat :=
  if s.scribeOpen then (s.t.span, s.scribe.leaves.length) else (s.t.span + 1, s.scribe.carried.length)

/-- The evidence leaf appended, or kept for the next span (16 R640). -/
def State.appendEvidence (s : State) (c : CoreId) (b : BankId) (data : Octets) : State :=
  if s.scribeOpen then s.appendLeaf data c b none
  else { s with scribe := { s.scribe with carried := s.scribe.carried ++ [data] } }

/-- The evidence record up to its signature (16 R642). -/
def evidenceBody (s : State) (d : Octets) (status span rejects : Nat) (nums : List Nat) : Octets :=
  leBytes 2 1 ++ [octet s.chain.cfg.device, octet status, d.getD 1 0, d.getD 2 0] ++ zeros 2 ++ slice d 4 4
    ++ leBytes 4 s.chain.cfg.chainId.toNat ++ slice d 8 8 ++ leBytes 6 span ++ zeros 2 ++ slice d 16 4 ++ leBytes 4 rejects
    ++ leBytes 8 s.ds.reseeds ++ leBytes 4 s.ds.health.toNat ++ zeros 12 ++ numbersOctets nums
    ++ bitsetOctets (fieldAt d 18 2) nums ++ slice d 32 32 ++ s.privKeyId 4

/-- A draw complete: evidence leaf, result area, STATUS, the record on the regulator port, source 168 on the requesting
core; the job's completion follows where it waited (16 R638 to R640, R648; 09 R409). -/
def State.finishDraw (s : State) (r : EngReq) (status : Nat) (nums : List Nat) (rejects : Nat) : State :=
  let (span, leaf) := s.evidencePlace
  let body := evidenceBody s r.block status span rejects nums
  let rec_ := body ++ s.sign 4 body
  let s1 := (s.useFree 48).appendEvidence r.core r.bank (leafData 3 0xFF 0 0 0 0 rec_)
  let area := numbersOctets nums ++ bitsetOctets (fieldAt r.block 18 2) nums ++ leBytes 6 span ++ leBytes 3 leaf ++ zeros 7
  let s2 := (s1.engPut r.core (fieldAt r.block 24 4) area).engPut r.core (r.addr.toNat + 3) [octet status]
  let s3 := regSend s2 2 (leBytes 6 span ++ leBytes 3 leaf ++ zeros 7 ++ rec_)
  let s4 := ({ s3 with ds := { s3.ds with draws := s3.ds.draws.erase r, done := s3.ds.done + 1 } }).raiseOn r.core 168 0
  match r.job with
  | some j => s4.settle j
  | none => s4

/-- A failed health test (16 R629): FAILED, both instances uninstantiated, every queued draw ends ENTROPY, source 169, a pinned
entry. -/
def State.entropyFailed (s : State) (test : Nat) (health : W32) : State :=
  let s1 : State := { s with ds := { s.ds with st := .failed, health := health, inst := none, service := none } }
  let s2 := s.ds.draws.foldl (fun t r => t.finishDraw r 2 [] 0) s1
  (s2.raise 169 0).trouble true 0x0050 9 0xFF (octet test :: leBytes 4 health.toNat)

/-- Raw bits taken from the source while no test has failed (16 R628). -/
def State.takeRaw (s : State) (raw : List Bool) : State :=
  match feed s.ds.mon s.ds.health raw with
  | (m, h, some test) => ({ s with ds := { s.ds with mon := m } } : State).entropyFailed test h
  | (m, h, none) => { s with ds := { s.ds with mon := m, health := h } }

/-- The words of the most blocks that a draw can take: 64 numbers of 4,096 tries. -/
def drawBlocks : Nat := 65536

/-- The selection of a draw from an instance (16 R637). -/
def drawFrom (d : Drbg) (block : Octets) : Option Drawn :=
  let low := fieldAt block 16 2
  select low (fieldAt block 18 2 + 1 - low) ((block.getD 1 0).getLsbD 0) (d.words drawBlocks 0) (fieldAt block 2 1) 0 0 []

/-- The first draw completes from an instance reseeded for it (16 R632, R637). -/
def State.drawWith (s : State) (d : Drbg) (r : EngReq) : State :=
  match drawFrom d r.block with
  | none => s
  | some (status, nums, rejects) =>
    let s1 := { s with ds := { s.ds with
      reseeds := s.ds.reseeds + 1, inst := some (d.after ((nums.length + rejects + 3) / 4) 0) } }
    s1.finishDraw r status (if status = 1 then nums else []) rejects

/-- DRAW_DONE (R637 to R642): the first draw completes. `raw` are the bits that the source delivers for its reseed, at least 1,024
for each of two conditioned outputs (R630), which go through the tests; while the unit is FAILED it ends ENTROPY (R629). -/
def execDrawDone (raw : List Bool) (s : State) : Res :=
  match s.ds.draws, s.ds.inst with
  | [], _ => .next s
  | r :: _, none => .next (s.finishDraw r 2 [] 0)
  | r :: _, some d =>
    if raw.length < 2048 then .next s
    else
      let t := s.takeRaw raw
      if t.ds.st = .failed then .next t
      else
        let n := raw.length / 2
        .next (t.drawWith (d.reseed (entropyInput (raw.take n) (raw.drop n))) r)

/-- ENTROPY_FAIL (R629): raw bits that the source delivers, of which some fail a test. -/
def execEntropyFail (raw : List Bool) (s : State) : Res :=
  if s.ds.st = .failed then .next s else .next (s.takeRaw raw)

/-- Both instances instantiated where they are not (16 R629, R631), from four conditioned outputs. -/
def State.instantiate (s : State) (raw : List Bool) : State :=
  if s.ds.inst.isSome then s
  else
    let part := fun (i : Nat) => (raw.drop (1024 * i)).take 1024
    let person := s.devCertDigest
    { s with ds := { s.ds with
      reseeds := 0
      inst := some (Drbg.instantiate (entropyInput (part 0) (part 1)) person)
      service := some (Drbg.instantiate (entropyInput (part 2) (part 3)) person) } }

/-- The start-up tests over 4,096 bits, which are discarded (16 R628): the unit is READY where they pass, and the bits after them,
which go on through the tests, seed the instances. Ports that waited for the service instance go on. -/
def State.startTests (s : State) (raw : List Bool) : State :=
  let s1 := ({ s with ds := { s.ds with st := .testing, mon := EntropyMon.start } } : State).takeRaw raw
  if s1.ds.st = .failed then s1
  else
    let s2 := ({ s1 with ds := { s1.ds with st := .ready } } : State).instantiate (raw.drop 4096)
    allPorts.foldl (fun t p => if (t.port p).st = .training then t.attest p else t) s2

/-- ENTROPY_RETEST (R657). -/
def execEntropyRetest (raw : List Bool) (s : State) : Res :=
  devRow 45 (fun _ t =>
    let u := t.startTests raw
    (u, if u.ds.st = .failed then ⟨stJOBFAULT, 0, 0, 0⟩ else .done)) s

/-- The state codes of the draw unit (16 R657). -/
def DrawSt.code : DrawSt → Nat
  | .ready => 0
  | .failed => 1
  | .testing => 2

/-- DRAW_STATUS (R657). -/
def execDrawStatus (s : State) : Res :=
  devRow 44 (fun d t => t.cmdWrite (fieldAt d.desc 8 8)
    ([octet t.ds.st.code] ++ zeros 7 ++ leBytes 8 t.ds.reseeds ++ leBytes 8 t.ds.done ++ leBytes 4 t.ds.health.toNat ++ zeros 4)
    .done) s

/-! ### Units that serve cores in rotation (16 R644, R647) -/

/-- How far a core stands behind the one served last. -/
def turn (last c : CoreId) : Nat := (c.val + 63 - last.val) % 64

/-- The request that a unit takes next, with the clock at which it does: as soon as it is free and a request is there, and of those
there then the first in rotation after the core served last. -/
def nextServed {α : Type} (at_ : α → Nat) (core : α → CoreId) (free : Nat) (last : CoreId) (l : List α) : Option (Nat × α) :=
  match l with
  | [] => none
  | x :: r =>
    let t0 := max free (r.foldl (fun m y => min m (at_ y)) (at_ x))
    (l.filter (fun y => at_ y ≤ t0)).foldl (fun best y => match best with
      | none => some (t0, y)
      | some (_, z) => if turn last (core y) < turn last (core z) then some (t0, y) else best) none

/-- The receipt the pipe takes next, and the seal request the bulk unit does (16 R646: OP 1 to 5). -/
def State.nextReceipt (s : State) : Option (Nat × RcptReq) :=
  nextServed RcptReq.at_ RcptReq.core s.ds.rcptFree s.ds.rcptLast s.ds.rcpts
def bulk (r : EngReq) : Bool := fieldAt r.block 0 1 ≤ 5
def State.nextBulk (s : State) : Option (Nat × EngReq) :=
  nextServed EngReq.at_ EngReq.core s.ds.sealFree s.ds.sealLast (s.ds.seals.filter bulk)

/-! ### Receipts (14 R555, R556; 16 R643, R644) -/

/-- The receipt of a leaf; with no receipt key its MAC is left open (log entry 17). -/
def receiptOctets (s : State) (r : RcptReq) : Octets :=
  let place := leBytes 6 r.span ++ leBytes 3 r.leaf
  let mac := if r.key = [] then freeOctets s 8 else (hmacSha256 r.key (octet s.chain.cfg.device :: place ++ r.hash)).take 8
  padTo 32 (place ++ [octet s.chain.cfg.device] ++ mac)

/-- RECEIPT_DONE (R644): the receipt of the request whose turn it is; the pipe takes one every 2 cycles. -/
def execReceiptDone (c : CoreId) (b : BankId) (s : State) : Res :=
  match s.nextReceipt with
  | none => .next s
  | some (t0, r) =>
    if r.core ≠ c ∨ r.bank ≠ b then .next s
    else
      let s1 := (s.engPut c r.addr.toNat (receiptOctets s r)).useFree 8
      let s2 : State := { s1 with ds := { s1.ds with rcpts := s1.ds.rcpts.erase r, rcptFree := t0 + 2, rcptLast := c } }
      .next (match r.job with
        | some j => s2.settle j
        | none => s2)

/-! ### Seal requests (16 R645 to R648) -/

/-- Whether every granule of an input is RAW (16 R648). -/
def State.rawInput (s : State) (c : CoreId) (addr n : Nat) : Bool :=
  n == 0 || (granAddrs addr n).all (fun a => (s.gran c a).tag == tRAW)

/-- What an operation gives, with the nonce of OP 4: STATUS and the output (16 R646). -/
def sealResult (s : State) (iv : Octets) (r : EngReq) : Nat × Octets :=
  let d := r.block
  let inp := s.octets r.core (fieldAt d 8 4) (fieldAt d 4 4)
  let aad := s.octets r.core (fieldAt d 16 4) (fieldAt d 20 4)
  match fieldAt d 0 1 with
  | 1 => (1, sha256 inp)
  | 2 => (1, sha384 inp)
  | 3 => (1, hmacSha256 r.key inp)
  | 4 => let (ct, tag) := gcmSeal r.key iv aad inp
    (1, ct ++ tag)
  | 5 =>
    match gcmOpen r.key (slice d 24 12) aad (inp.take (inp.length - 16)) (inp.drop (inp.length - 16)) with
    | some pt => (1, pt)
    | none => (3, [])
  | 6 => (1, ecdsaSign r.key (freeOctets s 48) inp)
  | _ => (if ecdsaVerify r.key (inp.take 48) (inp.drop 48) then 1 else 3, [])

/-- A seal request carried out with a nonce for OP 4: outputs, then OUT_LEN and STATUS. A key or input that does not serve
writes STATUS alone. -/
def State.doSeal (s : State) (iv : Octets) (r : EngReq) : State :=
  let d := r.block
  let a := r.addr.toNat
  let st (t : State) (n : Nat) : State :=
    let u := t.engPut r.core (a + 2) [octet n]
    if n = 1 then u else u.raiseOn r.core 176 0
  if !r.keyOk then st s 2
  else if !(s.rawInput r.core (fieldAt d 8 4) (fieldAt d 4 4) && s.rawInput r.core (fieldAt d 16 4) (fieldAt d 20 4)) then st s 4
  else
    let (status, out) := sealResult s iv r
    let s1 := s.engPut r.core (fieldAt d 12 4) out
    let s2 := if fieldAt d 0 1 = 4 then s1.engPut r.core (a + 24) iv else s1
    st ((s2.engPut r.core (a + 36) (leBytes 4 out.length)).useFree 48) status

/-- The nonce that a request needs from the service instance (16 R631, R646): none where it has to wait for that instance. -/
def State.sealNonce (s : State) (r : EngReq) : Option (Octets × State) :=
  if fieldAt r.block 0 1 = 4 ∧ r.keyOk then s.serviceOctets 12 else some ([], s)

/-- A request's cycles in the bulk unit (16 R647). -/
def bulkCycles (d : Octets) : Nat := 64 + cdiv (fieldAt d 4 4 + fieldAt d 20 4) 32

/-- A seal request taken out of its unit: the bulk unit is free again after the request's cycles. -/
def State.sealTaken (s : State) (r : EngReq) : State :=
  match (if bulk r then s.nextBulk else none) with
  | some (t0, _) => { s with ds := { s.ds with seals := s.ds.seals.erase r, sealFree := t0 + bulkCycles r.block, sealLast := r.core } }
  | none => { s with ds := { s.ds with seals := s.ds.seals.erase r } }

/-- The request that a SEAL_DONE ends: of the bulk unit the one whose turn it is, of the signer pool's any (16 R647). -/
def State.sealServed (s : State) (c : CoreId) (b : BankId) : Option EngReq :=
  match s.ds.seals.find? (fun r => r.core == c && r.bank == b) with
  | none => none
  | some r => if !bulk r || (s.nextBulk.map Prod.snd) == some r then some r else none

/-- SEAL_DONE (R646 to R648), with the errors the engine's reads of its input find (12 R497 to R499). An encryption waits while the
service instance is not instantiated (16 R629; log entry 106). -/
def execSealDone (c : CoreId) (b : BankId) (errs : Errs) (s : State) : Res :=
  match s.sealServed c b with
  | none => .next s
  | some r =>
    match s.sealNonce r with
    | none => .next s
    | some (iv, t) =>
      let s1 := (t.findErrors r.core errs (granAddrs (fieldAt r.block 8 4) (fieldAt r.block 4 4)
        ++ granAddrs (fieldAt r.block 16 4) (fieldAt r.block 20 4))).doSeal iv r
      let s2 := s1.sealTaken r
      .next (match r.job with
        | some j => s2.settle j
        | none => s2)

end Sys2Proof.Machine
end

