-- ==== Sys2Proof/Machine/Decimal.lean ====
section
/-! DEFINITION. DEC, DW, packed and conversion instructions (07 R273 to R293). -/

namespace Sys2Proof.Machine

/-- A DEC result written, CC its sign (07 R277). -/
def decDone (s : State) (c : CoreId) (k : BankId) (d : Reg) (r : Except DErr Dec) (cost : Nat) : Act := do
  let x ← liftD r
  finish ((s.setReg c k d (decVal x)).setBankCc c k (ccOfInt x.v)) cost

/-- A DEC instruction of two operands. -/
def dec2 (f : Dec → Dec → Except DErr Dec) (cost : Nat) (c : CoreId) (d a b : Reg) (s : State) (k : BankId) : Act := do
  let x ← readReg s c k a
  let y ← readReg s c k b
  destReg s c k d
  checkOpnds [⟨2, [tDEC], x⟩, ⟨3, [tDEC], y⟩]
  decDone s c k d (f (decOf x.val) (decOf y.val)) cost

/-- A DEC instruction of one operand. -/
def dec1 (f : State → BankId → Dec → Except DErr Dec) (cost : Nat) (c : CoreId) (d a : Reg) (s : State) (k : BankId) : Act := do
  let x ← readReg s c k a
  destReg s c k d
  checkOpnds [⟨2, [tDEC], x⟩]
  decDone s c k d (f s k (decOf x.val)) cost

/-- DADD (R278). -/
def execDadd (c : CoreId) (d a b : Reg) (s : State) : Res := issue c (dec2 dadd 3 c d a b) s
/-- DSUB (R278). -/
def execDsub (c : CoreId) (d a b : Reg) (s : State) : Res := issue c (dec2 dsub 3 c d a b) s
/-- DMUL (R278). -/
def execDmul (c : CoreId) (d a b : Reg) (s : State) : Res := issue c (dec2 dmul 12 c d a b) s
/-- DDIVX (R278). -/
def execDdivx (c : CoreId) (d a b : Reg) (s : State) : Res := issue c (dec2 ddivx 70 c d a b) s
/-- DNEG (R278). -/
def execDneg (c : CoreId) (d a : Reg) (s : State) : Res := issue c (dec1 (fun _ _ x => .ok ⟨-x.v, x.scale⟩) 3 c d a) s
/-- DABS (R278). -/
def execDabs (c : CoreId) (d a : Reg) (s : State) : Res := issue c (dec1 (fun _ _ x => .ok ⟨x.v.natAbs, x.scale⟩) 3 c d a) s

/-- DCMP (R278). -/
def execDcmp (c : CoreId) (a b : Reg) (s : State) : Res :=
  issue c (fun s k => do
    let x ← readReg s c k a
    let y ← readReg s c k b
    checkOpnds [⟨2, [tDEC], x⟩, ⟨3, [tDEC], y⟩]
    finish (s.setBankCc c k (ccOfOrd (dcmp (decOf x.val) (decOf y.val)))) 3) s

/-- DRESC (R278): a scale above 32 takes RI. -/
def execDresc (c : CoreId) (d a : Reg) (scale : BitVec 6) (s : State) : Res :=
  issue c (fun s k => do
    need (scale.toNat ≤ 32) riTrap
    dec1 (fun _ _ x => dresc x scale.toNat) 3 c d a s k) s

/-- DRND (R279): rounds under DRM. -/
def execDrnd (c : CoreId) (d a : Reg) (scale : BitVec 6) (s : State) : Res :=
  issue c (fun s k => do
    need (scale.toNat ≤ 32) riTrap
    dec1 (fun t b x => drnd (tswDrm (t.bank c b).tsw) x scale.toNat) 4 c d a s k) s

/-- The register with the next code. -/
def nextReg (d : Reg) : Reg := d + 1

/-- DDIVB (R281): the quantum, named by d + 1, is checked first with INFO 1. -/
def execDdivb (c : CoreId) (d a b : Reg) (s : State) : Res :=
  issue c (fun s k => do
    need (d.val % 2 == 0) riTrap
    let u ← readReg s c k (nextReg d)
    let x ← readReg s c k a
    let y ← readReg s c k b
    destReg s c k d
    checkOpnds [⟨1, [tDEC], u⟩, ⟨2, [tDEC], x⟩, ⟨3, [tDEC], y⟩]
    let (q, r) ← liftD (ddivb (decOf x.val) (decOf y.val) (decOf u.val))
    finish (((s.setReg c k d (decVal q)).setReg c k (nextReg d) (decVal r)).setBankCc c k (ccOfInt r.v)) 72) s

/-! ### DW pairs -/

/-- The halves of a DW pair in registers: the DWH in code 2j and the DWL in code 2j + 1 (04 R140). -/
structure Pair where
  info : Nat
  hi   : TVal
  lo   : TVal

/-- A pair's tag fault: reserved, malformed, then BAD_PAIR (04 R142, R155, R157). -/
def Pair.check (p : Pair) : Except Trap Unit := do
  need (!(reservedTag p.hi.tag || reservedTag p.lo.tag)) (tagTrap 2 p.info)
  need (!((p.hi.tag == tDWH && malformed p.hi) || (p.lo.tag == tDWL && malformed p.lo))) (tagTrap 3 p.info)
  need (p.hi.tag == tDWH && p.lo.tag == tDWL) (tagTrap 7 p.info)

/-- The tag checks of pairs: POISONED first. -/
def checkPairs (l : List Pair) : Except Trap Unit :=
  match (l.flatMap (fun p => [p.hi, p.lo])).find? (fun v => v.tag == tPOISON) with
  | some v => .error (poisonTrap v)
  | none => l.forM Pair.check

/-- A DW pair read. -/
def readPair (s : State) (c : CoreId) (k : BankId) (r : Reg) (info : Nat) : Except Trap Pair := do
  let h ← readReg s c k r
  let l ← readReg s c k (nextReg r)
  return ⟨info, h, l⟩

/-- A DW result written, CC its sign. -/
def dwDone (s : State) (c : CoreId) (k : BankId) (d : Reg) (r : Except DErr Dec) (cost : Nat) : Act := do
  let x ← liftD r
  let (h, l) := dwPay x
  finish (((s.setReg c k d ⟨tDWH, h⟩).setReg c k (nextReg d) ⟨tDWL, l⟩).setBankCc c k (ccOfInt x.v)) cost

/-- The destination pair free of results in flight. -/
def destPair (s : State) (c : CoreId) (k : BankId) (d : Reg) : Except Trap Unit := do
  destReg s c k d
  destReg s c k (nextReg d)

/-- DADDW and DSUBW: odd codes take RI (07 R280). -/
def dw2 (f : Dec → Dec → Except DErr Dec) (c : CoreId) (d a b : Reg) (s : State) (k : BankId) : Act := do
  need (d.val % 2 == 0 && a.val % 2 == 0 && b.val % 2 == 0) riTrap
  let x ← readPair s c k a 2
  let y ← readPair s c k b 3
  destPair s c k d
  checkPairs [x, y]
  dwDone s c k d (f (dwOf x.hi.val x.lo.val) (dwOf y.hi.val y.lo.val)) 5

/-- DMULW (R278). -/
def execDmulw (c : CoreId) (d a b : Reg) (s : State) : Res :=
  issue c (fun s k => do
    need (d.val % 2 == 0) riTrap
    let x ← readReg s c k a
    let y ← readReg s c k b
    destPair s c k d
    checkOpnds [⟨2, [tDEC], x⟩, ⟨3, [tDEC], y⟩]
    dwDone s c k d (dmulw (decOf x.val) (decOf y.val)) 14) s

/-- DADDW (R278). -/
def execDaddw (c : CoreId) (d a b : Reg) (s : State) : Res := issue c (dw2 daddw c d a b) s
/-- DSUBW (R278). -/
def execDsubw (c : CoreId) (d a b : Reg) (s : State) : Res := issue c (dw2 dsubw c d a b) s

/-- DNARW (R278): OVERFLOW if the upper 33 digits are not zero. -/
def execDnarw (c : CoreId) (d a : Reg) (s : State) : Res :=
  issue c (fun s k => do
    need (a.val % 2 == 0) riTrap
    let x ← readPair s c k a 2
    destReg s c k d
    checkPairs [x]
    decDone s c k d (fitDec (dwOf x.hi.val x.lo.val)) 3) s

/-! ### Packed decimal (07 R283 to R290) -/

/-- The lengths of a form F instruction. -/
def opLen1 (f : FormF) : Nat := f.len1.toNat + 1
def opLen2 (f : FormF) : Nat := f.len2.toNat + 1

/-- Octets written into storage: every granule written becomes RAW (04 R161). -/
def packedStore (s : State) (c : CoreId) (addr : Nat) (l : Octets) : State := s.setOctets c addr l

/-- A packed instruction: lengths, bases, protection of both operands, tags, digits, then the operation on the two values
and the write of operand 1 (07 R283 to R286). `max2` bounds L2; `reads1` says operand 1 is read and `writes1` that it is
written; `cost` is without access. -/
def packedOp (max2 : Nat) (reads1 writes1 : Bool) (cost : Nat → Nat → Nat) (op : Int → Int → Except DErr (Int × Nat))
    (c : CoreId) (f : FormF) (errs : Errs) (s : State) (k : BankId) : Act := do
  need ((opLen1 f) ≤ 64 && (opLen2 f) ≤ max2) riTrap
  let b1 ← readReg s c k f.base1
  let b2 ← readReg s c k f.base2
  checkOpnds [baseOk 1 b1, baseOk 2 b2]
  let bk := s.bank c k
  let a1 ← (if writes1 then
      (if reads1 then s.checkBoth c bk b1 f.disp1.toNat (opLen1 f) else s.checkRange c (mkAccess bk b1 f.disp1.toNat .store) (opLen1 f))
    else s.checkRange c (mkAccess bk b1 f.disp1.toNat .load) (opLen1 f))
  let a2 ← s.checkRange c (mkAccess bk b2 f.disp2.toNat .load) (opLen2 f)
  let s ← s.readMem c k errs [⟨a1, opLen1 f, 4, some [tRAW]⟩, ⟨a2, (opLen2 f), 5, some [tRAW]⟩]
  faultOn c k s do
  let v1 ← if reads1 then liftDigits (packedOf (s.octets c a1 (opLen1 f))) a1 4 else .ok 0
  let v2 ← liftDigits (packedOf (s.octets c a2 (opLen2 f))) a2 5
  let (r, cc) ← liftD (op v1 v2)
  let total := cost (opLen1 f) (opLen2 f) + (if reads1 then accessCost a1 (opLen1 f) else 0) + accessCost a2 (opLen2 f)
    + (if writes1 then accessCost a1 (opLen1 f) else 0)
  if writes1 then
    match packedBytes (opLen1 f) r with
    | none => .error (dtrap (.ovf 1))
    | some o => wrote a1 (opLen1 f) (finish ((packedStore s c a1 o).setBankCc c k cc) total)
  else finish (s.setBankCc c k cc) total

/-- A packed instruction with what it meets in the memories. -/
def packed (m : Meets) (max2 : Nat) (reads1 writes1 : Bool) (cost : Nat → Nat → Nat) (op : Int → Int → Except DErr (Int × Nat))
    (c : CoreId) (f : FormF) : State → BankId → Act :=
  interruptible m false c (packedOp max2 reads1 writes1 cost op c f m.errs)

/-- A packed result with the sign as CC. -/
def packedRes (v : Int) : Except DErr (Int × Nat) := .ok (v, ccOfInt v)

/-- Packed division by zero takes DZERO (07 R276). -/
def packedDiv (f : Int → Int → Int) (x y : Int) : Except DErr (Int × Nat) :=
  if y = 0 then .error .zero else packedRes (f x y)

/-- PADD (R286). -/
def execPadd (c : CoreId) (f : FormF) (m : Meets) (s : State) : Res :=
  issueW c 2 (packed m 64 true true (fun l1 l2 => 8 + l1 + l2) (fun x y => packedRes (x + y)) c f) s
/-- PSUB (R286). -/
def execPsub (c : CoreId) (f : FormF) (m : Meets) (s : State) : Res :=
  issueW c 2 (packed m 64 true true (fun l1 l2 => 8 + l1 + l2) (fun x y => packedRes (x - y)) c f) s
/-- PMOV (R286). -/
def execPmov (c : CoreId) (f : FormF) (m : Meets) (s : State) : Res :=
  issueW c 2 (packed m 64 false true (fun l1 l2 => 8 + l1 + l2) (fun _ y => packedRes y) c f) s
/-- PMUL (R286). -/
def execPmul (c : CoreId) (f : FormF) (m : Meets) (s : State) : Res :=
  issueW c 2 (packed m 32 true true (fun l1 l2 => 16 + l1 + 6 * l2) (fun x y => packedRes (x * y)) c f) s
/-- PDIV (R287). -/
def execPdiv (c : CoreId) (f : FormF) (m : Meets) (s : State) : Res :=
  issueW c 2 (packed m 32 true true (fun l1 _ => 16 + 7 * l1) (packedDiv Int.tdiv) c f) s
/-- PREM (R287). -/
def execPrem (c : CoreId) (f : FormF) (m : Meets) (s : State) : Res :=
  issueW c 2 (packed m 32 true true (fun l1 _ => 16 + 7 * l1) (packedDiv Int.tmod) c f) s
/-- PCMP (R286). -/
def execPcmp (c : CoreId) (f : FormF) (m : Meets) (s : State) : Res :=
  issueW c 2 (packed m 64 true false (fun l1 l2 => 6 + l1 + l2) (fun x y => .ok (0, ccOfOrd (compare x y))) c f) s

/-! ### Conversions (07 R291 to R293) -/

/-- BTD (R291). -/
def execBtd (c : CoreId) (d a : Reg) (s : State) : Res :=
  issue c (fun s k => do
    let x ← readReg s c k a
    destReg s c k d
    checkOpnds [⟨2, [tBIN], x⟩]
    decDone s c k d (btd x.val.toInt) 8) s

/-- DTB (R291). -/
def execDtb (c : CoreId) (d a : Reg) (s : State) : Res :=
  issue c (fun s k => do
    let x ← readReg s c k a
    destReg s c k d
    checkOpnds [⟨2, [tDEC], x⟩]
    let v ← liftD (dtb (decOf x.val))
    finish ((s.setReg c k d (bin (BitVec.ofInt 128 v))).setBankCc c k (ccOfInt v)) 8) s

/-- DTF (R291). -/
def execDtf (c : CoreId) (d a : Reg) (s : State) : Res :=
  issue c (fun s k => do
    let x ← readReg s c k a
    destReg s c k d
    checkOpnds [⟨2, [tDEC], x⟩]
    finish (s.setReg c k d (dffVal (dtf x.val))) 3) s

/-- DFTD (R291, R293). -/
def execDftd (c : CoreId) (d a : Reg) (scale : BitVec 6) (s : State) : Res :=
  issue c (fun s k => do
    need (scale.toNat ≤ 32) riTrap
    let x ← readReg s c k a
    destReg s c k d
    checkOpnds [⟨2, [tDFF], x⟩]
    decDone s c k d (dftd (dffOf x) scale.toNat) 4) s

/-- The octet count of a conversion in memory: a BIN of 1 to 64 (07 R292). -/
def fieldLen (y : TVal) : Except Trap Nat := do
  need (1 ≤ y.val.toNat && y.val.toNat ≤ 64) riTrap
  return y.val.toNat

/-- PTD and TTD: a field in memory to DEC at a scale. -/
def fieldToDec (read : Octets → Except Nat Int) (c : CoreId) (d a b : Reg) (scale : BitVec 6) (errs : Errs) (s : State) (k : BankId) :
    Act := do
  need (scale.toNat ≤ 32) riTrap
  let x ← readReg s c k a
  let y ← readReg s c k b
  destReg s c k d
  checkOpnds [baseOk 2 x, ⟨3, [tBIN], y⟩]
  let n ← fieldLen y
  let addr ← s.checkRange c (mkAccess (s.bank c k) x 0 .load) n
  let s ← s.readMem c k errs [⟨addr, n, 4, some [tRAW]⟩]
  faultOn c k s do
  let v ← liftDigits (read (s.octets c addr n)) addr 4
  decDone s c k d (fitDec ⟨v, scale.toNat⟩) (6 + n + accessCost addr n)

/-- DTP and DTT: a DEC register to a field in memory; `digits` is what n octets hold. -/
def decToField (digits : Nat → Nat) (bytes : Nat → Int → Octets) (mag : Bool) (c : CoreId) (d a b : Reg)
    (scale : BitVec 6) (s : State) (k : BankId) : Act := do
  need (scale.toNat ≤ 32) riTrap
  let v ← readReg s c k d
  let x ← readReg s c k a
  let y ← readReg s c k b
  checkOpnds [⟨1, [tDEC], v⟩, baseOk 2 x, ⟨3, [tBIN], y⟩]
  let n ← fieldLen y
  let addr ← s.checkRange c (mkAccess (s.bank c k) x 0 .store) n
  s.checkMem c [⟨addr, n, 4, some [tRAW]⟩]
  let r ← liftD (fieldCoeff (decOf v.val) scale.toNat (digits n))
  let w : Int := if mag then r.natAbs else r
  finish ((s.setOctets c addr (bytes n w)).setBankCc c k (ccOfInt w)) (8 + n + accessCost addr n)

/-- PTD (R291). -/
def execPtd (c : CoreId) (d a b : Reg) (scale : BitVec 6) (errs : Errs) (badWord : Option (Fin 16384)) (s : State) : Res :=
  issue c (vendorRoutine badWord c (fieldToDec packedOf c d a b scale errs)) s
/-- TTD (R291). -/
def execTtd (c : CoreId) (d a b : Reg) (scale : BitVec 6) (errs : Errs) (badWord : Option (Fin 16384)) (s : State) : Res :=
  issue c (vendorRoutine badWord c (fieldToDec textOf c d a b scale errs)) s
/-- DTP (R291). -/
def execDtp (c : CoreId) (d a b : Reg) (scale : BitVec 6) (badWord : Option (Fin 16384)) (s : State) : Res :=
  issue c (vendorRoutine badWord c
    (decToField (fun n => 2 * n - 1) (fun n v => (packedBytes n v).getD []) false c d a b scale)) s
/-- DTT (R291): the magnitude, CC the sign of what is written. Log entry 23. -/
def execDtt (c : CoreId) (d a b : Reg) (scale : BitVec 6) (badWord : Option (Fin 16384)) (s : State) : Res :=
  issue c (vendorRoutine badWord c
    (decToField (fun n => n) (fun n v => (digitList n v.natAbs).map (fun x => BitVec.ofNat 8 (0x30 + x))) true c d a b scale)) s

end Sys2Proof.Machine
end

