-- ==== Sys2Proof/Machine/Micro.lean ====
section
/-! DEFINITION. The microstore, customer instructions and the load-time check of a package (13). -/

namespace Sys2Proof.Machine

/-! ### The microstore (13 R518, R521, R538, R539) -/

/-- Words of a package. -/
def pkgWords (p : Octets) : Nat := fieldAt p 14 2

/-- Word i of a package's body. -/
def pkgWord (p : Octets) (i : Nat) : W32 := BitVec.ofNat 32 (fieldAt p (256 + 4 * i) 4)

/-- A microword of the customer region as the package loaded it; beyond its body, and with no package, zero (13 R521). -/
def customerWord (p : Option Octets) (a : Nat) : W32 :=
  match p with
  | some o => if a - 16384 < pkgWords o then pkgWord o (a - 16384) else 0
  | none => 0

/-- A microword of the vendor region as the package loaded it (13 R519, R538). What stands beyond its body is not stated: log
entry 17. -/
def vendorWord (p : Option Octets) (a : Nat) : W32 :=
  match p with
  | some o => if a < pkgWords o then pkgWord o a else BitVec.ofNat 32 (Config.freeValue 94 a)
  | none => BitVec.ofNat 32 (Config.freeValue 94 a)

/-- A microword of a core: what a debug write put there, otherwise the package's. -/
def State.microword (s : State) (c : CoreId) (a : Nat) : W32 :=
  match (s.core c).micro.get none a with
  | some w => w
  | none => if a ≥ 16384 then customerWord s.svc.mcPackage a else vendorWord s.svc.vendorPackage a

/-- A dispatch entry (13 R539): ENTRY, CYCLES, USER, PAIR. -/
structure MicroEntry where
  entry  : Nat
  cycles : Nat
  user   : Bool
  pair   : Bool

/-- The dispatch entry of an opcode 0xE0 + op. -/
def microEntry (p : Option Octets) (op : Nat) : MicroEntry :=
  match p with
  | some o =>
    let a := 48 + 8 * op
    ⟨fieldAt o a 2, fieldAt o (a + 2) 2, fieldAt o (a + 4) 1 % 2 == 1, fieldAt o (a + 4) 1 / 2 % 2 == 1⟩
  | none => ⟨0, 0, false, false⟩

/-- A field of a microword. -/
def mfield (w : W32) (hi lo : Nat) : Nat := w.toNat / 2 ^ lo % 2 ^ (hi - lo + 1)

/-! ### Execution (13 R522 to R530, R535 to R537) -/

/-- What a routine works on: the operand registers as they stood, the temporaries (codes 4 to 17), the held writes, the
flags and CC. `d1Due` says that register d + 1 has a result in flight. -/
structure Micro where
  d    : TVal
  a    : TVal
  b    : TVal
  d1   : TVal
  d1Due : Bool
  fn   : Nat
  temp : List TVal
  outD : Option TVal
  outD1 : Option TVal
  z    : Bool
  n    : Bool

/-- A micro-register read; ZERO takes the tag `other` (13 R523). -/
def Micro.read (m : Micro) (code : Nat) (other : BitVec 4) : TVal :=
  match code with
  | 0 => m.d
  | 1 => m.a
  | 2 => m.b
  | 3 => m.d1
  | 18 => binNat m.fn
  | 19 => ⟨other, 0⟩
  | _ => m.temp.getD (code - 4) TVal.zero

/-- A micro-register written. -/
def Micro.write (m : Micro) (code : Nat) (v : TVal) : Micro :=
  match code with
  | 0 => { m with outD := some v }
  | 3 => { m with outD1 := some v }
  | 1 | 2 | 18 | 19 => m
  | _ => { m with temp := m.temp.set (code - 4) v }

/-- Z and N of a float: a zero of either sign is zero and not negative, a NaN is neither. -/
def Fl.zn : Fl → Bool × Bool
  | .fin s c _ => (c == 0, s && c != 0)
  | .inf s => (false, s)
  | _ => (false, false)

/-- Z and N of a result, by the value its tag gives it: a number's zero and sign, of a half of a DW its digits and sign bit,
otherwise all bits and bit 127 (13 R525; log entry 89). -/
def resultFlags (v : TVal) : Bool × Bool :=
  if v.tag = tDEC then ((decOf v.val).v == 0, decide ((decOf v.val).v < 0))
  else if v.tag = tB64 then (b64Of v.val).zn
  else if v.tag = tDFF ∨ v.tag = tDFI ∨ v.tag = tDFQ ∨ v.tag = tDFS then (dffOf v).zn
  else if v.tag = tDWH ∨ v.tag = tDWL then (payCoeff v.val == 0, v.val.getLsbD 127)
  else (v.val == 0, v.val.getLsbD 127)

/-- An ALU operation's result, or none for a comparison; its flags and cycles (13 R525). -/
def microAlu (op : Nat) (x y : TVal) : Except Trap (Option TVal × (Bool × Bool) × Nat) := do
  let give := fun (v : TVal) (n : Nat) => (Except.ok (some v, resultFlags v, n) : Except Trap _)
  let two := fun (acc : List (BitVec 4)) => checkOpnds [⟨2, acc, x⟩, ⟨3, acc, y⟩]
  match op with
  | 0x00 => checkAny 2 x; give x 1
  | 0x01 => two [tBIN]; give (bin (x.val + y.val)) 1
  | 0x02 => two [tBIN]; give (bin (x.val - y.val)) 1
  | 0x03 => two rawBin; give ⟨logicTag x y, x.val &&& y.val⟩ 1
  | 0x04 => two rawBin; give ⟨logicTag x y, x.val ||| y.val⟩ 1
  | 0x05 => two rawBin; give ⟨logicTag x y, x.val ^^^ y.val⟩ 1
  | 0x06 => two rawBin; give ⟨logicTag x y, x.val <<< amount y.val⟩ 1
  | 0x07 => two rawBin; give ⟨logicTag x y, x.val >>> amount y.val⟩ 1
  | 0x08 => two rawBin; give ⟨logicTag x y, x.val.sshiftRight (amount y.val)⟩ 1
  | 0x09 => checkOpnds [⟨2, rawBin, x⟩]; give (binNat (popcount x.val)) 1
  | 0x0A => two [tBIN]; give (bin (x.val * y.val)) 4
  | 0x10 => two [tDEC]; give (decVal (← liftD (dadd (decOf x.val) (decOf y.val)))) 3
  | 0x11 => two [tDEC]; give (decVal (← liftD (dsub (decOf x.val) (decOf y.val)))) 3
  | 0x12 => two [tDEC]; give (decVal (← liftD (dmul (decOf x.val) (decOf y.val)))) 12
  | 0x13 =>
    two [tDEC]
    let o := dcmp (decOf x.val) (decOf y.val)
    return (none, (o == .eq, o == .lt), 3)
  | 0x14 =>
    checkOpnds [⟨2, [tDEC], x⟩, ⟨3, [tBIN], y⟩]
    need (bits y.val 0 6 ≤ 32) riTrap
    give (decVal (← liftD (dresc (decOf x.val) (bits y.val 0 6)))) 3
  | _ => checkAny 2 x; give (binNat x.tag.toNat) 1

/-- Whether an ALU operation reads SB. -/
def microBinary (op : Nat) : Bool := !(op == 0x00 || op == 0x09 || op == 0x18)

/-- The INFO operand of a micro-register in a TAG check: 1 d, 2 a, 3 b. -/
def microInfo (code : Nat) : Nat :=
  match code with
  | 0 | 3 => 1
  | 1 => 2
  | 2 => 3
  | _ => 0

/-- LOAD (13 R527): the state its read leaves, the value, the cycles; size code 4 the whole granule. -/
def microLoad (s : State) (c : CoreId) (k : BankId) (errs : Errs) (adr : TVal) (size : Nat) (sgn : Bool) (disp : Int) :
    Except Trap (State × TVal × Nat) := do
  checkOpnds [⟨2, [tBIN], adr⟩]
  let n := if size = 4 then 16 else 2 ^ size
  let addr ← s.checkAccess c (mkAccess (s.bank c k) adr disp .load) n
  if size = 4 then need (addr % 16 == 0) (alignTrap 1 addr)
  let t := s.findErrors c errs (granAddrs addr n)
  faultOn c k t (t.checkGrans c addr n (if size = 4 then anyTag else octetTags) 4)
  let cost := (if isBay addr then 24 else 3) + (if addr % 16 + n > 16 then 2 else 0)
  return (t, if size = 4 then t.gran c addr else extend sgn n (t.loadNat c addr n), cost)

/-- The value of a branch condition (13 R529). -/
def microCond (m : Micro) (cond : Nat) : Nat :=
  let b := fun (p : Bool) => if p then 1 else 0
  match cond with
  | 1 => b m.z
  | 2 => b m.n
  | 3 => 2 * b m.n + b m.z
  | 4 => b ((m.read 17 0).val == 0)
  | 5 => m.a.tag.toNat
  | 6 => m.b.tag.toNat
  | 7 => m.fn % 16
  | 8 => m.fn / 16
  | _ => 0

/-- Whether a word names D1. -/
def namesD1 (w : W32) : Bool :=
  match mfield w 31 28 with
  | 1 => mfield w 21 17 == 3 || mfield w 16 12 == 3 || mfield w 11 7 == 3
  | 2 | 3 | 4 => mfield w 27 23 == 3
  | _ => false

/-- One microword: the state and the routine after it, its successor (none at END, with CC if END writes it), its cycles. A
word that the load check would refuse executes nothing: log entry 36. -/
def microStep (s : State) (c : CoreId) (k : BankId) (errs : Errs) (a : Nat) (m : Micro) :
    Except Trap (Option (State × Micro × Option Nat × Option Nat × Nat)) := do
  let w := s.microword c a
  need (!(m.d1Due && namesD1 w)) .hold
  let next := fun (m' : Micro) (n : Nat) => (some (s, m', some (a + 1), (none : Option Nat), n) : Option _)
  match mfield w 31 28 with
  | 1 =>
    let op := mfield w 27 22; let sa := mfield w 16 12; let sb := mfield w 11 7
    let bin2 := microBinary op
    let ta := if sa = 19 then (if bin2 ∧ sb ≠ 19 then (m.read sb 0).tag else tRAW) else 0
    let tb := if sb = 19 then (if sa ≠ 19 then (m.read sa 0).tag else tRAW) else 0
    let (r, f, n) ← microAlu op (m.read sa ta) (m.read sb tb)
    let m1 := { m with z := f.1, n := f.2 }
    return next (match r with | some v => m1.write (mfield w 21 17) v | none => m1) n
  | 2 =>
    let dst := mfield w 27 23; let pos := mfield w 22 16
    checkAny (microInfo dst) (m.read dst 0)
    let old := (m.read dst 0).val
    let v : Payload := (old &&& ~~~ (BitVec.ofNat 128 (0xFFFF * 2 ^ pos))) ||| BitVec.ofNat 128 (mfield w 15 0 * 2 ^ pos)
    return next (m.write dst (bin v)) 1
  | 3 =>
    let disp : Int := if mfield w 18 5 < 8192 then mfield w 18 5 else (mfield w 18 5 : Int) - 16384
    let (t, v, n) ← microLoad s c k errs (m.read 16 0) (mfield w 22 20) (w.getLsbD 19) disp
    return some (t, m.write (mfield w 27 23) v, some (a + 1), none, n)
  | 4 =>
    let reg := mfield w 27 23
    let v := m.read reg tRAW
    let t := BitVec.ofNat 4 (mfield w 22 19)
    checkAny (microInfo reg) v
    if w.getLsbD 18 then
      need (relabelAllowed v.tag t) privTrap
      need (v.tag == t || !malformed ⟨t, v.val⟩) (tagTrap 3 (microInfo reg))
      return next (m.write reg ⟨t, v.val⟩) 1
    else
      need (v.tag == t) (tagTrap 1 (microInfo reg))
      return next m 1
  | 8 => return some (s, m, some (mfield w 14 0 ||| microCond m (mfield w 27 24)), none, 1)
  | 14 => return some (s, m, none, (if w.getLsbD 27 then some (mfield w 26 25) else none), 1)
  | _ => return none

/-- How a routine ends: END with the routine's state and CC, its declared count used up, or an uncorrectable word reached
with some of its count left. -/
inductive MicroEnd where
  | done (m : Micro) (cc : Option Nat)
  | overrun
  | badWord (a left : Nat)

/-- A routine from a micro-address, with the cycles left of its declared count (13 R520, R535, R537): the state its loads
leave, and its end. `bad` says which words are uncorrectable; a trap is latched on the state reached. -/
def microRun (c : CoreId) (k : BankId) (errs : Errs) (bad : Nat → Bool) :
    Nat → Nat → Nat → State → Micro → Except Trap (State × MicroEnd)
  | 0, _, _, s, _ => .ok (s, .overrun)
  | fuel + 1, left, a, s, m => do
    if left = 0 then return (s, .overrun)
    if bad a then return (s, .badWord a left)
    match ← faultOn c k s (microStep s c k errs a m) with
    | none => return (s, .overrun)
    | some (t, m', succ, cc, n) =>
      if n > left then return (t, .overrun)
      else
        match succ with
        | none => return (t, .done m' cc)
        | some a' => microRun c k errs bad fuel (left - n) a' t m'

/-- CUSTOMER_INSTRUCTION (R534 to R537); an uncorrectable word that its routine reaches raises MCHECK with PC on it (R520, R536;
09 R371), and is one until the core's next reset. -/
def execCustomerInstruction (c : CoreId) (opcode : BitVec 4) (d a b : Reg) (fn : BitVec 9) (errs : Errs)
    (badWord : Option (Fin 24576)) (s : State) : Res :=
  issue c (fun s k => do
    let e := microEntry s.svc.mcPackage opcode.toNat
    need (e.entry != 0) riTrap
    need (e.user || tswMode (s.bank c k).tsw) privTrap
    need (!(e.pair && d.val % 2 == 1)) riTrap
    let x ← readReg s c k a
    let y ← readReg s c k b
    let dv ← readReg s c k d
    if e.pair then destReg s c k (nextReg d)
    let bk := s.bank c k
    let m : Micro := ⟨dv, x, y, bk.reg k (nextReg d), (s.core c).inFlight k (bk.slot k (nextReg d)), fn.toNat,
      List.replicate 14 TVal.zero, none, none, false, false⟩
    let bad := fun (w : Nat) => (s.core c).badWords.contains w || badWord.any (fun x => x.val == w)
    match ← microRun c k errs bad (e.cycles + 1) e.cycles e.entry s m with
    | (t, .done r cc) =>
      let s1 := match r.outD with | some v => t.setReg c k d v | none => t
      let s2 := match r.outD1 with | some v => s1.setReg c k (nextReg d) v | none => s1
      finish (match cc with | some v => s2.setBankCc c k v | none => s2) e.cycles
    | (t, .badWord w left) =>
      .error (.become (((t.noteBadWord c w).charge c k (e.cycles - left)).raiseMcheck c (fun x => ⟨x, false, 0, 0⟩)))
    | (t, .overrun) =>
      let t := t.trouble true 0x0013 3 c.val ([octet k.val] ++ leBytes 4 (s.bank c k).pc.toNat ++ [octet (0xE0 + opcode.toNat)]
        ++ leBytes 2 e.cycles)
      .error (.become ((t.latch c k 1 0 0 0).probationFail 3))) s

/-! ### The load-time check (13 R541) -/

/-- The selectors a customer word may name. -/
def okSel (code : Nat) : Bool := code < 20
/-- The selectors a customer word may write. -/
def okDst (code : Nat) : Bool := code == 0 || code == 3 || (4 ≤ code && code ≤ 17) || code == 19

/-- The bits of a branch condition, none where reserved. -/
def condBits (cond : Nat) : Option Nat :=
  match cond with
  | 0 => some 0
  | 1 | 2 | 4 => some 1
  | 3 => some 2
  | 5 | 6 | 7 => some 4
  | 8 => some 5
  | _ => none

/-- Whether an ALU operation is one that 13 R525 lists. -/
def aluOp (op : Nat) : Bool := op ≤ 0x0A || (0x10 ≤ op && op ≤ 0x14) || op == 0x18

/-- The first row of the structural check a word at micro-address a of a package with `words` words from `base` on fails: 1 Kind,
2 Fields, 3 Selectors, 4 Branches. The fields of a vendor kind are not published, but for IP; selectors bind customer words. -/
def wordCheck (vendor : Bool) (w : W32) (base words a : Nat) : Option Nat :=
  let op := mfield w 27 22
  let inside := fun t => base ≤ t && t < base + words
  let fall := if inside (a + 1) then none else some 4
  let okDst := fun r => vendor || okDst r
  let okSel := fun r => vendor || okSel r
  match mfield w 31 28 with
  | 1 =>
    if mfield w 6 0 ≠ 0 ∨ !aluOp op ∨ (op = 0x13 ∧ mfield w 21 17 ≠ 19) then some 2
    else if !okDst (mfield w 21 17) || !okSel (mfield w 16 12) || !okSel (mfield w 11 7) then some 3 else fall
  | 2 => if mfield w 22 16 % 16 ≠ 0 ∨ mfield w 22 16 > 112 then some 2 else if !okDst (mfield w 27 23) then some 3 else fall
  | 3 =>
    if mfield w 4 0 ≠ 0 ∨ mfield w 22 20 > 4 ∨ (mfield w 22 20 = 4 ∧ w.getLsbD 19) then some 2
    else if !okDst (mfield w 27 23) then some 3 else fall
  | 4 =>
    let t := mfield w 22 19
    if mfield w 17 0 ≠ 0 ∨ (0xB ≤ t ∧ t ≤ 0xE) ∨ (w.getLsbD 18 ∧ (t = 8 ∨ t = 0xF)) then some 2
    else if !(if w.getLsbD 18 then okDst (mfield w 27 23) else okSel (mfield w 27 23)) then some 3 else fall
  | 8 =>
    match condBits (mfield w 27 24) with
    | none => some 2
    | some n =>
      if mfield w 23 15 ≠ 0 then some 2
      else if mfield w 14 0 % 2 ^ n ≠ 0 ∨ !inside (mfield w 14 0) ∨ !inside (mfield w 14 0 + 2 ^ n - 1) then some 4 else none
  | 14 => if mfield w 24 0 ≠ 0 ∨ mfield w 26 25 > 2 then some 2 else none
  | 0 | 15 => some 1
  | kind => if !vendor then some 1 else if kind = 12 ∧ mfield w 27 0 ≠ 0 then some 2 else fall

/-- The possible successors of a word (13 R529, R530). -/
def microSucc (w : W32) (a : Nat) : List Nat :=
  match mfield w 31 28 with
  | 8 => (List.range (2 ^ (condBits (mfield w 27 24)).getD 0)).map (fun i => mfield w 14 0 ||| i)
  | 14 => []
  | _ => [a + 1]

/-- The addresses reachable from a set, in at most `n` rounds. -/
def microReach (p : Octets) : Nat → List Nat → List Nat
  | 0, l => l
  | n + 1, l =>
    let more := (l.flatMap (fun a => microSucc (pkgWord p (a - 16384)) a)).filter
      (fun a => !l.contains a && 16384 ≤ a && a < 16384 + pkgWords p)
    if more.isEmpty then l else microReach p n (l ++ more.eraseDups)

/-- Whether a body's last word is BR with COND 0 or END (13 R541). -/
def lastOk (w : W32) : Bool := (mfield w 31 28 == 8 && mfield w 27 24 == 0) || mfield w 31 28 == 14

/-- The first row that word i of a package's body fails; `d1` says whether the word may name D1. -/
def bodyCheck (vendor : Bool) (p : Octets) (d1 : Bool) (i : Nat) : Option Nat :=
  let w := pkgWord p i
  let words := pkgWords p
  let base := if vendor then 0 else 16384
  let row := match wordCheck vendor w base words (base + i) with
    | some 1 => some 1
    | some 2 => some 2
    | some 3 => some 3
    | r => if !vendor && namesD1 w && !d1 then some 3 else r
  row.orElse (fun _ => if i + 1 = words ∧ !lastOk w then some 6 else none)

/-- The row a dispatch entry fails: reserved bits, or its figures (13 R539, R541). -/
def dispatchCheck (p : Octets) (i : Nat) : Option Nat :=
  let e := microEntry (some p) i
  let o := 48 + 8 * i
  if fieldAt p (o + 4) 1 ≥ 4 ∨ !zeroAt p (o + 5) 3 then some 2
  else if e.entry ≠ 0 ∧ (e.entry < 16384 ∨ e.entry ≥ 16384 + pkgWords p ∨ e.cycles = 0 ∨ e.cycles > 600) then some 5
  else none

/-- The refusal of a customer package: the row of the structural check (0 for the other conditions of R541) and the offset of
the first word or dispatch entry at fault (R542). `key` is the operator code-signing key, `vendor` the vendor VERSION. -/
def customerCheck (p key : Octets) (vendor : Nat) : Option (Nat × Nat) :=
  let w := pkgWords p
  if fieldAt p 0 4 ≠ 0x4D43504B ∨ fieldAt p 4 2 ≠ 1 ∨ fieldAt p 6 1 ≠ 2 ∨ fieldAt p 12 2 ≠ 0x00B0 ∨ !zeroAt p 7 1
      ∨ !zeroAt p 20 12 ∨ !zeroAt p 176 80 ∨ fieldAt p 8 4 = 0 ∨ fieldAt p 8 4 > 65535 ∨ w = 0 ∨ w > 8192
      ∨ p.length ≠ 256 + 4 * w + 96 then some (0, 0)
  else if !ecdsaVerify key (sha384 (p.take (256 + 4 * w))) (p.drop (256 + 4 * w)) then some (0, 0)
  else if fieldAt p 16 4 > vendor then some (0, 0)
  else
    let pairs := ((List.range 16).map (fun i => microEntry (some p) i)).filter (fun e => e.entry != 0 && e.pair)
    let paired := microReach p w (pairs.map (fun e => e.entry))
    ((List.range 16).findSome? (fun i => (dispatchCheck p i).map (fun r => (r, 48 + 8 * i)))).orElse (fun _ =>
      (List.range w).findSome? (fun i => (bodyCheck false p (paired.contains (16384 + i)) i).map (fun r => (r, 256 + 4 * i))))

/-- The refusal of a vendor package. -/
def vendorCheck (p key : Octets) : Option (Nat × Nat) :=
  let w := pkgWords p
  if fieldAt p 0 4 ≠ 0x4D43504B ∨ fieldAt p 4 2 ≠ 1 ∨ fieldAt p 6 1 ≠ 1 ∨ fieldAt p 12 2 ≠ 0x00B0 ∨ !zeroAt p 7 1
      ∨ !zeroAt p 16 16 ∨ !zeroAt p 48 208 ∨ fieldAt p 8 4 = 0 ∨ fieldAt p 8 4 > 65535 ∨ w = 0 ∨ w > 16384
      ∨ p.length ≠ 256 + 4 * w + 96 then some (0, 0)
  else if !ecdsaVerify key (sha384 (p.take (256 + 4 * w))) (p.drop (256 + 4 * w)) then some (0, 0)
  else (List.range w).findSome? (fun i => (bodyCheck true p true i).map (fun r => (r, 256 + 4 * i)))

end Sys2Proof.Machine
end

