-- ==== Sys2Proof/Machine/RegPort.lean ====
section
/-! DEFINITION. The regulator port: its commands, heartbeats, attestation reports and link (16 R649 to R656). -/

namespace Sys2Proof.Machine

/-- Whether the port is powered: it keeps running in P3 (16 R655, 17 R684). -/
def State.portPowered (s : State) : Bool := s.power.st != .p4

/-- The octets a regulator's signature covers, and the signature (16 R652). -/
def regSigned (body : Octets) : Octets × Octets := (body.take 64, slice body 64 96)

/-- Whether the port takes a received frame: its EtherType, addressed to its SA or to broadcast (16 R649). -/
def State.regHears (s : State) (frame : Octets) : Bool :=
  slice frame 12 2 == [0x88, 0xB6] && (frame.take 6 == slice (regEth s) 6 6 || frame.take 6 == List.replicate 6 0xFF)

/-- Whether a payload is a command frame of a message code: VER, MSG, LEN, and the 160 octets of its body (16 R649, R652). -/
def isCommand (msg : Nat) (p : Octets) : Bool :=
  p.length == 184 && fieldAt p 0 1 == 1 && fieldAt p 1 1 == msg && fieldAt p 4 2 == 160

/-- The result of a regulator command's payload (16 R653): the first check that fails, 0 where none does. The header's zero fields
count with the reserved ones (log entry 107). A report is made and sent within its command, so 6 BUSY never arises. -/
def State.regResult (s : State) (msg : Nat) (p : Octets) : Nat :=
  let body := p.drop 24
  let key := match s.key 13 with | some k => k.key | none => []
  if fieldAt body 0 1 ≠ msg ∨ !zeroAt body 2 2 ∨ !zeroAt p 3 1 ∨ !zeroAt p 6 2 ∨ !zeroAt p 12 12 then 1
  else if !sigOk key (regSigned body).1 (regSigned body).2 then 2
  else if fieldAt body 1 1 ≠ s.chain.cfg.device ∨ fieldAt body 4 4 ≠ s.chain.cfg.chainId.toNat then 3
  else if fieldAt body 8 8 ≤ s.reg.lastCseq then 4
  else if (msg = 16 ∧ s.reg.frozen) ∨ (msg = 17 ∧ !s.reg.frozen) then 5
  else 0

/-- COMMAND_ACK (16 R650). -/
def State.regAck (s : State) (body : Octets) (result : Nat) : State :=
  regSend s 1 ([body.getD 0 0, octet result, 0, 0] ++ slice body 8 8)

/-- A regulator command: a frame of its message code, Ethernet header first; its CSEQ is stored before it takes effect, and it is
acknowledged with its result (16 R649, R652, R653). -/
def regRow (msg : Nat) (frame : Octets) (act : State → Octets → State) (s : State) : Res :=
  if !s.portPowered ∨ !s.reg.up ∨ !s.regHears frame ∨ !isCommand msg (frame.drop 14) then .next s
  else
    let body := frame.drop 38
    let r := s.regResult msg (frame.drop 14)
    if r ≠ 0 then .next (s.regAck body r)
    else
      let s1 : State := { s with reg := { s.reg with lastCseq := fieldAt body 8 8 } }
      .next (act (s1.regAck body 0) body)

/-- FREEZE (R654; 01 R27): FROZEN, and data admission pauses from the next decision (02 R71). -/
def execFreeze (frame : Octets) (s : State) : Res :=
  regRow 16 frame (fun t _ => (({ t with reg := { t.reg with frozen := true } }).pauseBit 0 true).raise 160 0) s

/-- RESUME (R654): FROZEN cleared; the pause is lifted at the next sill. -/
def execResume (frame : Octets) (s : State) : Res :=
  regRow 17 frame (fun t _ => ({ t with reg := { t.reg with frozen := false } }).raise 161 0) s

/-- An attestation report sent (16 R654, R656). -/
def State.sendReport (s : State) (nonce : Octets) : State :=
  let (s1, rep) := s.report nonce
  regSend s1 6 rep

/-- The whole trouble record replayed, oldest first (16 R651). -/
def State.replayTrouble (s : State) : State := s.svc.tr.foldl (fun t e => regSend t 5 e.data) s

/-- ATTEST_NOW (R654). -/
def execAttestNow (frame : Octets) (s : State) : Res :=
  regRow 18 frame (fun t body => ((t.sendReport (slice body 16 32)).replayTrouble).raise 162 0) s

/-- STATE of a heartbeat (16 R650). -/
def heartbeatState (s : State) : Nat :=
  s.sec.life.code + s.power.st.code * 2 ^ 8 + s.sec.dbgLevel * 2 ^ 16 + (if s.reg.frozen then 2 ^ 24 else 0)
    + (if s.adm.paused ≠ 0 then 2 ^ 25 else 0)

/-- A heartbeat's body up to its signature (16 R650). Where no frame was sent since the last heartbeat, what FIRST and LAST
hold is left open (log entry 17). -/
def heartbeatBody (s : State) : Octets :=
  let none_ := s.reg.since = []
  leBytes 4 (heartbeatState s)
    ++ leBytes 8 (if none_ then Config.freeValue 51 s.freeCtr else s.reg.first)
    ++ leBytes 8 (if none_ then Config.freeValue 51 (s.freeCtr + 1) else s.reg.seqOut)
    ++ sha256 s.reg.since.flatten ++ s.privKeyId 1

/-- HEARTBEAT (R650). -/
def execHeartbeat (s : State) : Res :=
  if !s.portPowered ∨ !s.reg.up then .next s
  else
    let body := heartbeatBody s
    let t := regSend (s.useFree 48) 7 (body ++ s.sign 1 body)
    .next { t with reg := { t.reg with since := [], first := t.reg.seqOut + 1 } }

/-- An unsolicited report, its NONCE from the service instance (16 R654). -/
def State.ownReport (s : State) : State := s.nonce32.2.sendReport s.nonce32.1

/-- PERIODIC_ATTEST_REPORT (R654). -/
def execPeriodicAttestReport (s : State) : Res := if s.portPowered ∧ s.reg.up then .next s.ownReport else .next s

/-- The span of a message that waits for the link: evidence carries it first, a header at offset 8. -/
def heldSpanOf (m : Nat × Octets) : Nat := if m.1 = 2 then fieldAt m.2 0 6 else fieldAt m.2 8 6

/-- Whether the hot journal still holds a message that waits (16 R651). -/
def State.stillHeld (s : State) (m : Nat × Octets) : Bool :=
  heldSpanOf m ≥ s.t.span || s.scribe.segments.any (fun g => g.own && g.span == heldSpanOf m)

/-- REG_LINK_UP (R651, R654): headers and evidence resume, the trouble record is replayed, a report is sent. -/
def execRegLinkUp (s : State) : Res :=
  if !s.portPowered ∨ s.reg.up then .next s
  else
    let s1 : State := { s with reg := { s.reg with up := true, held := [] } }
    let s2 := (s.reg.held.filter s.stillHeld).foldl (fun t m => regSend t m.1 m.2) s1
    .next s2.replayTrouble.ownReport

/-- REG_LINK_DOWN (R651). -/
def execRegLinkDown (s : State) : Res := .next { s with reg := { s.reg with up := false } }

end Sys2Proof.Machine
end

