-- ==== Sys2Proof/Machine/Manifest.lean ====
section
/-! DEFINITION. What an update carries: the COSE_Sign manifest and its payload, image sets and their digest, pieces, and the
staging session (18 R700 to R718). -/

namespace Sys2Proof.Machine

/-! ### CBOR (18 R704) -/

/-- The head of a CBOR item: major type, argument, the octets after it. Lengths are definite (log entry 46). -/
def cborHead : Octets → Option (Nat × Nat × Octets)
  | [] => none
  | b :: r =>
    let major := b.toNat / 32
    let ai := b.toNat % 32
    let long (n : Nat) : Option (Nat × Nat × Octets) :=
      if r.length < n then none else some (major, beNat (r.take n), r.drop n)
    if ai < 24 then some (major, ai, r)
    else if ai = 24 then long 1 else if ai = 25 then long 2 else if ai = 26 then long 4 else if ai = 27 then long 8 else none

/-- A head of a given type and argument. -/
def cborExpect (major arg : Nat) (l : Octets) : Option Octets := do
  let (m, a, r) ← cborHead l
  if m = major ∧ a = arg then some r else none

/-- A string of a major type: 2 octets, 3 text. -/
def cborString (major : Nat) (l : Octets) : Option (Octets × Octets) := do
  let (m, n, r) ← cborHead l
  if m = major ∧ n ≤ r.length then some (r.take n, r.drop n) else none

/-- A head as an encoder writes it, in the shortest form. -/
def cborPut (major n : Nat) : Octets :=
  if n < 24 then [octet (major * 32 + n)]
  else if n < 256 then [octet (major * 32 + 24), octet n]
  else if n < 65536 then octet (major * 32 + 25) :: beBytes 2 n
  else octet (major * 32 + 26) :: beBytes 4 n

/-- A byte string encoded. -/
def cborBytes (l : Octets) : Octets := cborPut 2 l.length ++ l

/-- A signature of a manifest: its protected header as encoded, the signer's KEY_ID, the signature. -/
structure ManSig where
  prot : Octets
  kid  : Octets
  sig  : Octets
  deriving DecidableEq, Repr

/-- A manifest as encoded: the body's protected header, the payload, the signatures. -/
structure Manifest where
  prot    : Octets
  payload : Octets
  sigs    : List ManSig
  deriving DecidableEq, Repr

/-- The content type of a manifest. -/
def manifestType : Octets := ascii "application/vnd.sudithar.vs251-manifest"

/-- Whether a body's protected header holds only the content type. -/
def bodyHeaderOk (l : Octets) : Bool :=
  (do let r ← cborExpect 5 1 l
      let r ← cborExpect 0 3 r
      let (t, r) ← cborString 3 r
      if t = manifestType ∧ r = [] then some () else none).isSome

/-- The KEY_ID in a signature's protected header, which holds alg −35 and kid, in either order. -/
def sigHeaderKid (l : Octets) : Option Octets := do
  let r ← cborExpect 5 2 l
  let (_, k, r1) ← cborHead r
  if k = 1 then
    let r ← cborExpect 0 1 r
    let r ← cborExpect 1 34 r
    let r ← cborExpect 0 4 r
    let (kid, r) ← cborString 2 r
    if kid.length = 16 ∧ r = [] then some kid else none
  else
    let _ := r1
    let r ← cborExpect 0 4 r
    let (kid, r) ← cborString 2 r
    let r ← cborExpect 0 1 r
    let r ← cborExpect 1 34 r
    if kid.length = 16 ∧ r = [] then some kid else none

/-- n COSE_Signature entries, with nothing after them. -/
def manifestSigs : Nat → Octets → Option (List ManSig)
  | 0, l => if l = [] then some [] else none
  | n + 1, l => do
    let r ← cborExpect 4 3 l
    let (prot, r) ← cborString 2 r
    let r ← cborExpect 5 0 r
    let (sig, r) ← cborString 2 r
    let kid ← sigHeaderKid prot
    if sig.length ≠ 96 then none
    else
      let rest ← manifestSigs n r
      some (⟨prot, kid, sig⟩ :: rest)

/-- A manifest read from its encoding, with so many signatures (18 R704). -/
def parseManifest (nsig : Nat) (l : Octets) : Option Manifest := do
  if l.length > 16384 then none
  else
    let r ← cborExpect 6 98 l
    let r ← cborExpect 4 4 r
    let (prot, r) ← cborString 2 r
    let r ← cborExpect 5 0 r
    let (payload, r) ← cborString 2 r
    let r ← cborExpect 4 nsig r
    let sigs ← manifestSigs nsig r
    if bodyHeaderOk prot then some ⟨prot, payload, sigs⟩ else none

/-- What a signature covers: the Sig_structure of RFC 9052, with empty external AAD. -/
def toBeSigned (m : Manifest) (g : ManSig) : Octets :=
  [0x85] ++ cborPut 3 9 ++ ascii "Signature" ++ cborBytes m.prot ++ cborBytes g.prot ++ cborBytes [] ++ cborBytes m.payload

/-- Whether signature i verifies under a key whose KEY_ID it names (18 R704; 17 R824). -/
def manifestSigOk (m : Manifest) (i : Nat) (pub : Octets) : Bool :=
  match m.sigs[i]? with
  | some g => g.kid == keyIdOf pub && sigOk pub (toBeSigned m g) g.sig
  | none => false

/-- The ROM keys by number (17 R661): device CA, enrolment, microcode, cartridge root, vendor update, debug. -/
def romVendorUpdate : Octets := Config.romKey 4

/-- The signatures a manifest needs (18 R704, R735): of the vendor, and of the operator unless the device is BLANK. -/
def State.manifestSigned (s : State) (m : Manifest) (blank : Bool) : Bool :=
  manifestSigOk m 0 romVendorUpdate && (blank || manifestSigOk m 1 (s.keyOctets 10))

/-! ### The payload (18 R705 to R707) -/

/-- A part entry (18 R706). -/
structure PartEntry where
  typ     : Nat
  version : Nat
  length  : Nat
  pieces  : Nat
  digest  : Octets
  deriving DecidableEq, Repr

/-- The part entries of a payload. -/
def payloadParts (p : Octets) : List PartEntry :=
  (List.range (fieldAt p 2 1)).map (fun i =>
    let o := 64 + 64 * i
    ⟨fieldAt p o 1, fieldAt p (o + 4) 4, fieldAt p (o + 8) 4, fieldAt p (o + 12) 4, slice p (o + 16) 48⟩)

/-- The offsets of the recipient entries. -/
def payloadRecipients (p : Octets) : List Nat :=
  (List.range (fieldAt p 6 1)).map (fun i => 64 + 64 * fieldAt p 2 1 + 208 * i)

/-- Whether a payload's activation is chain-wide. -/
def payloadChain (p : Octets) : Bool := (p.getD 3 0).getLsbD 0

def payloadVersion (p : Octets) : Nat := fieldAt p 8 8
def payloadFloor (p : Octets) : Nat := fieldAt p 16 8
def payloadSetIn (p : Octets) : Nat := fieldAt p 28 2
def payloadSetOut (p : Octets) : Nat := fieldAt p 30 2
def payloadProb (p : Octets) : Nat := fieldAt p 32 4

/-- A size rounded up to 64 KiB. -/
def roundPart (n : Nat) : Nat := (n + 65535) / 65536 * 65536

/-- The parts a set holds: the update's, and for each TYPE it does not carry the active slot's (18 R701). -/
def inherited (parts : List PartEntry) (active : List Part) : List Part :=
  active.filter (fun a => !parts.any (fun e => e.typ == a.typ))

/-- The payload breaks R705 to R707 or R700; `types` are the part types a resulting set must hold. -/
def State.payloadBad (s : State) (p : Octets) (inherit : Bool) (types : List Nat) (only : Bool) : Bool :=
  let parts := payloadParts p
  let keep := if inherit then inherited parts s.activeSlot.parts else []
  let held := parts.map PartEntry.typ ++ keep.map Part.typ
  p.length < 64 || p.length != 64 + 64 * fieldAt p 2 1 + 208 * fieldAt p 6 1 || fieldAt p 0 2 != 1
    || fieldAt p 2 1 == 0 || fieldAt p 2 1 > 4 || fieldAt p 3 1 > 1 || fieldAt p 4 2 != 0xB0
    || fieldAt p 6 1 == 0 || fieldAt p 6 1 > 32 || (!payloadChain p && fieldAt p 6 1 != 1)
    || !(payloadDevices p).contains (payloadCoord p) || payloadVersion p == 0
    || payloadFloor p == 0 || payloadFloor p > payloadVersion p || (payloadChain p && fieldAt p 24 4 == 0)
    || payloadProb p < 1000 || payloadProb p > 100000000 || !zeroAt p 36 28
    || parts.zipIdx.any (fun (e, i) => e.typ == 0 || e.typ > 4 || !zeroAt p (64 + 64 * i + 1) 3 || e.version == 0
        || e.length == 0 || e.pieces != cdiv e.length 65536)
    || !(parts.map PartEntry.typ).Nodup
    || (parts.map (fun e => roundPart e.length)).sum + (keep.map (fun a => roundPart a.data.length)).sum > 134152192
    || (payloadRecipients p).any (fun o => fieldAt p o 1 == 255 || !zeroAt p (o + 1) 7 || !zeroAt p (o + 153) 7 || !zeroAt p (o + 200) 8)
    || types.any (fun t => !held.contains t) || (only && held.any (fun t => !types.contains t))

/-- This device's recipient entry (18 R707, R712). -/
def State.recipient (s : State) (p : Octets) : Option Nat :=
  (payloadRecipients p).find? (fun o => fieldAt p o 1 == s.chain.cfg.device && slice p (o + 8) 48 == s.mfgCertDigest)

/-- The content key unwrapped from a recipient entry (18 R708). -/
def State.contentKey (s : State) (p : Octets) (o : Nat) : Option Octets := do
  let secret ← ecdh (s.keyOctets 2) (slice p (o + 56) 97)
  let kek := hkdf384 (slice p 8 8) secret (ascii "VS251 UPD" ++ [p.getD o 0])
  keyUnwrap (kek.take 32) (slice p (o + 160) 40)

/-! ### The status block (18 R717, R718) -/

/-- The staging session that is open (18 R711, R713). -/
def State.openSession (s : State) : Option Session :=
  match s.upd.session with
  | some x => if x.st = .ended then none else some x
  | none => none

/-- The pieces of a session, over its parts. -/
def sessionTotal (x : Session) : Nat := ((payloadParts x.payload).map PartEntry.pieces).sum

/-- STAGE_PROG (18 R717). An install is one command, so INSTALLING is left before it can be read. -/
def stageProg (s : State) : Nat :=
  match s.openSession with
  | none => 0
  | some x => progressWord (if x.st = .staging then x.pieces.length else sessionTotal x) (sessionTotal x)

/-- ACT_PROG (18 R720): the soak, outside probation all zero. -/
def actProg (s : State) : Nat :=
  match s.upd.session with
  | none => 0
  | some x => if s.upd.act.soaking then progressWord s.upd.act.soak (payloadProb x.payload) else 0

/-- The session state codes (18 R718). -/
def SessSt.code : SessSt → Nat
  | .staging => 1
  | .installing => 2
  | .installed => 3
  | .ended => 0

/-- The S or F in force (18 R722, R729): the span of the newest record of an activation in progress, where it gives one. -/
def State.stepSpan (s : State) : Nat :=
  if s.activating then (match s.newestIntent with | some i => i.span | none => 0) else 0

/-- The status block (18 R718). -/
def updStatusBlock (s : State) : Octets :=
  let x := s.openSession
  let role := match s.newestIntent with | some i => i.role | none => 0
  [octet (x.map (fun y => y.st.code) |>.getD 0), octet (x.map (fun y => y.opener) |>.getD 0), octet s.intentStep, octet role,
      octet s.upd.active, octet s.upd.reason, 0, 0]
    ++ leBytes 8 (x.map (fun y => payloadVersion y.payload) |>.getD 0) ++ leBytes 8 s.activeSlot.version ++ leBytes 8 s.upd.floor
    ++ padTo 48 (x.map (fun y => y.digest) |>.getD []) ++ leBytes 12 (stageProg s) ++ leBytes 12 (actProg s)
    ++ leBytes 6 s.stepSpan ++ zeros 2 ++ leBytes 8 s.upd.gen ++ leBytes 8 (x.map (fun y => y.idle) |>.getD 0)

end Sys2Proof.Machine
end

