-- ==== Sys2Proof/Machine/UpdCore.lean ====
section
/-! DEFINITION. The ends of a staging session and of an activation (18 R711 to R715, R722, R728, R730). -/

namespace Sys2Proof.Machine

/-! ### Messages (18 R715, R721) -/

/-- An update-distribution payload (18 R715). -/
def updPayload (kind part piece off total : Nat) (digest data : Octets) : Octets :=
  [octet kind, octet part, 0, 0] ++ leBytes 4 piece ++ leBytes 4 off ++ leBytes 4 total ++ digest.take 16 ++ data

/-! ### Ends (18 R712, R713, R728 to R730) -/

/-- A session ended by abort or expiry (18 R713, R730): the slot it filled becomes EMPTY, staged certificates are discarded,
and ABORT goes to each neighbour whose session this device opened. -/
def State.endSession (s : State) (x : Session) : State :=
  let s1 := if x.st = .staging ∧ (s.slotOf x.slot).st ≠ .installing then s else s.setSlot x.slot BootSlot.emptySlot
  let s2 : State := { s1 with upd := { s1.upd with session := none, staged := [] } }
  x.opened.foldl (fun t p => match routePort p with
    | some q => t.sendNear q 5 (updPayload 5 0 0 0 0 x.digest [])
    | none => t) s2

/-- KEEP carried out (18 R723, R728): a new generation in format SET_OUT with the overlay, the one before it kept, CONVERTED
written, the floor raised, the session ended. -/
def State.convert (s : State) (x : Session) : State :=
  let s1 : State := { s with upd := { s.upd with
    kept := some (s.upd.saved.getD s.generation), saved := none
    gen := s.upd.gen + 1, format := payloadSetOut x.payload } }
  let s2 := s1.writeStep x 10 0 s.upd.active 0
  { s2.clearUpdate with upd := { s2.upd with
    floor := max s.upd.floor (payloadFloor x.payload), session := none, staged := [], act := s2.upd.act.over } }

/-- The coordinator's decision once every report is in, or at the deadline (18 R727). -/
def State.decideReports (s : State) (x : Session) (deadline : Bool) : State :=
  let ok := (s.listed x).all (fun d => s.upd.act.reports.contains (d, 0))
  if ok then
    let t := (s.writeStep x 8 0 s.upd.active 0).updTrouble 8 0 x.digest
    (t.sendConfirm x 3 0).convert x
  else if deadline then s.decideFallback x
  else s

/-- SWITCHED (18 R713, R722, R730, R731): the settings in force are kept for a fallback, staged certificates become current, the
session ends and its pieces are freed. -/
def State.switched (s : State) (x : Session) (span : Nat) : State :=
  let s1 := (s.writeStep x 5 span x.slot 0).updTrouble 5 0 x.digest
  let g := s1.generation
  { s1 with
    adm := { s1.adm with certsNext := s1.adm.certsNext ++ s1.upd.staged }
    upd := { s1.upd with saved := some g, staged := [], session := some { x with st := .ended, pieces := [] }, act := s1.upd.act.over } }

end Sys2Proof.Machine
end

