-- ==== Sys2Proof/Machine/Resets.lean ====
section
/-! DEFINITION. What resets, losses of supply and the end of service do to the blocks (19 R737 to R740; 14 R559, R569; 17
R676, R684, R690, R692). -/

namespace Sys2Proof.Machine

/-- A core at reset; bench memory, frames and microstore are kept where the block alone is held (17 R676). -/
def Core.restart (k : Core) (held keepMem : Bool) : Core :=
  let n := Core.reset held k.mcver
  if keepMem then { n with bench := k.bench, frames := k.frames, micro := k.micro } else n

/-- Every core at reset. -/
def State.restartCores (s : State) (held keepMem : Bool) : State :=
  { s with cores := s.cores.map (fun k => k.restart held keepMem) }

/-- Whether a segment is kept by a reset (14 R559): its header is written and its signature verifies, under the device's span key
or the one learned from the source. Where that key is not held the header cannot be verified and stays, so that a TAMPERED device
drains what it has sealed (17 R678; log entry 104). -/
def State.keepsSegment (s : State) (g : Segment) : Bool :=
  match g.header with
  | none => false
  | some h =>
    let key := if g.own then (s.key 3).map (fun k => ecPublic k.key) else (s.chain.peers.get none g.source).map Prod.fst
    match key with
    | none => true
    | some k => sigOk k (slice h 0 192) (slice h 192 96)

/-- The hot journal after a reset (14 R559, R569): of the segments those of `kept` stay, and a sealed span whose quorum was not
met is QUORUM_SHORT. -/
def Scribe.recover (g : Scribe) (kept : Segment → Bool) (now : Nat) : Scribe :=
  { g with
    leaves := [], bank0 := 0, carried := [], spanOpen := false, spanPaused := false, waitq := []
    segments := (g.segments.filter kept).map
      (fun (x : Segment) => if x.own && !x.decided then { x with decided := true, short := true, readyAt := now } else x) }

/-- The first QUORUM_SHORT span after a reset (14 R569). -/
def State.recoverShort (s : State) : State :=
  let l := (s.scribe.segments.filter (fun g => g.own && s.keepsSegment g && !g.decided)).map (fun (g : Segment) => g.span)
  if s.chain.shortSpan ≠ 0 then s
  else { s with chain := { s.chain with shortSpan := l.foldl (fun m n => if m = 0 ∨ n < m then n else m) 0 } }

/-- The span in progress, its records and every completion not written are lost, and with the records the evidence of them that
waited for the regulator's link (16 R651); the engines hold nothing (17 R676, R677; 19 R737). -/
def State.dropWork (s : State) : State :=
  let s0 := s.recoverShort
  { s0 with
    t := { s0.t with phase := .none, run := false, cyc := 0 }
    lve := ⟨[], 0⟩
    mover := ⟨[], 0⟩
    scribe := s0.scribe.recover s0.keepsSegment s0.t.clock
    ds := { DrawSeal.reset with st := s0.ds.st }
    reg := { s0.reg with held := s0.reg.held.filter (fun m => m.1 != 2 ||
      s0.scribe.segments.any (fun g => g.own && s0.keepsSegment g && g.span == fieldAt m.2 0 6)) }
    host := { s0.host with
      ended := [], waiting := [], queue := [], held := []
      postQueue := [], postDue := 0, dbReq := false, dbDue := false, flush := none }
    adm := { s0.adm with devCmds := [], admitted := [], current := none }
    cart := { s0.cart with unit := none } }

/-- The debug level returns to D0 (17 R682): halts and breakpoints end with it. -/
def State.debugOff (s : State) : State :=
  { s with
    sec := { s.sec with dbgLevel := 0, dbgLeft := 0, dbgSince := 0, breaks := [] }
    cores := s.cores.map (fun (k : Core) => { k with haltReq := false, halted := false, step := false }) }

/-- What every reset does to the debug port (17 R681, R682; 19 R737): D0, and refusals count anew. -/
def State.debugReset (s : State) : State :=
  let t := s.debugOff
  { t with sec := { t.sec with refusals := 0 } }

/-- The host interface after PERST_N (19 R737, R738): every ring ABSENT, BAR0 at its reset values; completions of what was
consumed before are discarded. What the supervisor has posted is admission's, which is kept. The link trains anew (20 R789; log
entry 108). -/
def State.resetHost (s : State) : State :=
  { s with host := { HostIf.reset with linkL0 := false, dllUp := false, postQueue := s.host.postQueue, discardBelow := s.adm.order } }

/-- The pause reasons as they stand (02 pause table; 21 R807): `settings` says that the settings check has not passed. -/
def State.pausesNow (s : State) (settings : Bool) : BitVec 5 :=
  BitVec.ofNat 5 ((if s.reg.frozen then 1 else 0) + (if s.chain.shortSpan ≠ 0 then 2 else 0)
    + (if freeBlocks s < fullThreshold s then 4 else 0) + (if settings then 8 else 0)
    + (if s.power.reasons ≠ 0 ∨ s.power.st = .p2 then 16 else 0))

/-- The reset of every block but the security domain, the regulator port and persistent memory (19 R737): the column of MRST_N,
the host reset and the activation restart, and of VIN48 power-on. Stored settings are loaded (21 R804); of the P2 reasons UPDATE
and JOURNAL survive (17 R685). No pause holds until the boot finds one (03 R122), a due re-level stays due (19 R746). A
cartridge that is present is trained and authenticated anew (15 R611; 20 R791, R793). -/
def State.resetBlocks (s : State) : State :=
  let g := s.generation
  let s0 := if s.cartPowered then s.cartDown else s
  let s1 := (s0.dropWork.restartCores true false).resetHost.debugReset.loadGeneration g
  let life : BitVec 4 := if s.sec.life = .provisioned ∨ s.sec.life = .sealed then 0 else 0x8
  { s1 with
    cart := { s1.cart with mount := if s1.cart.mount = .absent then .absent else .attesting, zoneOpen := false }
    t := { Spans.reset with clock := s.t.clock, lastStarted := s.t.lastStarted, span := s.t.lastStarted, k := s1.t.k, sync := s1.t.sync }
    bay := [], bayFrames := [], hbm := [], hbmRegions := []
    adm := { Adm.reset with paused := 0, certs := s1.adm.certs, cfg := s1.adm.cfg, cfgNext := s1.adm.cfgNext, order := s.adm.order }
    chain := { Chain.reset with cfg := s.chain.cfg, srcHeld := s.chain.srcHeld, shortSpan := s1.chain.shortSpan }
    sec := { s1.sec with sealAt := none }
    power := { s.power with reasons := (s.power.reasons &&& 0x6) ||| life, since := none, next := none, p3At := none }
    upd := { s1.upd with rxBuf := [], act := Activ.none }
    svc := { Svc.reset with
      bootCount := s.svc.bootCount, vcore := s.svc.vcore, seconds := s.svc.seconds, relevels := s.svc.relevels
      lastRelevel := s.svc.lastRelevel, due := s.svc.due, dueFor := s.svc.dueFor, days := s.svc.days, daysWarned := s.svc.daysWarned
      tr := s.svc.tr, trSeq := s.svc.trSeq, trRing := s.svc.trRing, trPinned := s.svc.trPinned
      corrThr := s1.svc.corrThr, pscrubH := s1.svc.pscrubH, stage := .off } }

/-- P3 entered (17 R684, R689, R690): converters off; the span in progress is not sealed, what the cores and the host
interface held is lost. -/
def State.enterP3 (s : State) : State :=
  let t := s.resetBlocks
  { t with power := { t.power with st := .p3 }, sec := { t.sec with refusals := s.sec.refusals }
           svc := { t.svc with alerts := s.svc.alerts, smbSeek := s.svc.smbSeek, trLost := s.svc.trLost } }

/-- A loss of VIN48, or what is handled as one (17 R690; 20 R770, R796): P3 at once, a pinned entry with its cause. -/
def State.supplyLoss (s : State) (cause : Nat) : State :=
  if s.power.st = .p3 ∨ s.power.st = .p4 then s
  else (s.trouble true 0x0003 2 0xFF [octet cause, octet s.power.st.code]).enterP3

/-- The cores and engines held in reset for good, the span in progress lost (17 R676, R692). -/
def State.holdEngines (s : State) : State :=
  let t := s.dropWork.restartCores true true
  { t with scribe := { t.scribe with sealing := false } }

/-- A P2 reason that holds at once, with the state P2, and its pause, where the module runs (17 R658, R685, R692; 03 R122). -/
def State.lifeHold (s : State) : State :=
  let t : State := { s with power := { s.power with
    reasons := s.power.reasons ||| 0x8, since := none, next := none, p3At := none
    st := if s.power.st = .p0 ∨ s.power.st = .p1 then .p2 else s.power.st } }
  if t.power.st = .p2 then t.pauseBit 4 true else t

/-- A lifecycle change (17 R660): a pinned entry, D0. -/
def State.setLife (s : State) (l : Lifecycle) : State :=
  let t := (s.debugOff).trouble true 0x0061 2 0xFF [octet s.sec.life.code, octet l.code]
  { t with sec := { t.sec with life := l } }

end Sys2Proof.Machine
end

