-- ==== Sys2Proof/Machine/Boot.lean ====
section
/-! DEFINITION. Boot: the slot, the microcode packages, the entries, the activation's state, the settings check, the start-up
tests, the wait for a source (19 R742 to R744; 13 R541 to R543; 18 R703, R725, R732 to R735). -/

namespace Sys2Proof.Machine

/-! ### Steering sources (02; 14 R582) -/

/-- The source in force: the time master follows no frames (14 R582). -/
def State.syncSource (s : State) : Nat :=
  if s.chain.cfg.device ≠ 0 ∧ s.chain.cfg.master = s.chain.cfg.device then
    (if s.t.sync = 2 then 0 else if s.t.sync = 3 then 1 else s.t.sync)
  else s.t.sync

/-- Source 12 at a change of the steering state (09 R367; 02 R46). -/
def State.setSyncSt (s : State) (st : SyncSt) : State :=
  if s.t.syncSt = st then s else ({ s with t := { s.t with syncSt := st } }).raise 12 0

/-! ### The reset sources (19 R736) -/

/-- The number of a source in the trouble record, which the manual does not give (log entry 47). -/
def ResetSrc.code : ResetSrc → Nat
  | .vaux => Config.freeValue 56 1 % 256
  | .vin48 => Config.freeValue 56 2 % 256
  | .mrst => Config.freeValue 56 3 % 256
  | .host => Config.freeValue 56 4 % 256
  | .activation => Config.freeValue 56 5 % 256
  | .perst => Config.freeValue 56 6 % 256

/-- The RESET entry, pinned for a host reset (19 R756). -/
def State.resetEntry (s : State) (src : ResetSrc) : State := s.trouble (src == .host) 0x0002 1 0xFF [octet src.code]

/-! ### Slots and packages -/

/-- Whether a slot's manifest carries the signatures it needs (18 R704, R735); the shipped set has none (log entry 4). -/
def State.slotSigned (s : State) (b : BootSlot) : Bool :=
  b.manifest == [] || (match parseManifest 2 b.manifest with
    | some m => s.manifestSigned m false
    | none => match parseManifest 1 b.manifest with
      | some m => s.manifestSigned m true
      | none => false)

/-- Whether the boot ROM boots a slot (18 R703; 19 R742 step 3). -/
def State.bootable (s : State) (n : Nat) : Bool :=
  let b := s.slotOf n
  b.st == .valid && b.sound && b.version ≥ s.upd.floor && s.slotSigned b

/-- Whether a part is that of the shipped set. -/
def Part.shipped (a : Part) : Bool := a.data == Config.shippedPart a.typ

/-- The vendor VERSION of a set (13 R543). -/
def BootSlot.vendorVersion (b : BootSlot) : Nat :=
  match b.part 2 with
  | some a => if a.shipped then a.version else fieldAt a.data 8 4
  | none => 0

/-- The refusal of a set's packages: KIND, the check's row, the offset of the first word at fault (13 R541). -/
def State.packageRefusal (s : State) (b : BootSlot) : Option (Nat × Nat × Nat) :=
  let vendor := match b.part 2 with
    | some a => if a.shipped then none else vendorCheck a.data (Config.romKey 2)
    | none => none
  match vendor with
  | some (row, off) => some (1, row, off)
  | none =>
    match b.part 3 with
    | some a => (customerCheck a.data (s.keyOctets 10) b.vendorVersion).map (fun (row, off) => (2, row, off))
    | none => none

/-- The packages of a set loaded into every core's microstore (13 R519, R543): MCVER reads the same on every core. -/
def State.loadPackages (s : State) (b : BootSlot) : State :=
  let customer := match b.part 3 with
    | some a => fieldAt a.data 8 4
    | none => 0
  let v : W32 := BitVec.ofNat 32 (b.vendorVersion * 65536 + customer % 65536)
  { s with
    cores := s.cores.map (fun (k : Core) => { k with mcver := v })
    svc := { s.svc with vendorPackage := (b.part 2).map Part.data, mcPackage := (b.part 3).map Part.data } }

/-- Whether a set's SUPERVISOR verifies (19 R742 step 8); a set without one passes the step over (18 R735). -/
def BootSlot.supervisorOk (b : BootSlot) : Bool :=
  match b.part 4 with
  | some a => sha384 a.data == a.digest
  | none => true

/-- Octets put into a core's bench memory from address 0, as RAW granules; what bench memory does not hold is not read. -/
def Core.loadBench (k : Core) (o : Octets) : Core :=
  let put (m : SMap TVal) (i : Nat) : SMap TVal := m.set TVal.zero i ⟨tRAW, BitVec.ofNat 128 (fieldAt o (16 * i) 16)⟩
  { k with bench := (List.range (min 32768 (cdiv o.length 16))).foldl put k.bench }

/-- The SUPERVISOR loaded into every core's bench memory (18 R700; 19 R742 step 8); what a core gets of it is open (log entry
90). -/
def State.loadSupervisor (s : State) (b : BootSlot) : State :=
  match b.part 4 with
  | some a => s.forCores (fun c t => t.modCore c (fun k => k.loadBench (Config.supervisorBench a.data c.val)))
  | none => s

/-- Whether the module runs spans (17 R658, R692). -/
def State.inService (s : State) : Bool := s.sec.life == .provisioned || s.sec.life == .sealed

/-! ### The activation after a reset (18 R732) -/

/-- Whether intent records are acted on: not in TAMPERED (17 R678), nor in RETIRED, which runs nothing. -/
def State.actsOnIntents (s : State) : Bool := s.sec.life != .tampered && s.sec.life != .retired

/-- The slot to boot. -/
def State.bootTarget (s : State) : Nat :=
  match s.newestIntent with
  | some i => if s.activating ∧ s.actsOnIntents then i.boot else s.upd.active
  | none => s.upd.active

/-- Whether a probation is not over: the new slot's failure at boot is FAIL_BOOT (18 R726). -/
def State.onProbation (s : State) : Bool :=
  match s.newestIntent with
  | some i => i.step == 5 || i.step == 6 || (i.step == 7 && i.arg == 0)
  | none => false

/-- The settings check of probation (18 R725): passed, SETTINGS_OK is written and the soak begins; failed, FAIL_SETTINGS is
reported. -/
def State.settingsCheck (s : State) (x : Session) (ok : Bool) : State :=
  if ok && s.upd.format == payloadSetIn x.payload then
    let s1 := if s.intentStep = 5 then s.writeStep x 6 0 s.upd.active 0 else s
    let soak := s1.intentStep == 6
    { s1.clearUpdate with upd := { s1.upd with act := { s1.upd.act with soaking := soak } } }
  else s.reportProbation 1

/-- What the newest intent record asks for after a reset (18 R732); nothing in TAMPERED (17 R678). A coordinator that had
reported OK counts its own report again (R727); the old slot runs on its own settings generation (R729). The PREPARED of a
coordinator becomes ABORT; a participant's, a COMMIT and a failure report hold the device in P2 or as they say. -/
def State.resumeActivation (s : State) (ok : Bool) : State :=
  match s.newestIntent, s.upd.session with
  | some i, some x =>
    if !s.actsOnIntents then s
    else match i.step with
      | 2 =>
        if i.role = 1 then (s.writeStep x 4 0 s.upd.active 0).sendConfirm x 2 0
        else s.setP2 1
      | 3 => if i.role = 1 then s.sendConfirm x 1 i.span else s
      | 5 | 6 => if s.upd.active = i.boot then (s.setP2 1).settingsCheck x ok else s.oldGeneration.setP2 1
      | 7 =>
        if s.upd.active ≠ i.boot then s.oldGeneration.setP2 1
        else if i.arg = 0 then
          let own := if s.isCoord ∧ ok ∧ s.upd.format = payloadSetIn x.payload then [(s.chain.cfg.device, 0)] else []
          let t := { s with upd := { s.upd with act := { s.upd.act with reported := some 0, reportSpan := s.t.span, reports := own } } }
          let u := (t.setP2 1).settingsCheck x ok
          if own = [] then u else u.decideReports x false
        else
          let t := s.oldGeneration.setP2 1
          { t with upd := { t.upd with act := { t.upd.act with reported := some i.arg, reportSpan := s.t.span } } }
      | 8 => s.convert x
      | 9 => s.fellBack x
      | _ => s
  | _, _ => s

/-! ### Boot (19 R742 to R744) -/

/-- How a boot waits for the span counter's source (19 R743). -/
def State.firstStage (s : State) : BootStage :=
  if !s.inService then .running
  else match s.syncSource with
    | 0 => .running
    | 2 => .waitSync
    | _ => .waitTimein

/-- A boot that holds: P2, the cores in reset, the pause of P2 (03 R122). -/
def State.holdBoot (s : State) (stage : BootStage) : State :=
  let t : State := { s with
    power := { s.power with st := .p2 }
    svc := { s.svc with stage := stage }
    cores := s.cores.map (fun (k : Core) => { k with held := true }) }
  t.setPaused (t.pausesNow false)

/-- Step 4: the boot counted, a latched loss of VAUX entered (20 R767), the BOOT entry, and the RESET entry of the reset that
led here (19 R742, R756; log entry 74). -/
def State.bootEntries (s : State) (src : ResetSrc) : State :=
  let b := s.activeSlot
  let s1 := { s with svc := { s.svc with bootCount := s.svc.bootCount + 1 } }
  let s2 : State := match s1.power.lossAt with
    | some p => { (s1.trouble true 0x0003 2 0xFF [2, octet p]) with power := { s1.power with lossAt := none } }
    | none => s1
  let s3 := s2.trouble false 0x0001 1 0xFF ([octet s.upd.active] ++ leBytes 8 b.version ++ [octet src.code]
    ++ leBytes 4 (Config.freeValue 55 s.freeCtr))
  let s4 := if s3.svc.resetDue then { s3.resetEntry src with svc := { (s3.resetEntry src).svc with resetDue := false } } else s3
  s4.useFree 1

/-- Steps 7 to 10 from a slot whose set has passed its checks. -/
def State.finishBoot (s : State) (src : ResetSrc) (env : BootEnv) : State :=
  let b := s.activeSlot
  let run := s.inService && b.supervised
  let s4 := s.loadPackages b
  let s5 := if run then s4.loadSupervisor b else s4
  let s6 : State := { s5 with cores := s5.cores.map (fun (k : Core) => { k with held := !run }) }
  let s7 := if s.inService && !b.supervised then s6.setP2 1 else s6
  let s8 := s7.resumeActivation env.settingsOk
  let s9 := s8.startTests env.raw
  let failed := s9.activating && (match s9.newestIntent with
    | some i => i.step == 7 && i.arg == 1 && i.boot != s9.upd.active
    | none => false)
  let s10 : State := { s9 with
    power := { s9.power with st := if s9.power.reasons = 0 then .p0 else .p2, since := none }
    cores := if s9.power.reasons = 0 then s9.cores else s9.cores.map (fun (k : Core) => { k with p2stopped := true })
    svc := { s9.svc with stage := s9.firstStage } }
  let s11 := s10.setPaused (s10.pausesNow failed)
  if src = .activation then s11.ownReport else s11

/-- ROM recovery (18 R734): P2, no span runs, the cores stay in reset. A failed probation that led here has ended, so that
another manifest can be taken. -/
def State.recovery (s : State) : State :=
  let t := match s.upd.session with
    | some x => if s.activating ∧ s.intentStep ≥ 5 then s.fellBack x else s
    | none => s
  let u := t.holdBoot .recovery
  { u with chain := { u.chain with ports := u.chain.ports.map (fun (q : ChainPort) => { ChainPort.reset with linkUp := q.linkUp }) } }

/-- Whether the image hangs before the end of a boot step (19 R744). -/
def hungBy (env : BootEnv) (step : Nat) : Bool := env.hangsAt.any (fun n => n.val + 4 ≤ step)

/-- A slot tried, step by step (19 R742, R744): what it does, and the step at which it is refused, if it is. An image that hangs
does the steps before it. -/
def State.tryBoot (s : State) (n : Nat) (src : ResetSrc) (env : BootEnv) (last : Bool) : State × Option Nat :=
  if !s.bootable n then (s, some 3)
  else
    let s1 := { s with upd := { s.upd with active := n } }
    if hungBy env 4 then (s1.holdBoot (.hung last), none)
    else
      let s2 := s1.bootEntries src
      if hungBy env 7 then (s2.holdBoot (.hung last), none)
      else match s2.packageRefusal (s.slotOf n) with
      | some (kind, row, off) => (s2.trouble true 0x0005 1 0xFF ([octet kind, octet row] ++ leBytes 4 off), some 7)
      | none =>
        if hungBy env 8 then (s2.holdBoot (.hung last), none)
        else if !(s.slotOf n).supervisorOk then (s2, some 8)
        else if hungBy env 9 then (s2.holdBoot (.hung last), none)
        else (s2.finishBoot src env, none)

/-- Whether the inactive slot may serve as the fallback: no activation in progress, no install begun, and a slot that the boot ROM
boots (18 R703, R714; 19 R744). -/
def State.hasFallback (s : State) (n : Nat) : Bool :=
  !s.activating && (match s.upd.session with | some x => x.st == .staging | none => true)
    && s.bootable (1 - n)

/-- A refused slot (19 R744; 18 R726): in probation the old slot boots and FAIL_BOOT is reported; with no activation in
progress the other slot boots with its own settings generation; otherwise ROM recovery. -/
def State.bootRefused (s : State) (n step : Nat) (src : ResetSrc) (env : BootEnv) : State :=
  if s.onProbation then
    match s.tryBoot (1 - n) src env true with
    | (t, none) => if t.svc.stage = .hung true then t else t.reportProbation 2
    | (t, some _) => t.recovery
  else if s.hasFallback n then
    let s1 := s.trouble true 0x0004 10 0xFF [octet n, octet step, octet (1 - n)]
    let s2 := match s1.upd.kept with
      | some g => let cur := s1.generation
        let t := s1.loadGeneration g
        { t with upd := { t.upd with kept := some cur } }
      | none => s1
    match s2.tryBoot (1 - n) src env true with
    | (t, none) => t
    | (t, some _) => t.recovery
  else s.recovery

/-- A boot from step 3 on. -/
def State.bootFrom (s0 : State) (src : ResetSrc) (env : BootEnv) : State :=
  let s := { s0 with svc := { s0.svc with source := src, resetDue := [ResetSrc.mrst, .host, .activation].contains src } }
  let n := s.bootTarget
  match s.tryBoot n src env false with
  | (t, none) => t
  | (t, some step) => t.bootRefused n step src env

/-- A cold boot holds at step 1 for REFCLK and for a warm die (20 R770, R796). -/
def State.coldBoot (s : State) (src : ResetSrc) (env : BootEnv) : State :=
  let s1 := { s with power := { s.power with vin48 := true, refclk := env.refclk, dieWarm := env.dieWarm } }
  if env.refclk && env.dieWarm then s1.bootFrom src env
  else ({ s1 with svc := { s1.svc with source := src } }).holdBoot .waitEnv

/-- The warm resets (19 R736, R737, R742). -/
def State.warmReset (s : State) (src : ResetSrc) (env : BootEnv) : State := s.resetBlocks.bootFrom src env

end Sys2Proof.Machine
end

