-- ==== Sys2Proof/Machine/Steering.lean ====
section
/-! DEFINITION. Keeping spans in step: TIMEIN, span-sync frames, the plate guard (02 R39 to R46; 14 R582 to R586). -/

namespace Sys2Proof.Machine

/-- Cycles of a second, and the 25 ns of R43 in cycles. -/
abbrev secondCycles : Nat := 2000000000
abbrev lockCycles : Nat := 50

/-- A difference modulo a length, centred on 0. -/
def centred (d : Int) (len : Nat) : Int :=
  let r := d % (len : Int)
  if 2 * r > (len : Int) then r - (len : Int) else r

/-- A measurement of the offset (02 R43): three in a row of 25 ns or less make LOCKED, a larger one ACQUIRE. -/
def State.measure (s : State) (off : Int) : State :=
  let near := off.natAbs ≤ lockCycles
  let n := if near then min (s.t.inLock + 1) 3 else 0
  ({ s with t := { s.t with offset := off, inLock := n } }).setSyncSt (if n = 3 then .locked else .acquire)

/-- Whether TIMEIN is the source steered by: chosen, and for source 3 valid (02 table of sources). -/
def State.onTimein (s : State) : Bool := s.syncSource == 1 || s.syncSource == 3

/-- Whether span-sync frames are followed: the master never follows them (14 R582). -/
def State.onChain (s : State) : Bool :=
  (s.syncSource == 2 || (s.syncSource == 3 && s.t.lastPulse.isNone))
    && !(s.chain.cfg.device ≠ 0 && s.chain.cfg.master == s.chain.cfg.device)

/-- The grid of R40 from an anchor (pulse time, cycles from that pulse to a target boundary): carried to a pulse now. -/
def gridAt (anchor : Nat × Nat) (now len : Nat) : Nat :=
  let seconds := (now - anchor.1 + secondCycles / 2) / secondCycles
  ((anchor.2 : Int) - (seconds * secondCycles : Nat)) % (len : Int) |>.toNat

/-- The anchor of a new span length (02 R40): the boundary of the old grid nearest to now, with the pulse it was aligned to. -/
def regrid (anchor : Nat × Nat) (now old new : Nat) : Nat × Nat :=
  let next : Int := (now : Int) - centred ((now : Int) - anchor.1 - anchor.2) old
  (anchor.1, ((next - anchor.1) % (new : Int)).toNat)

/-- The path from the TIMEIN land to the sampling point in cycles: 14 ns (20 R786). -/
abbrev timeinPath : Nat := 28

/-- When the pulse now sampled was at the land (20 R786; log entry 75). -/
def State.pulseAt (s : State) : Nat := s.t.clock - timeinPath

/-- The offset of the counter at a pulse: its latest boundary from the grid; the first pulse measured begins the grid itself
(log entry 75). -/
def State.pulseOffset (s : State) : Int :=
  let len := spanCycles s.t.k
  let g : Int := match s.t.anchor with
    | some a => gridAt a s.pulseAt len
    | none => 0
  centred ((s.t.startClock : Int) - (s.pulseAt : Int) - g) len

/-- TIMEIN_PULSE (R39, R40, R43, R44, R46; 19 R743): before the first span it sets the counter's phase and the first sill may
open; later each pulse measures the offset from the grid, which the first pulse begins and which is the anchor's from the
lock on. -/
def execTimeinPulse (s : State) : Res :=
  if !s.onTimein then .next { s with t := { s.t with lastPulse := some s.pulseAt } }
  else if s.svc.stage = .waitTimein then
    let t := { s with
      t := { s.t with lastPulse := some s.pulseAt, anchor := some (s.pulseAt, 0) }
      svc := { s.svc with stage := .running } }
    .next (t.setSyncSt .acquire)
  else if s.t.run = false then .next { s with t := { s.t with lastPulse := some s.pulseAt } }
  else
    let grid := match s.t.anchor with
      | some a => gridAt a s.pulseAt (spanCycles s.t.k)
      | none => 0
    let s1 := s.measure s.pulseOffset
    .next { s1 with t := { s1.t with lastPulse := some s.pulseAt, anchor := some (s.pulseAt, grid) } }

/-- TIMEIN_LOSS (R44): HOLDOVER, or for source 3 the chain's frames from now on. -/
def execTimeinLoss (s : State) : Res :=
  if !s.onTimein ∨ s.t.lastPulse.isNone then .next s
  else
    let t := { s with t := { s.t with lastPulse := none, inLock := 0 } }
    let heard := s.syncSource == 3 && s.t.lastSync + 16 > s.t.span && s.t.lastSync ≠ 0
    .next (t.setSyncSt (if heard then .acquire else .holdover))

/-! ### Span-sync frames (14 R583 to R586) -/

/-- The steering state codes (21 R811). -/
def SyncSt.code : SyncSt → Nat
  | .free => 0
  | .acquire => 1
  | .locked => 2
  | .holdover => 3

/-- Whether this device is the time master. -/
def State.isMaster (s : State) : Bool := s.chain.cfg.device != 0 && s.chain.cfg.master == s.chain.cfg.device

/-- The port towards the master. -/
def State.upstream (s : State) : Option Port := if s.isMaster then none else s.route s.chain.cfg.master

/-- A span-sync payload (14 R583). -/
def syncBody (s : State) (msg span t : Nat) : Octets :=
  [octet msg, octet s.t.syncSt.code, octet (if s.isMaster then 0 else s.chain.depth), 0] ++ leBytes 6 span ++ zeros 2 ++ leBytes 8 t

/-- A follower: SPAN_CFG.SYNC of 2 or 3 on a device that is not the master (14 R582, span sync). -/
def State.isFollower (s : State) : Bool := !s.isMaster && (s.syncSource == 2 || s.syncSource == 3)

/-- The frames of a sill (14 R584): the master and a LOCKED follower, whatever source it is locked to, send SYNC and DELAY_REQ on
each port that leads away from the master; a follower sends DELAY_REQ on its upstream link (log entry 48). T is the cycle count
since the start of the span (R583; log entry 48). -/
def State.sendSyncs (s : State) : State :=
  let up := s.upstream
  let leads := s.isMaster || (s.isFollower && s.t.syncSt == .locked)
  let s1 := allPorts.foldl (fun t p =>
    if leads && some p != up then
      (t.sendNear p 4 (syncBody t 1 t.t.span (t.t.clock - t.t.startClock))).sendNear p 4 (syncBody t 2 0 0)
    else t) s
  match up with
  | some p =>
    if s.onChain then
      let s2 := s1.sendNear p 4 (syncBody s1 2 0 0)
      { s2 with chain := { s2.chain with reqSent := some (p.val, s.t.clock) } }
    else s1
  | none => s1

/-- A span-sync frame of a message code that is received and opened. -/
def syncRow (msg : Nat) (f : RxFrame) (act : State → Octets → State) (s : State) : Res :=
  rxRow 4 f (fun t b => if b.length = 20 ∧ fieldAt b 0 1 = msg then act t b else t) s

/-- The first SYNC after a boot that waits for it (19 R743; 14 R586; 02 R38): the chain's span number is taken if it is
greater than the one last recorded; otherwise the device does not join, and the port is refused with one of the reasons
of R599, which one the manual does not give (log entry 49). -/
def State.joinSpan (s : State) (p : Port) (span : Nat) : State :=
  if span > s.t.lastStarted then
    ({ s with t := { s.t with span := span, lastSync := span }, svc := { s.svc with stage := .running } }).setSyncSt .acquire
  else (s.useFree 1).refusePort p (s.openReason 53)

/-- The delay d of a link that has been measured: half the round trip and the port's ASYM, in ns (R584). -/
def State.linkDelay (s : State) (p : Port) : Option Int :=
  s.chain.upDelay.bind (fun (q, half) => if q = p.val then some (half + 2 * s.chain.cfg.asym.getD p.val 0) else none)

/-- SYNC (R583, R584, R586): the offset of R584 is (arrival − start of SPAN) − T − d, once the link's delay is known: what the own
boundary lacks of the master's. State holds offsets as own boundary less target, as for TIMEIN, so its negative. -/
def execSync (f : RxFrame) (s : State) : Res :=
  syncRow 1 f (fun t b =>
    if !t.onChain ∨ t.upstream ≠ some f.port then t
    else
      let span := fieldAt b 4 6
      let t1 : State := { t with t := { t.t with lastSync := max t.t.span 1 }, chain := { t.chain with depth := fieldAt b 2 1 + 1 } }
      if t.svc.stage = .waitSync then t1.joinSpan f.port span
      else
        match t.linkDelay f.port with
        | none => if t1.t.syncSt = .holdover then t1.setSyncSt .acquire else t1
        | some d =>
          let start : Int := (t.t.startClock : Int) + ((span : Int) - (t.t.span : Int)) * (spanCycles t.t.k : Int)
          t1.measure (-(((t.t.clock : Int) - start) - (fieldAt b 12 8 : Int) - d))) s

/-- DELAY_REQ (R584): answered with a DELAY_RESP in the same step, so that T is 0 (R583; log entry 48). -/
def execDelayReq (f : RxFrame) (s : State) : Res :=
  syncRow 2 f (fun t _ => t.sendNear f.port 4 (syncBody t 3 0 0)) s

/-- DELAY_RESP (R584): half of the upstream link's round trip, less the answerer's time. -/
def execDelayResp (f : RxFrame) (s : State) : Res :=
  syncRow 3 f (fun t b =>
    match t.chain.reqSent with
    | some (p, at_) =>
      if p = f.port.val ∧ t.upstream = some f.port then
        let round : Int := (t.t.clock : Int) - (at_ : Int) - (fieldAt b 12 8 : Int)
        { t with chain := { t.chain with reqSent := none, upDelay := some (p, round / 2) } }
      else t
    | none => t) s

/-- SYNC_TIMEOUT (R586): no SYNC for 16 spans. -/
def execSyncTimeout (s : State) : Res :=
  if s.onChain ∧ s.t.run ∧ s.t.lastSync + 16 ≤ s.t.span then
    .next (({ s with t := { s.t with inLock := 0 } }).setSyncSt .holdover)
  else .next s

/-! ### The plate guard (02 R41, R44, R46) -/

/-- The correction a plate guard takes: all of the offset in P2, otherwise at most k × 32 cycles. In HOLDOVER the last correction
applied is taken as the last estimated one (R44; log entry 99) and repeated, within k × 32 cycles (R41, R46). -/
def State.correction (s : State) : Int :=
  let lim : Int := 32 * s.t.k
  match s.t.syncSt with
  | .free => 0
  | .holdover => max (-lim) (min lim s.t.corr)
  | _ => if s.power.st = .p2 then -s.t.offset else max (-lim) (min lim (-s.t.offset))

/-- The plate guard of this span lengthened or shortened. -/
def State.steerGuard (s : State) : State :=
  let c := s.correction
  { s with t := { s.t with corr := c, offset := if s.t.syncSt = .holdover then s.t.offset else s.t.offset + c } }

end Sys2Proof.Machine
end

