-- ==== Sys2Proof/Machine/Tamper.lean ====
section
/-! DEFINITION. Tamper: the lid, the loop, the response (17 R674 to R678). -/

namespace Sys2Proof.Machine

/-- Whether a loop reading is outside the range of a tamper event (17 R675). -/
def loopBad (ohms : Nat) : Bool := ohms < 500 || ohms > 20000

/-- Whether a key is overwritten by the response (17 R676): slots 2 to 5, symmetric keys of 16 to 63, private keys of 64 to 95. -/
def tamperErases (slot : Nat) (k : Key) : Bool :=
  (2 ≤ slot && slot ≤ 5) || (16 ≤ slot && slot ≤ 63) || (64 ≤ slot && slot ≤ 95 && k.typ == .priv)

/-- The slots after the response. -/
def State.tamperKeys (s : State) : SMap (Option Key) :=
  s.sec.slots.filter (fun (n, k) => match k with | some x => !tamperErases n x | none => true)

/-- The TAMPER entry (19 R756): sources, loop reading, former state, last sealed span. -/
def State.tamperEntry (s : State) (sources former : Nat) : State :=
  s.trouble true 0x0060 2 0xFF ([octet sources] ++ leBytes 4 s.sec.loopOhms ++ [octet former] ++ leBytes 6 s.scribe.lastSpan)

/-- The response (17 R676): TAMPERED and the pinned entries, with the cycle of the event (19 R753), engines held, keys and link keys
overwritten. In TAMPERED and RETIRED
only the entry (17 R677). -/
def State.tamper (s : State) (sources : Nat) : State :=
  let former := s.sec.life.code
  if s.sec.life = .tampered ∨ s.sec.life = .retired then s.tamperEntry sources former
  else
    let s0 := (s.setLife .tampered).tamperEntry sources former
    let s1 := if s.power.st = .p3 ∨ s.power.st = .p4 then s0 else s0.holdEngines
    let s2 : State := { s1 with
      sec := { s1.sec with slots := s1.tamperKeys, keysNext := [], sealAt := none }
      ds := { s1.ds with reseeds := 0 }
      chain := { s1.chain with
        ports := s1.chain.ports.map (fun (q : ChainPort) => { ChainPort.reset with linkUp := q.linkUp })
        latency := none } }
    s2.lifeHold

/-- A sample of the lid and the armed loop (17 R675): an event for a lid found open, once for one latching, and for two
consecutive loop readings out of range, once until a reading is in range. `once` takes a single reading (17 R675, VAUX). -/
def State.tamperSample (s : State) (lidOpen : Bool) (ohms : Nat) (once : Bool) : State :=
  let bad := s.sec.loopArmed && loopBad ohms
  let reads := if bad then s.sec.badReads + 1 else 0
  let lid := (s.sec.lidLatched || lidOpen) && !s.sec.lidSeen
  let loop := bad && (reads == 2 || (once && reads == 1))
  let s1 : State := { s with sec := { s.sec with
    lidLatched := s.sec.lidLatched || lidOpen
    lidSeen := s.sec.lidSeen || lid
    loopOhms := if s.sec.loopArmed then ohms else 0
    badReads := if once && bad then 2 else reads
    loopEvent := s.sec.loopEvent || loop } }
  if lid || loop then s1.tamper ((if lid then 1 else 0) + (if loop then 2 else 0)) else s1

/-- TAMPER_SAMPLE (R675): in P4 nothing is sampled. -/
def execTamperSample (lidOpen : Bool) (ohms : Nat) (s : State) : Res :=
  if s.power.st = .p4 then .next s else .next (s.tamperSample lidOpen ohms false)

/-- LID_SWITCH (R674, R799): the switch latches in every state, with or without supply. -/
def execLidSwitch (s : State) : Res := .next { s with sec := { s.sec with lidLatched := true } }

end Sys2Proof.Machine
end

