-- ==== Sys2Proof/Machine/Supply.lean ====
section
/-! DEFINITION. Supplies, clocks, temperature and resets (19 R736 to R744; 17 R690, R691; 20 R762 to R770, R796). -/

namespace Sys2Proof.Machine

/-- VAUX_POWER_ON (R736, R737, R740, R765, R766): from P4. The security domain and the regulator port reset, the first samples
are taken before the service core starts (17 R675); where VIN48 is in range, also since P4, a VIN48 power-on follows, otherwise
the module stays in P3. -/
def execVauxPowerOn (env : BootEnv) (s : State) : Res :=
  if s.power.st ≠ .p4 then .next s
  else
    let s1 : State := { s.useFree 32 with
      power := { s.power with vaux := true, vin48 := env.vin48 || s.power.vin48, st := .p3 }
      sec := { s.sec with challenge := freeOctets s 32, badReads := 0, lidSeen := false, loopEvent := false, refusals := 0 }
      reg := { s.reg with up := false, since := [], first := s.reg.seqOut + 1 } }
    let s2 := s1.tamperSample env.lidOpen env.ohms true
    .next (if s2.power.vin48 then s2.coldBoot .vin48 env else s2)

/-- The VIN48 power-on from P3 (19 R736, R737, R740): the blocks of its column reset, the service core among them, tamper
handled, the cold boot. -/
def State.vin48Boot (s : State) (env : BootEnv) : State :=
  (s.resetBlocks.tamperSample env.lidOpen env.ohms true).coldBoot .vin48 env

/-- VIN48_POWER_ON (R736, R742): VIN48 rises into range; with VAUX present the module boots. -/
def execVin48PowerOn (env : BootEnv) (s : State) : Res :=
  if s.power.vin48 then .next s
  else if s.power.st ≠ .p3 then .next { s with power := { s.power with vin48 := true } }
  else .next (s.vin48Boot env)

/-- A wake request in P3 (19 R736, R741). -/
def State.wakeUp (s : State) (env : BootEnv) : State :=
  if s.power.st = .p3 ∧ s.power.vin48 then s.vin48Boot env else s

/-- BOOT_TIMEOUT (R744): step 9 has not been reached in time. -/
def execBootTimeout (env : BootEnv) (s : State) : Res :=
  match s.svc.stage with
  | .hung false => .next (s.bootRefused s.upd.active 9 s.svc.source env)
  | .hung true => .next s.recovery
  | _ => .next s

/-- VIN48_LOSS (R690). -/
def execVin48Loss (s : State) : Res :=
  let t := s.supplyLoss 1
  .next { t with power := { t.power with vin48 := false } }

/-- VAUX_LOSS (R690, R767): P4 from any state; the loss is latched, its entry written at the next boot. -/
def execVauxLoss (s : State) : Res :=
  if s.power.st = .p4 then .next s
  else
    let t := s.resetBlocks
    .next { t with
      power := { t.power with st := .p4, vaux := false, lossAt := some s.power.st.code }
      reg := { t.reg with up := false } }

/-- MRST_N (R736, R741): held low for at least 1 µs; in P3 a wake request. A cold boot that still holds starts again. -/
def execMrstN (nanoseconds : Nat) (env : BootEnv) (s : State) : Res :=
  if nanoseconds < 1000 then .next s
  else if s.powered then
    .next (if s.svc.stage = .waitEnv then s.resetBlocks.coldBoot s.svc.source env else s.warmReset .mrst env)
  else .next (s.wakeUp env)

/-- PERST_N (R736 to R738; 21 R804): the host interface resets, the counts of MEM_STATUS too; host accesses in progress fail
(log entry 108). -/
def execPerstN (s : State) : Res :=
  if !s.powered then .next s
  else
    let t := (s.cutMoves.resetHost.debugReset).resetEntry .perst
    .next { t with svc := { t.svc with memCorr := 0, memPoisoned := 0 }, adm := { t.adm with
      devCmds := t.adm.devCmds.map (fun (d : DevCmd) => { d with block := d.block.orElse (fun _ => some none) }) } }

/-- REFCLK_LOSS (R770): a cold boot that holds at step 1 goes on holding. -/
def execRefclkLoss (s : State) : Res :=
  if !s.powered ∨ s.svc.stage = .waitEnv then .next { s with power := { s.power with refclk := false } }
  else
    let t := (s.supplyLoss 3).alert 6
    .next { t with power := { t.power with refclk := false } }

/-- THERMAL_SHUTDOWN (R796). -/
def execThermalShutdown (s : State) : Res :=
  if s.powered then .next ((s.supplyLoss 4).alert 4) else .next s

/-- REFCLK_VALID (R770): a cold boot that holds for REFCLK goes on. -/
def execRefclkValid (env : BootEnv) (s : State) : Res :=
  if s.svc.stage = .waitEnv then .next (s.coldBoot s.svc.source { env with refclk := true })
  else .next { s with power := { s.power with refclk := true } }

/-- DIE_SENSOR_ABOVE_0C (R796): a cold boot that holds for a warm die goes on. -/
def execDieSensorAbove0c (env : BootEnv) (s : State) : Res :=
  if s.svc.stage = .waitEnv then .next (s.coldBoot s.svc.source { env with dieWarm := true })
  else .next { s with power := { s.power with dieWarm := true } }

end Sys2Proof.Machine
end

