-- ==== Sys2Proof/Machine/Spans.lean ====
section
/-! DEFINITION. Spans: the sill, the post, the plate and what happens at their first and last cycles (02 R29 to R38, R59, R64 to
R67; 09 R367, R408, R410; 14 R553, R558, R561, R562; 15 R618; 17 R666, R672, R683 to R690). -/

namespace Sys2Proof.Machine

/-! ### SILL_START -/

/-- Whether a span may begin: the boot has ended, the lifecycle runs spans, the last span is over (17 R692; 19 R742). -/
def State.mayOpen (s : State) : Bool :=
  s.booted && s.inService && s.powered && (s.t.phase == .plate || s.t.phase == .none)

/-- The span counter in the new span (02 R34, R36 to R38; 14 R558; 21 R809); a new length sets a new anchor (R40). -/
def State.openSpan (s : State) : State :=
  let n := max s.t.span s.t.lastStarted + 1
  let sync := s.t.syncNext.getD s.t.sync
  { s with t := { s.t with
    phase := .sill, span := n, lastStarted := n, run := true, cyc := 0, startClock := s.t.clock
    k := s.t.lenNext.getD s.t.k, lenNext := none, sync := sync, syncNext := none
    anchor := if sync ≠ s.t.sync then none
      else match s.t.lenNext with
        | some k => s.t.anchor.map (fun a => regrid a s.t.clock (spanCycles s.t.k) (spanCycles k))
        | none => s.t.anchor } }

/-- The steering state after a change of source (02 R43). -/
def State.newSource (s : State) (old : Nat) : State :=
  if s.syncSource = 0 then s.setSyncSt .free
  else if s.t.sync ≠ old ∨ s.t.syncSt = .free then ({ s with t := { s.t with inLock := 0 } }).setSyncSt .acquire
  else s

/-- What takes effect at a sill: settings and certificates (02 R50; 21 R812), keys (17 R666), the witness list (14 R597), the
P0 and P1 states (17 R689). -/
def State.applyNext (s : State) : State :=
  let cfg := match s.chain.cfgNext with
    | some (ws, q) => { s.chain.cfg with witness := ws, quorum := q }
    | none => s.chain.cfg
  { s with
    adm := { s.adm with
      cfg := s.adm.cfgNext, certsNext := []
      certs := s.adm.certsNext.foldl (fun m c => m.set none c.cls (some c)) s.adm.certs }
    sec := { s.sec with
      slots := s.sec.keysNext.foldl (fun m (n, k, _) => m.set none n k) s.sec.slots, keysNext := [] }
    chain := { s.chain with cfg := cfg, cfgNext := none }
    power := { s.power with st := if s.power.st = .p0 ∨ s.power.st = .p1 then s.power.next.getD s.power.st else s.power.st, next := none } }

/-- P2 entered at the sill after a reason arose (17 R686). -/
def State.powerSill (s : State) : State :=
  if s.power.reasons ≠ 0 ∧ (s.power.st = .p0 ∨ s.power.st = .p1) then { s with power := { s.power with st := .p2 } } else s

/-- A COMMIT whose span S − 2 has passed without the hold, as after a reset (18 R722, R732): the UPDATE reason from this sill
on, and the switch after the seal of S or of this first span. -/
def State.commitSill (s : State) : State :=
  match s.newestIntent, s.upd.session with
  | some i, some x =>
    if i.digest = x.digest ∧ i.step = 3 ∧ i.span ≤ s.t.span + 1 ∧ s.upd.act.restartAt.isNone then
      let t := s.setP2 1
      { t with upd := { t.upd with act := { t.upd.act with restartAt := some (max i.span s.t.span) } } }
    else s
  | _, _ => s

/-- The JOURNAL reason cleared where the drain has left room (14 R562), the fullness pause ended (15 R618). -/
def State.journalSill (s : State) : State :=
  let n := freeBlocks s
  let s1 := if s.scribe.fullRaised ∧ n ≥ fullThreshold s + 1048576 then
      { s with scribe := { s.scribe with fullRaised := false } } else s
  if s.power.reasons.getLsbD 2 ∧ n ≥ spanRoom s + 3145728 then
    ({ s1 with scribe := { s1.scribe with sealing := true } }).clearP2 0x4
  else s1

/-- The pause reasons of a sill (02 pause table; 14 R568, R572; 16 R654; 17 R686, R688). -/
def State.pauseSill (s : State) : State :=
  s.setPaused (BitVec.ofNat 5 ((if s.reg.frozen then 1 else 0) + (if s.chain.shortSpan ≠ 0 then 2 else 0)
    + (if s.scribe.fullRaised then 4 else 0) + (if s.adm.paused.getLsbD 3 then 8 else 0) + (if s.power.reasons ≠ 0 then 16 else 0)))

/-- The scribe in a new span (14 R545, R558, R562; 16 R640): the segment start, and the evidence carried from the last plate. The
blocks of a span that was not sealed are reused; while sealing is stopped the span takes no leaf. -/
def State.scribeSill (s : State) : State :=
  let carried := if s.scribe.sealing then s.scribe.carried.map (fun d => (⟨d, 0, 0, none, false, false⟩ : Leaf)) else []
  let s1 : State := { s with scribe := { s.scribe with
    leaves := carried, bank0 := 0, spanOpen := s.scribe.sealing, spanPaused := s.adm.paused != 0
    carried := if s.scribe.sealing then [] else s.scribe.carried
    segments := s.scribe.segments.filter (fun g => !(g.own && g.header.isNone)) ++ [s.startSegment true s.chain.cfg.device s.t.span] } }
  s1.journalCheck

/-- Admission and the rings in a new span (02 capacities, R59; 03 R89, R109, R119; 21 R814). -/
def State.admissionSill (s : State) : State :=
  let rings := s.host.rings.map (fun (r, v) => (r, { v with fresh := false, fetched := [], decided := 0, refused := false }))
  let due := s.host.ctrl.dbBase != 0
  let s1 : State := { s with
    host := { s.host with
      rings := if s.host.ctrl.en then rings else rings.map (fun (r, v) => if r = 0 then (r, { v with st := .absent }) else (r, v))
      postDue := s.host.postQueue.length, dbDue := due, dbReq := due && s.host.bme, dbBack := false
      dbLate := s.host.dbLate + (if s.host.dbReq then 1 else 0) }
    adm := { s.adm with
      vAdm := 0, movAdm := 0, scrAdm := 0, r0Mov := 0, r0Scr := 0, r0Decided := 0, admitted := [], firstThis := [], current := none } }
  if due && s.host.bme then
    (List.range 8).foldl (fun t i => t.linkEmit (.hostRead (s.host.ctrl.dbBase.toNat + 4096 * i) 4096)) s1
  else s1

/-- The cores in a new sill: frozen banks are FREE (09 R401); a requested halt takes the data capacity (17 R683). -/
def State.coreSill (s : State) : State :=
  { s with cores := s.cores.map (fun (k : Core) => { k with
    capZero := k.haltReq || k.halted
    banks := k.banks.map (fun (b : Bank) => if b.st == .frozen then { b with st := .free } else b) }) }

/-- Field update in a new span (18 R713, R720, R726, R733): a span of the soak is counted once it has run, so that `ran` tells
whether the boot has run one; idle spans of the session, spans without a route to the coordinator in units of 250 µs. -/
def State.updSill (s : State) (ran : Bool) : State :=
  match s.upd.session with
  | none => s
  | some x =>
    let cut := payloadCoord x.payload != s.chain.cfg.device && (s.route (payloadCoord x.payload)).isNone
    { s with upd := { s.upd with
      session := some { x with idle := x.idle + 1, idleTime := x.idleTime + s.t.k }
      act := { s.upd.act with
        soak := if s.upd.act.soaking then s.upd.act.soak + (if ran then 1 else 0) else 0
        lostSpans := if cut then s.upd.act.lostSpans + s.t.k else 0 } } }

/-- A refused port tries again after a change of the span length (14 R594). -/
def State.retryPorts (s : State) (changed : Bool) : State :=
  if changed then allPorts.foldl (fun t p => if (t.port p).st = .refused ∧ t.portEnabled p then t.train p else t) s else s

/-- The sill opened. The doorbell read comes before every other request of the span (03 R121). -/
def State.openSill (s : State) : State :=
  let s1 := (((s.openSpan.newSource s.t.sync).applyNext.admissionSill.commitSill.powerSill).journalSill.pauseSill).scribeSill
  let s2 := (s1.coreSill.updSill (s.t.phase == .plate)).retryPorts (s.t.lenNext.isSome && s1.t.k != s.t.k)
  (s2.newControlSpan.sendSyncs).raiseAll 0 0

/-- SILL_START (R59; R30, R36 to R38, R558). After the plate of the span in which the completion of a POWER_SET to P3 was
written, P3 is entered instead (17 R689). -/
def execSillStart (s : State) : Res :=
  if !s.mayOpen then .next s
  else
    match s.power.p3At with
    | some (_, some n) => if n ≤ s.t.span then .next s.enterP3 else .next s.openSill
    | _ => .next s.openSill

/-! ### SILL_END (02 R64, R65, R67) -/

/-- The refusals of a sill counted on a ring whose head was not consumed (02 R64, R65): promoted after 8 in a row, aged after 8
more in a row. A descriptor not decided is refused (R67), in a sill with DB_BASE 0 too (log entry 56). -/
def Ring.refusedSill (v : Ring) (aged : Nat) : Ring :=
  if v.st == .active && !v.fresh && v.waiting != 0 then
    let n := v.refusals + 1
    if v.promoted then { v with refusals := n, aged := if n ≥ 8 ∧ v.aged.isNone then some aged else v.aged }
    else if n ≥ 8 then { v with refusals := 0, promoted := true }
    else { v with refusals := n }
  else { v with refusals := 0 }

/-- The rings at the end of a sill, in ring-number order, which is the order of ageing among rings aged at one sill (log entry
56). -/
def State.endRings (s : State) : State :=
  (s.ringNumbers.filter (· != 0)).foldl (fun t r =>
    let v := (t.ring r).refusedSill t.adm.agedCount
    let u := t.setRing r v
    if v.aged != (t.ring r).aged then { u with adm := { u.adm with agedCount := u.adm.agedCount + 1 } } else u) s

/-- SILL_END (R67): what is not decided is refused, a flush ends (03 R118), what was read is dropped; a doorbell read that has
not returned is late. Where no ring of a class was served, the place of its rotation stands (log entry 56). -/
def execSillEnd (s : State) : Res :=
  if s.t.phase ≠ .sill then .next s
  else
    let first := s.adm.firstThis.foldl (fun m (p, r) => m.set none p r) s.adm.firstServed
    let s0 := match s.host.flush with | some f => s.endFlush f | none => s
    let s1 := s0.endRings
    let s2 : State := { s1 with
      adm := { s1.adm with firstServed := first, firstThis := [], current := none }
      host := { s1.host with dbDue := false, postDue := 0, rings := s1.host.rings.map (fun (r, v) => (r, { v with fetched := [] })) } }
    if s.host.dbDue ∧ s.host.dbBack = false then
      .next ((({ s2 with host := { s2.host with lateDb := satInc s2.host.lateDb 65535 } }).raiseNotice 0).raise 10 0)
    else .next s2

/-! ### The post (09 R408, R410) -/

/-- POST_START (R408; R367; 17 R683): requested halts are taken, then jobs are dispatched on every core, then source 1. -/
def execPostStart (s : State) : Res :=
  if s.t.phase ≠ .sill then .next s
  else
    let s1 : State := { s with
      t := { s.t with phase := .post, cyc := s.t.k * 15625 }
      cores := s.cores.map (fun (k : Core) => { k with halted := k.halted || (k.haltReq && k.capZero), haltReq := k.haltReq && !k.capZero }) }
    let s2 := s1.forCores (fun c t => if (t.core c).able then t.dispatch c 15 else t)
    .next (s2.raiseAll 1 0)

/-- The jobs of a core that the end of the post ends (02 R72; 09 R410): those in banks are frozen, those in its queue complete
without running; each is BUDGET_EXCEEDED with DETAIL 5 and a pinned entry (02 R74). -/
def State.endPostJobs (s : State) (c : CoreId) : State :=
  let s1 := taskBanks.foldl (fun t b => match (t.bank c b).job with
    | some _ => t.freezeBank c b stBUDGET 5
    | none => t) s
  let q := (s1.core c).jobQueue
  let s2 := s1.modCore c (fun k => { k with jobQueue := [] })
  q.foldl (fun t j => t.endRun c ⟨j, 0, 0, 0⟩ stBUDGET 5 0 0 false) s2

/-- POST_END (R72, R410). -/
def execPostEnd (s : State) : Res :=
  if s.t.phase ≠ .post then .next s else .next (s.forCores (fun c t => t.endPostJobs c))

/-! ### The plate (14 R553; 02 R41; 17 R672) -/

/-- LIFECYCLE_SEAL takes effect when the span of its record is sealed (17 R672, R694). -/
def State.lifeSeal (s : State) : State :=
  match s.sec.sealAt with
  | some n =>
    if s.scribe.lastSpan ≥ n ∧ s.sec.life = .provisioned then
      let t := s.setLife .sealed
      { t with sec := { t.sec with sealAt := none } }
    else s
  | none => s

/-- PLATE_START (R553; R41, R367). -/
def execPlateStart (s : State) : Res :=
  if s.t.phase ≠ .post then .next s
  else
    let s1 : State := { s with t := { s.t with phase := .plate, cyc := s.t.k * 453125 } }
    .next (((if s1.scribe.spanOpen then s1.seal else s1).lifeSeal).steerGuard.raiseAll 2 0)

end Sys2Proof.Machine
end

