-- ==== Sys2Proof/Machine/Update.lean ====
section
/-! DEFINITION. Staging: manifests and pieces from the host, the mailbox and the chain, distribution, installation and the ends
of a session (18 R698 to R718, R734, R735). -/

namespace Sys2Proof.Machine

/-! ### The results of R698 -/

abbrev urSTATE : Nat := 1
abbrev urSIGNATURE : Nat := 6
abbrev urDEVICE : Nat := 9
abbrev urCERTIFICATE : Nat := 10
abbrev urBUSY : Nat := 12
abbrev urNOSESSION : Nat := 13
abbrev urNOTOPENER : Nat := 14
abbrev urMANIFEST : Nat := 15
abbrev urVERSION : Nat := 16
abbrev urPIECE : Nat := 17
abbrev urNOTCOORD : Nat := 18
abbrev urACTIVATION : Nat := 19

/-- A command's end for a result (18 R698). -/
def updEnd (code : Nat) : CmdEnd := if code = 0 then .done else .refused code

/-- The open session whose digest begins with DIGEST_ID (18 R699). -/
def State.sessionOf (s : State) (id : Octets) : Option Session :=
  match s.openSession with
  | some x => if x.digest.take 16 = id then some x else none
  | none => none

/-- The session replaced. -/
def State.setSession (s : State) (x : Session) : State := { s with upd := { s.upd with session := some x } }

/-! ### Distribution (18 R715, R716) -/

/-- The ports that are MEMBER. -/
def State.memberPorts (s : State) : List Port := allPorts.filter (fun p => (s.port p).st == .member)

/-- The frames that carry an encoding or a record to a neighbour: at most 1,428 octets of it each. -/
def State.sendPieces (s : State) (p : Port) (kind part piece : Nat) (digest data : Octets) : State :=
  (List.range (cdiv data.length 1428)).foldl
    (fun t i => t.sendNear p 5 (updPayload kind part piece (1428 * i) data.length digest (slice data (1428 * i) 1428))) s

/-- The whole manifest to each MEMBER neighbour that has not answered it (18 R716). -/
def State.sendManifest (s : State) (x : Session) : State :=
  if !payloadChain x.payload then s
  else
    ((s.memberPorts.filter (fun p => !x.answered.contains p.val)).foldl
      (fun t p => t.sendPieces p 1 0 0 x.digest x.manifest) s).setSession { x with sentAt := some s.t.span }

/-- Every piece of a session by key, in order. -/
def Session.keys (x : Session) : List Nat :=
  (payloadParts x.payload).zipIdx.flatMap (fun (e, i) => (List.range e.pieces).map (fun j => 65536 * i + j))

/-- Whether a piece is held. -/
def Session.holds (x : Session) (key : Nat) : Bool := (x.pieces.get none key).isSome

/-- The pieces missing. -/
def Session.missing (x : Session) : List Nat := x.keys.filter (fun k => !x.holds k)

/-- The run of at most n pieces of one part that a list begins with. -/
def pieceRun : Nat → List Nat → List Nat
  | 0, _ => []
  | _, [] => []
  | n + 1, k :: l => k :: (match l with
    | j :: _ => if j = k + 1 ∧ j / 65536 = k / 65536 then pieceRun n l else []
    | [] => [])

/-- WANT to each MEMBER neighbour with nothing outstanding, for the lowest missing pieces (18 R716). -/
def State.sendWants (s : State) (x : Session) : State :=
  if x.st ≠ .staging then s
  else
    let run := pieceRun 16 x.missing
    match run with
    | [] => s
    | k :: _ =>
      s.memberPorts.foldl (fun t p =>
        match t.upd.session with
        | none => t
        | some y =>
          if y.wanted.any (fun (q, j) => q == p.val && !y.holds j) then t
          else (t.sendNear p 5 (updPayload 3 (k / 65536) (k % 65536) run.length 0 y.digest [])).setSession
            { y with wanted := y.wanted.filter (fun w => w.1 != p.val) ++ run.map (fun j => (p.val, j)) }) s

/-! ### Manifests (18 R704 to R712, R734, R735) -/

/-- Whether manifests and pieces come through the mailbox alone: BLANK, or ROM recovery (18 R734, R735; 21 R822). -/
def State.mailboxUpdates (s : State) : Bool := s.sec.life == .blank || s.svc.stage == .recovery

/-- The structure and fields of a manifest as this device needs them (18 R704 to R707, R734, R735). -/
def State.readManifest (s : State) (o : Octets) : Option Manifest :=
  let blank := s.sec.life == .blank
  match parseManifest (if blank then 1 else 2) o with
  | none => none
  | some m =>
    let own := s.mailboxUpdates
    if s.payloadBad m.payload (!own) (if blank then [1, 2] else [1, 2, 4]) blank || (own && payloadChain m.payload) then none
    else some m

/-- A manifest offered (18 R712): the session it opens, or the result of the first check that fails. -/
def State.checkManifest (s : State) (o : Octets) (opener : Nat) : Except Nat Session :=
  match s.readManifest o with
  | none => .error urMANIFEST
  | some m =>
    let p := m.payload
    if !s.manifestSigned m (s.sec.life == .blank) then .error urSIGNATURE
    else
      match s.recipient p with
      | none => .error urDEVICE
      | some r =>
        if payloadChain p ∧ fieldAt p 24 4 ≠ s.chain.cfg.chainId.toNat then .error urDEVICE
        else if payloadVersion p < s.upd.floor ∨ (s.activeSlot.st = .valid ∧ payloadVersion p = s.activeSlot.version) then
          .error urVERSION
        else
          match s.contentKey p r with
          | none => .error urCERTIFICATE
          | some k => .ok ⟨.staging, opener, 0, sha384 p, o, p, k, [], 0, 0, 0, [], [], [], none⟩

/-- The payload digest of an encoding that can be read as a manifest at all. -/
def manifestDigest (o : Octets) : Option Octets :=
  ((parseManifest 2 o).orElse (fun _ => parseManifest 1 o)).map (fun m => sha384 m.payload)

/-- A manifest offered (18 R712, R716): the state and the result. From SWITCHED to the activation's end no session is open, and
none is opened (R698 ACTIVATION; log entry 96). -/
def State.offerManifest (s : State) (o : Octets) (opener : Nat) : State × Nat :=
  if !(s.inService || s.sec.life == .blank) then (s, urSTATE)
  else
    match s.upd.session with
    | some x =>
      if x.st = .ended then (s, urACTIVATION)
      else (s, if manifestDigest o = some x.digest then 0 else urBUSY)
    | none =>
      match s.checkManifest o opener with
      | .error n => (s, n)
      | .ok x => (((s.setSession x).sendManifest x).sendWants { x with sentAt := some s.t.span }, 0)

/-! ### Pieces (18 R709, R710) -/

/-- The nonce of a piece. -/
def pieceNonce (part piece : Nat) : Octets := leBytes 4 part ++ leBytes 4 piece ++ zeros 4

/-- A piece opened under the session's key from its ciphertext and tag. -/
def Session.openPiece (x : Session) (key : Nat) (ct : Octets) : Option Octets :=
  gcmOpen x.key (pieceNonce (key / 65536) (key % 65536)) x.digest (ct.take (ct.length - 16)) (ct.drop (ct.length - 16))

/-- The plaintext octets of a piece. -/
def Session.pieceLen (x : Session) (key : Nat) : Nat :=
  match (payloadParts x.payload)[key / 65536]? with
  | some e => min 65536 (e.length - 65536 * (key % 65536))
  | none => 0

/-- Whether a record's header matches the session (18 R709). -/
def Session.headerOk (x : Session) (r : Octets) : Bool :=
  let part := fieldAt r 4 1; let piece := fieldAt r 8 4; let len := fieldAt r 12 4
  fieldAt r 0 4 == 0x45435055 && zeroAt r 5 3
    && (match (payloadParts x.payload)[part]? with | some e => decide (piece < e.pieces) | none => false)
    && len == x.pieceLen (65536 * part + piece) && r.length == 48 + len

/-- The record of a piece held. -/
def Session.record (x : Session) (key : Nat) : Octets :=
  leBytes 4 0x45435055 ++ [octet (key / 65536), 0, 0, 0] ++ leBytes 4 (key % 65536) ++ leBytes 4 (x.pieceLen key)
    ++ x.digest.take 16 ++ (x.pieces.get none key).getD []

/-- How an offer of a piece ends. -/
inductive PieceEnd where
  | accepted | held | failed | noSession
  deriving DecidableEq, Repr

/-- A piece record offered (18 R710): a failure is counted. -/
def State.offerPiece (s : State) (r : Octets) : State × PieceEnd :=
  match s.sessionOf (slice r 16 16) with
  | none => (s, .noSession)
  | some x =>
    let key := 65536 * fieldAt r 4 1 + fieldAt r 8 4
    let ct := r.drop 32
    if !x.headerOk r then (s.setSession { x with failures := x.failures + 1 }, .failed)
    else if x.holds key ∨ x.st ≠ .staging then (s, .held)
    else if (x.openPiece key ct).isNone then (s.setSession { x with failures := x.failures + 1 }, .failed)
    else
      let y := { x with pieces := x.pieces.set none key (some ct), idle := 0, idleTime := 0 }
      ((s.setSession y).sendWants y, .accepted)

/-- n piece records of a block, each on a 16-octet boundary (18 R699). -/
def pieceRecords : Nat → Octets → List Octets
  | 0, _ => []
  | n + 1, o =>
    let len := 48 + fieldAt o 12 4
    o.take len :: pieceRecords n (o.drop (cdiv len 16 * 16))

/-- Records offered in turn: the state, the pieces newly accepted, and the result of the first that is refused. -/
def State.offerPieces (s : State) : List Octets → Nat → Nat → State × Nat × Nat
  | [], n, code => (s, n, code)
  | r :: l, n, code =>
    match s.offerPiece r with
    | (t, .accepted) => t.offerPieces l (n + 1) code
    | (t, .held) => t.offerPieces l n code
    | (t, .failed) => t.offerPieces l n (if code = 0 then urPIECE else code)
    | (t, .noSession) => t.offerPieces l n (if code = 0 then urNOSESSION else code)

/-! ### Commands (18 R699) -/

/-- UPD_OPEN (R699, R712): the status block is written at REPLY in every case; where that write fails the command has no effect
(03 R81, R82). -/
def execUpdOpen (s : State) : Res :=
  devBlockRow 24 (fun d o t =>
    if !(t.host.bme && t.host.dllUp) then t.hostFail else
    let (u, code) := t.offerManifest o 0
    u.cmdWrite (fieldAt d.desc 24 8) (updStatusBlock u) (updEnd code)) s

/-- UPD_PIECE (R699, R710): DETAIL the pieces newly accepted, or the result where a record is refused. -/
def execUpdPiece (s : State) : Res :=
  devBlockRow 25 (fun d o t =>
    let (u, n, code) := t.offerPieces (pieceRecords (fieldAt d.desc 16 1) o) 0 0
    (u, if code = 0 then { CmdEnd.done with detail := n } else .refused code)) s

/-- UPD_STATUS (R699, R718). -/
def execUpdStatus (s : State) : Res :=
  devRow 26 (fun d t => t.cmdWrite (fieldAt d.desc 8 8) (updStatusBlock t) .done) s

/-- UPD_ABORT (R699, R713). -/
def execUpdAbort (s : State) : Res :=
  devRow 27 (fun d t =>
    match t.sessionOf (slice d.desc 16 16) with
    | none => (t, .refused urNOSESSION)
    | some x =>
      if x.opener ≠ 0 then (t, .refused urNOTOPENER)
      else if t.activating then (t, .refused urACTIVATION)
      else (t.endSession x, .done)) s

/-- SESSION_EXPIRY (R713): 30 days of spans without a piece. -/
def execSessionExpiry (s : State) : Res :=
  match s.openSession with
  | none => .next s
  | some x => if x.idleTime ≥ 10368000000 ∧ !s.activating then .next (s.endSession x) else .next s

/-- MANIFEST_RESEND (R716): every 4,096 spans; what was asked for and has not come is asked for again. -/
def execManifestResend (s : State) : Res :=
  match s.openSession with
  | none => .next s
  | some x =>
    if x.sentAt.any (fun n => s.t.span < n + 4096) ∨ !payloadChain x.payload then .next s
    else
      let y := { x with wanted := [], sentAt := some s.t.span }
      .next (((s.setSession y).sendManifest y).sendWants y)

/-! ### Frames of class 5 (18 R715, R716) -/

/-- A frame of a KIND: another KIND, or a payload that breaks R715, changes nothing. -/
def updRow (kind : Nat) (f : RxFrame) (act : State → Octets → State) (s : State) : Res :=
  if f.hdr.cls.toNat ≠ 5 then .next s
  else
    match s.takeFrame f with
    | (t, none) => .next t
    | (t, some b) => if b.length ≥ 32 ∧ b.head? = some (octet kind) then .next (if zeroAt b 2 2 then act t b else t) else .next s

/-- A frame's part of an encoding or record added to what has arrived on its port; the whole once it is complete. -/
def State.gather (s : State) (port : Port) (kind limit : Nat) (b : Octets) : State × Option Octets :=
  let key := 4 * port.val + kind
  let off := fieldAt b 8 4; let total := fieldAt b 12 4; let data := b.drop 32
  let have_ := if off = 0 then some [] else match s.upd.rxBuf.get none key with
    | some (o, n) => if o.length = off ∧ n = total then some o else none
    | none => none
  let put (v : Option (Octets × Nat)) : State := { s with upd := { s.upd with rxBuf := s.upd.rxBuf.set none key v } }
  match have_ with
  | none => (put none, none)
  | some o =>
    let whole := o ++ data
    if total > limit ∨ whole.length > total ∨ data = [] then (put none, none)
    else if whole.length = total then (put none, some whole)
    else (put (some (whole, total)), none)

/-- MANIFEST_FRAME (R712, R715, R716): another digest is answered with BUSY, the open session's with a WANT. -/
def execManifestFrame (f : RxFrame) (s : State) : Res :=
  updRow 1 f (fun t b =>
    match t.gather f.port 1 16384 b with
    | (u, none) => u
    | (u, some o) =>
      match u.openSession with
      | some x =>
        if manifestDigest o = some x.digest then
          let y := { x with wanted := x.wanted.filter (fun w => w.1 != f.port.val) }
          (u.setSession y).sendWants y
        else u.sendNear f.port 5 (updPayload 4 0 0 0 0 x.digest [])
      | none => (u.offerManifest o (u.port f.port).peer).1) s

/-- PIECE_FRAME (R710, R715). -/
def execPieceFrame (f : RxFrame) (s : State) : Res :=
  updRow 2 f (fun t b =>
    match t.gather f.port 2 65584 b with
    | (u, none) => u
    | (u, some o) => (u.offerPiece o).1) s

/-- WANT (R716): answered with every named piece held; the neighbour has answered the manifest. -/
def execWant (f : RxFrame) (s : State) : Res :=
  updRow 3 f (fun t b =>
    match t.sessionOf (slice b 16 16) with
    | none => t
    | some x =>
      let p := f.port.val
      let y := { x with
        answered := if x.answered.contains p then x.answered else x.answered ++ [p]
        opened := if x.opened.contains p ∨ x.sentAt.isNone then x.opened else x.opened ++ [p] }
      let keys := (List.range (min 16 (fieldAt b 8 4))).map (fun i => 65536 * fieldAt b 1 1 + fieldAt b 4 4 + i)
      (keys.filter x.holds).foldl (fun u k => u.sendPieces f.port 2 (k / 65536) (k % 65536) x.digest (x.record k))
        (t.setSession y)) s

/-- BUSY (R716): the neighbour has answered the manifest. -/
def execBusy (f : RxFrame) (s : State) : Res :=
  updRow 4 f (fun t _ =>
    match t.openSession with
    | none => t
    | some x => if x.answered.contains f.port.val then t else t.setSession { x with answered := x.answered ++ [f.port.val] }) s

/-- ABORT_FRAME (R713): from the neighbour that opened the session, before PREPARED. -/
def execAbortFrame (f : RxFrame) (s : State) : Res :=
  updRow 5 f (fun t b =>
    match t.sessionOf (slice b 16 16) with
    | none => t
    | some x => if x.opener = (t.port f.port).peer ∧ x.opener ≠ 0 ∧ !t.activating then t.endSession x else t) s

/-! ### Installation (18 R701 to R703, R714, R734) -/

/-- The slot a session is installed into (18 R714, R734). -/
def State.installSlot (s : State) : Nat :=
  if s.mailboxUpdates then
    (if s.upd.slotA.st ≠ .valid then 0 else if s.upd.slotB.st ≠ .valid then 1 else otherSlot s.upd.active)
  else otherSlot s.upd.active

/-- The plaintext of part i. -/
def Session.plain (x : Session) (i : Nat) (e : PartEntry) : Octets :=
  (List.range e.pieces).flatMap (fun j =>
    (x.openPiece (65536 * i + j) ((x.pieces.get none (65536 * i + j)).getD [])).getD [])

/-- The parts a session carries, in TYPE order, with those inherited. -/
def State.newParts (s : State) (x : Session) : List Part :=
  let own := (payloadParts x.payload).zipIdx.map (fun (e, i) => (⟨e.typ, e.version, e.digest, x.plain i e⟩ : Part))
  let keep := if s.mailboxUpdates then [] else inherited (payloadParts x.payload) s.activeSlot.parts
  [1, 2, 3, 4].flatMap (fun t => (own ++ keep).filter (fun a => a.typ == t))

/-- The part entries whose plaintext fails its DIGEST. -/
def Session.badParts (x : Session) : List Nat :=
  ((payloadParts x.payload).zipIdx.filter (fun (e, i) =>
    let o := x.plain i e
    o.length != e.length || sha384 o != e.digest)).map Prod.snd

/-- The installation (18 R714). -/
def State.install (s : State) (x : Session) : State :=
  let n := s.installSlot
  let s1 := s.setSlot n { BootSlot.emptySlot with st := .installing }
  match x.badParts with
  | [] =>
    let parts := s.newParts x
    let s2 := s1.setSlot n (BootSlot.valid (payloadVersion x.payload) parts x.manifest)
    ((s2.setSession { x with st := .installed, slot := n }).writeStep x 1 0 s.upd.active 0).raise 184 0
  | bad =>
    let keep := x.pieces.filter (fun (k, _) => !bad.contains (k / 65536))
    (s1.setSession { x with slot := n, pieces := keep }).updTrouble 0 0 x.digest

/-- UPDATE_INSTALL (R714): every piece is held and the service core runs. -/
def execUpdateInstall (s : State) : Res :=
  match s.upd.session with
  | none => .next s
  | some x =>
    if x.st = .staging ∧ x.missing = [] ∧ s.powered ∧ (s.bootDone ∨ s.svc.stage = .recovery) then .next (s.install x) else .next s

end Sys2Proof.Machine
end

