-- ==== Sys2Proof/Machine/Activate.lean ====
section
/-! DEFINITION. Activation, probation, keep and fallback, and what each message of activation does (18 R719 to R733). -/

namespace Sys2Proof.Machine

/-! ### Roles and decisions -/

/-- The newest step and role where the record is that of the open session. -/
def State.stepOf (s : State) (x : Session) : Option Intent :=
  match s.newestIntent with
  | some i => if i.digest = x.digest then some i else none
  | none => none

/-- The newest step of the open session's activation, 0 where it has none. -/
def State.actStep (s : State) : Nat :=
  match s.upd.session with
  | some x => (s.stepOf x).elim 0 (fun i => i.step)
  | none => 0

/-- Whether a step is one of probation: SWITCHED, SETTINGS_OK or REPORTED (18 R720). -/
def inProbation (n : Nat) : Bool := 5 ≤ n && n ≤ 7

/-- A participant that waits for a CONFIRM (18 R721): PREPARED, or after its report. -/
def State.awaiting (s : State) : Bool := (s.actStep == 2 || s.actStep == 7) && !s.isCoord

/-- The activation's changes to its volatile part. -/
def State.modAct (s : State) (f : Activ → Activ) : State := { s with upd := { s.upd with act := f s.upd.act } }

/-- A device that holds COMMIT from span n on as its S − 2 (18 R722, R724): the UPDATE reason, the restart after the seal of
the later of S and two spans on. -/
def State.hold (s : State) (sp : Nat) : State := (s.setP2 1).modAct (fun a => { a with restartAt := some (max sp (s.t.span + 2)) })

/-- KEEP carried out (18 R728, R731). -/
def State.takeKeep (s : State) (x : Session) : State :=
  ((s.writeStep x 8 0 s.upd.active 0).updTrouble 8 0 x.digest).convert x

/-- This device's report, and the coordinator's decision where that was the last (18 R726, R727). -/
def State.ownReportDone (s : State) (reason : Nat) : State :=
  let t := s.reportProbation reason
  match t.upd.session with
  | some x => if t.isCoord ∧ reason = 0 then t.decideReports x false else t
  | none => t

/-! ### Commands (18 R699) -/

/-- UPD_ACTIVATE (R722): S is LEAD spans after the span of its consumption. -/
def execUpdActivate (s : State) : Res :=
  devRow 28 (fun d t =>
    match t.sessionOf (slice d.desc 16 16) with
    | none => (t, .refused urNOSESSION)
    | some x =>
      if !t.isCoord then (t, .refused urNOTCOORD)
      else if x.st ≠ .installed ∨ t.activating then (t, .refused urACTIVATION)
      else
        let sp := d.span + fieldAt d.desc 8 2
        let u := t.writeStep x 2 sp t.upd.active 0
        let v := (u.participants x).foldl (fun w p => w.sendTo p 1 0 (actBody 16 0 sp x.digest)) u
        (v.modAct (fun a => { a.over with lastSent := t.t.span }), .done)) s

/-- The activation whose manifest digest begins with DIGEST_ID (18 R699, R726). -/
def State.activationOf (s : State) (id : Octets) : Option Session :=
  match s.upd.session with
  | some x => if x.digest.take 16 = id then some x else none
  | none => none

/-- UPD_VERDICT (R726): 1 accept, 2 reject. -/
def execUpdVerdict (s : State) : Res :=
  devRow 29 (fun d t =>
    match t.activationOf (slice d.desc 16 16) with
    | none => (t, .refused urNOSESSION)
    | some _ =>
      if !t.upd.act.soaking then (t, .refused urACTIVATION)
      else (t.ownReportDone (if fieldAt d.desc 8 1 = 1 then 0 else 5), .done)) s

/-! ### CONFIRM (18 R721 to R724, R728, R729) -/

/-- Whether the coordinator could send a decision at a step (18 R724, R727, R733): a device that has not reported is sent COMMIT
or ABORT, and FALLBACK once its deadline is past. -/
def couldDecide (i : Intent) (arg : Nat) : Bool :=
  if i.step = 2 then arg == 1 || arg == 2 || arg == 4
  else if i.step = 3 then arg == 4
  else if i.step = 5 ∨ i.step = 6 then arg == 4
  else if i.step = 7 then arg == 4 || (arg == 3 && i.arg == 0)
  else false

/-- A decision applied by a participant. -/
def State.applyConfirm (s : State) (x : Session) (arg sp : Nat) : State :=
  match arg with
  | 1 =>
    let t := s.writeStep x 3 sp s.upd.active 0
    if s.t.span + 2 > sp then t.hold sp else t
  | 2 => ((s.writeStep x 4 0 s.upd.active 0).clearUpdate).modAct Activ.over
  | 3 => s.takeKeep x
  | _ => s.takeFallback x false

/-- A message of activation: its CODE, and the digest of the open session (18 R721). -/
def actRow (code : Nat) (f : RxFrame) (act : State → Session → Octets → State) (s : State) : Res :=
  ctlRow code f (fun t b =>
    match t.upd.session with
    | some x => if b.length = 64 ∧ slice b 16 48 = x.digest then act t x b else t
    | none => t) s

/-- CONFIRM (R721, R722, R724, R728, R729): from the coordinator, a decision it could send at this step. -/
def execConfirm (f : RxFrame) (s : State) : Res :=
  actRow 19 f (fun t x b =>
    match t.stepOf x with
    | some i =>
      if f.hdr.src.toNat = payloadCoord x.payload ∧ !t.isCoord ∧ couldDecide i (fieldAt b 1 1) then
        t.applyConfirm x (fieldAt b 1 1) (fieldAt b 4 6)
      else t
    | none => t) s

/-- UPD_RESOLVE's block (R733): the refusal that it brings, in the order of the codes (log entry 50). -/
def State.resolveBad (s : State) (o : Octets) : Option Nat :=
  let root := s.keyOctets 8
  if slice o 112 16 ≠ keyIdOf root ∨ !sigOk root (slice o 0 160) (slice o 160 96) then some 6
  else if o.length ≠ 256 ∨ fieldAt o 0 2 ≠ 1 ∨ fieldAt o 2 1 = 0 ∨ fieldAt o 2 1 > 4 ∨ !zeroAt o 3 5 ∨ !zeroAt o 110 2 ∨ !zeroAt o 128 32 then
    some 7
  else if slice o 8 48 ≠ s.mfgCertDigest then some urDEVICE
  else if s.t.span > fieldAt o 104 6 then some 11
  else
    match s.upd.session with
    | none => some urNOSESSION
    | some x =>
      if slice o 56 48 ≠ x.digest then some urNOSESSION
      else
        let i := s.stepOf x
        if s.awaiting ∧ s.power.st = .p2 ∧ s.power.reasons.getLsbD 1 ∧ i.any (fun i => couldDecide i (fieldAt o 2 1))
            ∧ s.upd.act.lostSpans ≥ 345600000 then none
        else some urACTIVATION

/-- UPD_RESOLVE (R733): applied as the CONFIRM that was missed; a COMMIT takes S from the PREPARED record. -/
def execUpdResolve (s : State) : Res :=
  devBlockRow 30 (fun _ o t =>
    match t.resolveBad o, t.upd.session with
    | some n, _ => (t, .refused n)
    | none, some x => (t.applyConfirm x (fieldAt o 2 1) ((t.stepOf x).elim 0 (fun i => i.span)), .done)
    | none, none => (t, .refused urNOSESSION)) s

/-! ### PREPARE, READY, REFUSE (18 R721, R722) -/

/-- PREPARE (R722, R735): a participant with a matching INSTALLED session writes PREPARED and answers READY; a repetition is
answered again. Otherwise it answers REFUSE with the result. -/
def execPrepare (f : RxFrame) (s : State) : Res :=
  ctlRow 16 f (fun t b =>
    let from_ := f.hdr.src.toNat
    let sp := fieldAt b 4 6; let digest := slice b 16 48
    let answer (u : State) (code arg : Nat) : State := u.sendTo from_ 1 0 (actBody code arg 0 digest)
    if b.length ≠ 64 then t
    else match t.upd.session with
      | none => answer t 18 urNOSESSION
      | some x =>
        if x.digest ≠ digest then answer t 18 urNOSESSION
        else if (t.stepOf x).any (fun i => i.step == 2 && i.role == 2 && i.span == sp) then answer t 17 0
        else if x.st ≠ .installed ∨ t.activating ∨ t.isCoord then answer t 18 urACTIVATION
        else answer ((t.writeStep x 2 sp t.upd.active 0).modAct (fun a => { a.over with lastSent := t.t.span })) 17 0) s

/-- An answer to PREPARE noted by the coordinator. -/
def State.noteAnswer (s : State) (x : Session) (d : Nat) (ready : Bool) : State :=
  if s.isCoord ∧ s.actStep = 2 ∧ (s.participants x).contains d then
    s.modAct (fun a => { a with answers := a.answers.filter (fun p => p.1 != d) ++ [(d, ready)] })
  else s

/-- READY (R722). -/
def execReady (f : RxFrame) (s : State) : Res := actRow 17 f (fun t x _ => t.noteAnswer x f.hdr.src.toNat true) s
/-- REFUSE (R722). -/
def execRefuse (f : RxFrame) (s : State) : Res := actRow 18 f (fun t x _ => t.noteAnswer x f.hdr.src.toNat false) s

/-- PREPARE_RESEND (R722): every 8 spans to the participants that have not answered. -/
def execPrepareResend (s : State) : Res :=
  match s.upd.session with
  | none => .next s
  | some x =>
    match s.stepOf x with
    | none => .next s
    | some i =>
      if i.step = 2 ∧ s.isCoord ∧ s.actsOnIntents ∧ s.t.span ≥ s.upd.act.lastSent + 8 then
        let left := (s.participants x).filter (fun d => !(s.upd.act.answers.map Prod.fst).contains d)
        .next ((left.foldl (fun t d => t.sendTo d 1 0 (actBody 16 0 i.span x.digest)) s).modAct
          (fun a => { a with lastSent := s.t.span }))
      else .next s

/-- ACTIVATION_DECIDE (R722): at span S − 32. -/
def execActivationDecide (s : State) : Res :=
  match s.upd.session with
  | none => .next s
  | some x =>
    match s.stepOf x with
    | none => .next s
    | some i =>
      if !(i.step == 2 && s.isCoord && s.actsOnIntents && s.t.span + 32 ≥ i.span) then .next s
      else if (s.participants x).all (fun d => s.upd.act.answers.contains (d, true)) then
        .next ((s.writeStep x 3 i.span s.upd.active 0).sendConfirm x 1 i.span)
      else .next (((s.writeStep x 4 0 s.upd.active 0).sendConfirm x 2 0).modAct Activ.over)

/-- UPDATE_HOLD (R722, R724, R732): from span S − 2 a device with COMMIT sets the UPDATE reason, and a participant with PREPARED
waits in P2. -/
def execUpdateHold (s : State) : Res :=
  match s.upd.session with
  | none => .next s
  | some x =>
    match s.stepOf x with
    | none => .next s
    | some i =>
      if s.t.span + 2 < i.span ∨ !s.actsOnIntents then .next s
      else if i.step = 3 ∧ s.upd.act.restartAt.isNone then .next (s.hold i.span)
      else if i.step = 2 ∧ !s.isCoord ∧ s.power.reasons.getLsbD 1 = false then .next (s.setP2 1)
      else .next s

/-! ### The restart (18 R722, R724, R729, R734) -/

/-- Whether the seal after which the restart is made is past (18 R722). -/
def State.sealedFor (s : State) : Bool :=
  match s.upd.act.restartAt with
  | some n => s.t.span ≥ n && s.t.phase == .plate
  | none => false

/-- ACTIVATION_RESTART (R722, R724, R729): SWITCHED is written and the device restarts into the new slot, or after FALLBACK
into the old one. In ROM recovery and in BLANK the set just installed is booted (R734, R735). -/
def execActivationRestart (env : BootEnv) (s : State) : Res :=
  match s.upd.session with
  | none => .next s
  | some x =>
    match s.stepOf x with
    | none => .next s
    | some i =>
      if !s.actsOnIntents then .next s
      else if i.step = 3 ∧ s.sealedFor then .next ((s.switched x i.span).warmReset .activation env)
      else if i.step = 9 ∧ s.sealedFor then .next (s.warmReset .activation env)
      else if i.step = 1 ∧ x.st = .installed ∧ s.mailboxUpdates ∧ s.powered then
        .next ((s.switched x s.t.span).warmReset .activation env)
      else .next s

/-! ### Probation (18 R725 to R727) -/

/-- SOAK_END (R726): PROB_SPANS spans since the settings check passed. -/
def execSoakEnd (s : State) : Res :=
  match s.upd.session with
  | none => .next s
  | some x => if s.upd.act.soaking ∧ s.actsOnIntents ∧ s.upd.act.soak ≥ payloadProb x.payload then .next (s.ownReportDone 0) else .next s

/-- REPORT (R727): a failure is decided in the span in which it arrives. -/
def execReport (f : RxFrame) (s : State) : Res :=
  actRow 20 f (fun t x b =>
    let d := f.hdr.src.toNat; let reason := fieldAt b 1 1
    if t.isCoord ∧ inProbation t.actStep ∧ (t.participants x).contains d ∧ !(t.upd.act.reports.map Prod.fst).contains d then
      let u := { t with upd := { t.upd with reason := reason, act := { t.upd.act with reports := t.upd.act.reports ++ [(d, reason)] } } }
      u.decideReports x (reason != 0)
    else t) s

/-- The S of a session's activation: that of its SWITCHED record (18 R719). -/
def State.switchSpan (s : State) (x : Session) : Nat :=
  match (s.upd.intents.filter (fun i => i.digest == x.digest && i.step == 5)).getLast? with
  | some i => i.span
  | none => 0

/-- REPORT_DEADLINE (R727): span S + PROB_SPANS + 240,000 ÷ k. -/
def execReportDeadline (s : State) : Res :=
  match s.upd.session with
  | none => .next s
  | some x =>
    if s.isCoord ∧ s.actsOnIntents ∧ inProbation s.actStep ∧ s.t.span ≥ s.switchSpan x + payloadProb x.payload + 240000 / s.t.k then
      .next (s.decideReports x true)
    else .next s

/-- CONFIRM_TIMEOUT (R727): no CONFIRM within 480,000 ÷ k spans of an OK report. -/
def execConfirmTimeout (s : State) : Res :=
  if s.awaiting ∧ s.actsOnIntents ∧ s.upd.act.reported = some 0 ∧ s.t.span ≥ s.upd.act.reportSpan + 480000 / s.t.k
      ∧ s.power.reasons.getLsbD 1 = false then .next (s.setP2 1)
  else .next s

/-! ### QUERY (18 R721) -/

/-- The decision a coordinator's newest record for a digest holds, with its span. -/
def State.decisionFor (s : State) (digest : Octets) : Option (Nat × Nat) :=
  let l := s.upd.intents.filter (fun i => i.digest == digest && i.role == 1)
  let sp := match (l.filter (fun i => i.step == 3)).getLast? with | some i => i.span | none => 0
  match l.getLast? with
  | some i =>
    if i.step = 3 ∨ inProbation i.step then some (1, sp)
    else if i.step = 4 then some (2, 0)
    else if i.step = 8 ∨ i.step = 10 then some (3, 0)
    else if i.step = 9 ∨ i.step = 11 then some (4, 0)
    else none
  | none => none

/-- QUERY (R721): the coordinator repeats its decision for the digest. -/
def execQuery (f : RxFrame) (s : State) : Res :=
  ctlRow 21 f (fun t b =>
    if b.length ≠ 64 then t
    else match t.decisionFor (slice b 16 48) with
      | some (arg, sp) => t.sendTo f.hdr.src.toNat 1 0 (actBody 19 arg sp (slice b 16 48))
      | none => t) s

/-- QUERY_TIMER (R721): every 64 spans while a CONFIRM is waited for. -/
def execQueryTimer (s : State) : Res :=
  match s.upd.session with
  | none => .next s
  | some x =>
    if s.awaiting ∧ s.actsOnIntents ∧ s.t.span ≥ s.upd.act.lastSent + 64 then
      .next ((s.sendTo (payloadCoord x.payload) 1 0 (actBody 21 0 0 x.digest)).modAct (fun a => { a with lastSent := s.t.span }))
    else .next s

end Sys2Proof.Machine
end

