-- ==== Sys2Proof/Machine/Cartridge.lean ====
section
/-! DEFINITION. The journal cartridge: mounts, label records, drain units, ejects and the cartridge commands
(15 R603 to R625; 14 R600 to R602). -/

namespace Sys2Proof.Machine

/-- LBAs of a zone and of all data zones (15 R603, R605). -/
abbrev zoneLbas : Nat := 262144
abbrev dataZoneLbas : Nat := 3906207744

/-- The mount state codes (15 R624). -/
def Mount.code : Mount → Nat
  | .absent => 0
  | .attesting => 1
  | .bound => 2
  | .archive => 3
  | .refused => 4
  | .ejecting => 5
  | .safe => 6

/-- Fill in basis points (15 R605). -/
def fillBp (lbas : Nat) : Nat := 10000 * lbas / dataZoneLbas

/-- The cartridge's age in seconds; 0 while no UTC has been given (15 R614). -/
def cartAge (utc : Option W64) (leaf : Octets) : Nat :=
  match utc with
  | some t => t.toNat - Config.x509NotBefore leaf
  | none => 0

/-- The seconds of a number of years: the manual does not fix the year (15 R612, R616). Log entry 44. -/
def yearsSeconds (n : Nat) : Nat := Config.freeValue 50 n

/-- Source 144 with its detail: 0 where none is stated (09 R377, R380). -/
def State.cartChange (s : State) (detail : Nat) : State := s.raise 144 detail

/-- The trouble entry of the cartridge (19 R756); the codes of the failed step are not given (log entry 45). -/
def State.cartTrouble (s : State) (detail step : Nat) : State :=
  s.trouble false 0x0040 8 0xFF ([octet detail, octet (Config.freeValue 49 step)] ++ padTo 16 s.cart.serial)

/-- A label record appended to zone 0 (15 R610). -/
def State.label (s : State) (typ : Nat) : State :=
  let b := leBytes 4 0x4A434C42 ++ leBytes 2 1 ++ [octet typ, octet s.chain.cfg.device] ++ leBytes 4 s.chain.cfg.chainId.toNat
    ++ leBytes 4 (s.cart.labels + 1) ++ leBytes 6 s.t.span ++ zeros 2 ++ leBytes 8 ((s.cart.utc.getD 0).toNat)
    ++ leBytes 8 s.cart.nextPos ++ leBytes 8 s.cart.nextSeq ++ s.devCertDigest ++ sha384 s.cart.leafCert ++ s.privKeyId 1
  ({ s.useFree 48 with cart := { s.cart with labels := s.cart.labels + 1 } }).emit
    (.cartAppend 0 (padTo 4096 (b ++ s.sign 1 b)))

/-- Warnings not yet given in this mount: fill (15 R615) and age (R616). -/
def State.cartWarn (s : State) : State :=
  let warn := fun (t : State) (bit : Nat) (p : Bool) (f : State → State) =>
    if p && !t.cart.warned.getLsbD bit then
      f { t with cart := { t.cart with warned := t.cart.warned ||| BitVec.ofNat 4 (2 ^ bit) } }
    else t
  let bp := fillBp s.cart.lbas
  let s1 := warn s 0 (bp ≥ 9000) (fun t => t.raise 145 1)
  let s2 := warn s1 1 (bp ≥ 9700) (fun t => t.raise 145 2)
  let s3 := warn s2 2 (bp ≥ 10000) (fun t => t.raise 145 3)
  warn s3 3 (s.cart.utc.isSome && cartAge s.cart.utc s.cart.leafCert ≥ yearsSeconds 9)
    (fun t => (t.cartTrouble 5 5).cartChange 5)

/-! ### Authentication and mount (15 R603, R611, R612) -/

/-! The SPDM 1.2 messages have the layouts of that standard, which the spec names and does not repeat: log entry 105. -/

/-- The length of the DER element at the front of some octets. -/
def derLength (o : Octets) : Nat :=
  let n := fieldAt o 1 1
  if n < 128 then 2 + n else if n = 0x81 then 3 + fieldAt o 2 1 else 4 + (256 * fieldAt o 2 1 + fieldAt o 3 1)

/-- The certificates of a chain, one DER element after the other. -/
def derSplit : Nat → Octets → List Octets
  | 0, _ => []
  | n + 1, o => if o = [] then [] else o.take (derLength o) :: derSplit n (o.drop (derLength o))

/-- The public key of a cartridge's leaf certificate, where each certificate verifies under the one before it and the first under
the cartridge root (15 R611; 17 R661). -/
def leafKey (certs : List Octets) : Option Octets :=
  if certs = [] then none else certs.foldl (fun k c => k.bind (fun p => Config.x509Subject p c)) (some (Config.romKey 3))

/-- An answer's header: version 1.2 and its code. -/
def spdmIs (o : Octets) (code : Nat) : Bool := fieldAt o 0 1 == 0x12 && fieldAt o 1 1 == code

/-- The octets of a portion of the certificate chain. -/
def portionOctets (o : Octets) : Octets := slice o 8 (fieldAt o 4 2)

/-- The certificate chain of slot 0: its length, the digest of the root, the certificates. -/
def spdmChain (x : SpdmRun) : Octets := x.portions.flatMap portionOctets

/-- The certificates of slot 0, the leaf last. -/
def spdmCerts (x : SpdmRun) : List Octets := derSplit 16 ((spdmChain x).drop 52)

/-- A GET_CERTIFICATE request of slot 0 and the verdict on its answer, for each portion. -/
def spdmPortions : Nat → Nat → List Octets → List (Octets × Octets × Bool)
  | _, _, [] => []
  | off, want, o :: r =>
    let rest := fieldAt o 6 2
    (([0x12, 0x82, 0, 0] ++ leBytes 2 off ++ leBytes 2 want), o,
        spdmIs o 0x02 && (fieldAt o 2 1) % 16 == 0 && (portionOctets o).length == fieldAt o 4 2 && (r.isEmpty == (rest == 0)))
      :: spdmPortions (off + fieldAt o 4 2) rest r

/-- The exchange of R611: each request, the cartridge's answer, and whether that answer lets the device go on. What the spec leaves
open in a request is a free value (place 99). -/
def spdmSteps (x : SpdmRun) (nonce : Octets) : List (Octets × Octets × Bool) :=
  let open_ := fun (i : Nat) => octet (Config.freeValue 99 i)
  let v12 := (List.range (fieldAt x.version 5 1)).any (fun i => fieldAt x.version (6 + 2 * i) 2 / 256 == 0x12)
  [([0x10, 0x84, 0, 0], x.version, fieldAt x.version 1 1 == 0x04 && v12),
   ([0x12, 0xE1, 0, 0] ++ (List.range 16).map open_, x.capabilities, spdmIs x.capabilities 0x61),
   ([0x12, 0xE3, 0, 0, 32, 0, open_ 16, open_ 17] ++ leBytes 4 0x80 ++ leBytes 4 0x02 ++ zeros 16, x.algorithms,
      spdmIs x.algorithms 0x63 && fieldAt x.algorithms 12 4 == 0x80 && fieldAt x.algorithms 16 4 == 0x02),
   ([0x12, 0x81, 0, 0], x.digests,
      spdmIs x.digests 0x01 && fieldAt x.digests 3 1 % 2 == 1 && slice x.digests 4 48 == sha384 (spdmChain x))]
  ++ spdmPortions 0 0xFFFF (if x.portions.isEmpty then [[]] else x.portions)
  ++ [([0x12, 0x83, 0, 0] ++ nonce, x.challenge,
      spdmIs x.challenge 0x03 && (fieldAt x.challenge 2 1) % 16 == 0 && slice x.challenge 4 48 == sha384 (spdmChain x)
        && fieldAt (spdmChain x) 0 2 == (spdmChain x).length)]

/-- What the cartridge signs at CHALLENGE: the digest of every message, behind the standard's prefix and context. -/
def spdmSigned (x : SpdmRun) (nonce : Octets) : Octets :=
  (List.replicate 4 (ascii "dmtf-spdm-v1.2.*")).flatten ++ zeros 4 ++ ascii "responder-challenge_auth signing"
    ++ sha384 ((spdmSteps x nonce).flatMap (fun (q, a, _) => q ++ a))

/-- Whether a cartridge is authenticated under the device's nonce. -/
def cartAuth (nonce : Octets) (c : CartInfo) : Bool :=
  match c.spdm with
  | none => false
  | some x =>
    (spdmSteps x nonce).all (fun (_, _, ok) => ok) &&
      match leafKey (spdmCerts x) with
      | none => false
      | some k => sigOk k (spdmSigned x nonce) x.signature

/-- The requests of an exchange, up to the first whose answer ends it. -/
def requestsOf : List (Octets × Octets × Bool) → List Octets
  | [] => []
  | (q, _, ok) :: r => q :: (if ok then requestsOf r else [])

/-- The requests a cartridge gets. -/
def cartRequests (nonce : Octets) (c : CartInfo) : List Octets :=
  match c.spdm with
  | none => []
  | some x => requestsOf (spdmSteps x nonce)

/-- A cartridge's leaf certificate. -/
def leafOf (c : CartInfo) : Octets :=
  match c.spdm with
  | some x => (spdmCerts x).getLastD []
  | none => []

/-- The SEQ of the next unit: from 1, one more than the last unit's (15 R606). -/
def cartNextSeq (c : CartInfo) : Nat := if c.dataLbas = 0 then 1 else fieldAt c.lastUnit 8 8 + 1

/-- The block after the last that the highest-addressed unit of the open data zone carries; 0 without an open zone (15 R620). -/
def cartOpenNext (c : CartInfo) : Nat :=
  if c.dataLbas % zoneLbas = 0 then 0 else fieldAt c.lastUnit 16 8 + fieldAt c.lastUnit 6 1

/-- The fields of a label record (15 R610). -/
def labelTyp (l : LabelRec) : Nat := fieldAt l.octets 6 1
def labelDevice (l : LabelRec) : Nat := fieldAt l.octets 7 1
def labelDevCert (l : LabelRec) : Octets := slice l.octets 48 48
def labelCartCert (l : LabelRec) : Octets := slice l.octets 96 48

/-- Whether a label record's signature verifies: under this device's identity key, or under the key of the certificate that
DEV_CERT names, itself under the chain root. -/
def State.labelOk (s : State) (l : LabelRec) : Bool :=
  if labelDevCert l = s.devCertDigest then
    sigOk (match s.key 1 with | some k => ecPublic k.key | none => []) (slice l.octets 0 160) (slice l.octets 160 96)
  else sha384 l.cert = labelDevCert l ∧ ((Config.x509Subject (s.keyOctets 11) l.cert).any (fun pub =>
    sigOk pub (slice l.octets 0 160) (slice l.octets 160 96)))

/-- The namespace of R603. -/
def goodNs : CartNs := ⟨1, 2, 4096, 0, 14902, zoneLbas, zoneLbas⟩

/-- The insertions that zone 0 shows (15 R614). -/
def insertions (c : CartInfo) : Nat := (c.labels.filter (fun l => labelTyp l == 1 || labelTyp l == 2)).length

/-- How a mount is decided, given the authentication's verdict (15 R612): the mount and the label record it gets. -/
def State.mountOf (s : State) (authOk : Bool) (c : CartInfo) : Mount × Option Nat :=
  let bind := c.labels.find? (fun l => labelTyp l == 1)
  if !authOk || c.ns != goodNs then (.refused, none)
  else if c.labels.any (fun l => !s.labelOk l || labelCartCert l != sha384 (leafOf c)) then (.refused, none)
  else if c.labels.isEmpty then (.bound, some 1)
  else if bind.any (fun l => labelDevCert l != s.devCertDigest) then (.archive, none)
  else if c.dataLbas ≥ dataZoneLbas ∨ insertions c ≥ 200 ∨ (s.cart.utc.isSome ∧ cartAge s.cart.utc (leafOf c) ≥ yearsSeconds 10) then
    (.archive, none)
  else (.bound, some 2)

/-- CART_INSERT (R611, R612, R614 to R616, R620, R621): a cartridge that comes, or that a reset has left ATTESTING; where the
cartridge port does not run yet, or the service instance gives no nonce (16 R629), it stays ATTESTING. -/
def execCartInsert (cart : CartInfo) (s : State) : Res :=
  if s.cart.mount ≠ .absent ∧ s.cart.mount ≠ .attesting then .next s
  else match (if s.cartOn then s.serviceOctets 32 else none) with
  | none => .next { s with cart := { s.cart with mount := .attesting } }
  | some (nonce, u) =>
    let s := (cartRequests nonce cart).foldl (fun t q => t.emit (.cartSpdm q)) u.cartUp
    let authOk := cartAuth nonce cart
    let (m, rec) := s.mountOf authOk cart
    let bound := match cart.labels.find? (fun l => labelTyp l == 1) with
      | some l => labelDevice l
      | none => if rec = some 1 then s.chain.cfg.device else 0
    let s1 : State := { s with cart := { s.cart with
      mount := m, leafCert := leafOf cart, serial := Config.x509Serial (leafOf cart), boundDev := bound, labels := cart.labels.length
      lbas := cart.dataLbas, nextSeq := cartNextSeq cart, inserts := insertions cart + (if rec.isSome then 1 else 0), unit := none, warned := 0
      zoneOpen := false
      nextPos := if m = .bound then max s.cart.nextPos (cartOpenNext cart) else s.cart.nextPos } }
    match m, rec with
    | .bound, some typ =>
      let s2 := ((s1.label typ).cartChange 0).cartWarn
      if s2.cart.inserts = 180 then .next ((s2.cartTrouble 4 4).cartChange 4) else .next s2
    | .refused, _ => .next ((s1.cartTrouble 0 (if !authOk then 1 else if cart.ns != goodNs then 2 else 3)).cartChange 0)
    | _, _ => .next (s1.cartChange 0).cartWarn

/-- CART_EJECT's end (15 R623, R625): an EJECT record, the open zone closed, the port stopped and its lands down, the mount SAFE,
the command complete. -/
def State.finishEject (s : State) : State :=
  let s0 := s.label 3
  let s1 := if s.cart.zoneOpen then s0.emit (.cartClose (1 + s.cart.lbas / zoneLbas)) else s0
  let s2 := ({ s1 with cart := { s1.cart with mount := .safe, zoneOpen := false } }).cartDown
  match s2.devCmd 41 with
  | some d => (s2.dropCmd d).complete (cmdCpl d stDONE 0 0 0)
  | none => s2

/-- A refusal that tells the mount state (15 R623). -/
def badMount (s : State) : CmdEnd := ⟨stBADRING, s.cart.mount.code, 0, 0⟩

/-- CART_REMOVE (R622, R625): removed without CART_EJECT, the drain waits; an eject in progress ends refused. -/
def execCartRemove (s : State) : Res :=
  if s.cart.mount = .absent then .next s
  else
    let gone : State := { s with cart := { s.cart with mount := .absent, unit := none, boundDev := 0, zoneOpen := false } }
    if s.cart.mount = .safe then .next (gone.cartChange 0)
    else
      let s1 := ((if s.cartOn then gone.cartDown else gone).cartTrouble 6 6).cartChange 6
      match (if s.cart.mount = .ejecting then s1.devCmd 41 else none) with
      | some d => .next ((s1.dropCmd d).complete (cmdCpl d stBADRING s1.cart.mount.code 0 0))
      | none => .next s1

/-! ### Drain (14 R600 to R602; 15 R606 to R609) -/

/-- Whether a segment's blocks may be drained (14 R600). -/
def Segment.drainable (g : Segment) : Bool := g.header.isSome && (!g.own || g.decided)

/-- The blocks ready from a position on: consecutive drainable segments. -/
def readyBlocks : List Segment → Nat → Nat → Nat
  | [], _, n => n
  | g :: r, pos, n =>
    if g.start + g.blocks ≤ pos + n then readyBlocks r pos n
    else if g.start ≤ pos + n ∧ g.drainable then readyBlocks r pos (g.start + g.blocks - pos)
    else n

/-- The blocks of the hot journal from a position on. -/
def State.journalBlocks (s : State) (pos n : Nat) : Octets :=
  (List.range n).flatMap (fun i =>
    match s.scribe.segments.find? (fun g => g.header.isSome && g.start ≤ pos + i && pos + i < g.start + g.blocks) with
    | some g => slice g.octets (64 * (pos + i - g.start)) 64
    | none => zeros 64)

/-- A drain unit's octets (15 R606). -/
def unitOctets (s : State) (u : DrainUnit) : Octets :=
  let blocks := padTo 4032 (s.journalBlocks u.pos u.count)
  leBytes 4 0x4A434455 ++ leBytes 2 1 ++ [octet u.count, octet u.kind] ++ leBytes 8 s.cart.nextSeq ++ leBytes 8 u.pos
    ++ [octet s.chain.cfg.device] ++ zeros 7 ++ sha256 blocks ++ blocks

/-- The journal blocks ready at the place the drain has reached. -/
def State.blocksReady (s : State) : Nat := readyBlocks (s.scribe.segments.filter (fun g => g.header.isSome)) s.cart.nextPos 0

/-- The late slots whose blocks have been drained (15 R607). -/
def State.lateDue (s : State) : List (Nat × Nat) := s.cart.late.filter (fun x => x.1 < s.cart.nextPos)

/-- The clocks since which the drainable blocks have been ready: each late slot's, and that of the first segment to drain. -/
def State.readySince (s : State) : List Nat :=
  s.lateDue.map Prod.snd ++ (if s.blocksReady = 0 then [] else
    ((s.scribe.segments.find? (fun g => g.drainable && s.cart.nextPos < g.start + g.blocks)).map Segment.readyAt).toList)

/-- Whether the drain writes a unit (15 R608): 63 blocks are ready, or the oldest has been for 100 ms. -/
def State.drainDue (s : State) : Bool :=
  s.blocksReady + 3 * s.lateDue.length ≥ 63 || s.readySince.any (fun t => t + 200000000 ≤ s.t.clock)

/-- The unit the drain writes next, where one is due: an acknowledgement slot filled late first, otherwise journal blocks. -/
def State.nextUnit (s : State) : Option DrainUnit :=
  if !s.drainDue then none
  else match s.lateDue with
    | (p, _) :: _ => some ⟨2, p, 3⟩
    | [] => if s.blocksReady = 0 then none else some ⟨1, s.cart.nextPos, min s.blocksReady 63⟩

/-- DRAIN_UNIT_WRITE (R606 to R608, R613, R615, R617): one unit appended to the open data zone; a cartridge that becomes
full becomes ARCHIVE. Slots that waited because their blocks had been appended and lost are carried with the blocks themselves. -/
def execDrainUnitWrite (s : State) : Res :=
  if !s.cartOn ∨ s.cart.mount ≠ .bound ∨ s.cart.unit.isSome then .next s
  else
    match s.nextUnit with
    | none => .next s
    | some u =>
      let s1 := (s.emit (.cartAppend (1 + s.cart.lbas / zoneLbas) (unitOctets s u)))
      let s2 : State := { s1 with cart := { s1.cart with
        unit := some u, reach := if u.kind = 1 then max s.cart.reach (u.pos + u.count) else s.cart.reach
        late := if u.kind = 1 then s.cart.late.filter (fun x => x.1 < u.pos) else s.cart.late
        lbas := s.cart.lbas + 1, nextSeq := s.cart.nextSeq + 1, zoneOpen := (s.cart.lbas + 1) % zoneLbas != 0 } }
      let s3 := s2.cartWarn
      .next (if s3.cart.lbas ≥ dataZoneLbas then { s3 with cart := { s3.cart with mount := .archive } } else s3)

/-- DRAIN_UNIT_ACK (R601, R560): the next block to drain recorded; the segments drained; a late slot carried; an eject that
waited ends. -/
def execDrainUnitAck (s : State) : Res :=
  match s.cart.unit with
  | none => .next s
  | some u =>
    let pos := if u.kind = 1 then max s.cart.nextPos (u.pos + u.count) else s.cart.nextPos
    let s1 : State := { s with
      cart := { s.cart with unit := none, nextPos := pos, late := if u.kind = 2 then s.cart.late.filter (fun x => x.1 != u.pos) else s.cart.late }
      scribe := { s.scribe with segments := s.scribe.segments.map (fun (g : Segment) =>
        if g.header.isSome then { g with drained := min g.blocks (pos - g.start) } else g) } }
    .next (if s1.cart.mount = .ejecting then s1.finishEject else s1)

/-- DRAIN_PROG (14 R602). -/
def drainProg (s : State) : Nat :=
  let l := s.scribe.segments.filter (fun g => g.header.isSome)
  let total := (l.map Segment.blocks).sum
  let done := (l.map Segment.drained).sum
  done % 2 ^ 32 + (total % 2 ^ 32) * 2 ^ 32 + (if total = 0 then 0 else 10000 * done / total) * 2 ^ 64

/-! ### Cartridge commands (15 R623, R624) -/

/-- The fields of the status block that describe the cartridge (15 R624): BOUND_DEV, FILL_BP, INSERTIONS, AGE_DAYS, SERIAL; zero
where none is present, or where the one present has not been read yet. Log entry 65. -/
def cartFields (s : State) : Nat × Nat × Nat × Nat × Octets :=
  if s.cart.mount = .absent ∨ s.cart.mount = .attesting then (0, 0, 0, 0, [])
  else (s.cart.boundDev, fillBp s.cart.lbas, s.cart.inserts, cartAge s.cart.utc s.cart.leafCert / 86400, s.cart.serial)

/-- The status block (15 R624). -/
def cartStatusOctets (s : State) : Octets :=
  let (bound, fill, inserts, days, serial) := cartFields s
  [octet s.cart.mount.code, octet bound] ++ leBytes 2 fill ++ leBytes 2 inserts
    ++ leBytes 2 days ++ leBytes 8 s.cart.nextPos ++ padTo 16 serial
    ++ leBytes 12 (drainProg s) ++ zeros 20

/-- CART_STATUS (R623, R624). -/
def execCartStatus (s : State) : Res :=
  devRow 40 (fun d t => t.cmdWrite (fieldAt d.desc 8 8) (cartStatusOctets t) .done) s

/-- CART_EJECT (R623, R625): with a unit's append outstanding it completes after that append. -/
def execCartEject (s : State) : Res :=
  match s.devCmd 41 with
  | none => .next s
  | some d =>
    if s.cart.mount = .ejecting then .next s
    else if s.cart.mount ≠ .bound ∧ s.cart.mount ≠ .archive then
      .next ((s.dropCmd d).complete (cmdCpl d stBADRING s.cart.mount.code 0 0))
    else if s.cart.unit.isSome then .next { s with cart := { s.cart with mount := .ejecting } }
    else .next s.finishEject

/-- The write pointer of a zone (15 R604). -/
def State.zoneWritten (s : State) (z : Nat) : Nat :=
  if z = 0 then s.cart.labels else min zoneLbas (s.cart.lbas - (z - 1) * zoneLbas)

/-- Whether LBAs lie below their zones' write pointers. -/
def State.lbasWritten (s : State) (lba count : Nat) : Bool :=
  (List.range count).all (fun i => (lba + i) % zoneLbas < s.zoneWritten ((lba + i) / zoneLbas))

/-- CART_READ (R623). -/
def execCartRead (data : Octets) (s : State) : Res :=
  devRow 42 (fun d t =>
    let lba := fieldAt d.desc 8 8
    let count := fieldAt d.desc 16 4
    if (t.cart.mount ≠ .bound ∧ t.cart.mount ≠ .archive ∧ t.cart.mount ≠ .ejecting) ∨ !t.lbasWritten lba count then (t, badMount t)
    else t.cmdWrite (fieldAt d.desc 24 8) (padTo (4096 * count) data) .done) s

/-- CART_TIME (R623, R616). -/
def execCartTime (s : State) : Res :=
  devRow 43 (fun d t =>
    let t1 : State := { t with cart := { t.cart with utc := some (BitVec.ofNat 64 (fieldAt d.desc 8 8)) } }
    (if t1.cart.mount = .bound ∨ t1.cart.mount = .archive ∨ t1.cart.mount = .ejecting then t1.cartWarn else t1, .done)) s

end Sys2Proof.Machine
end

