-- ==== Sys2Proof/Machine/Lifecycle.lean ====
section
/-! DEFINITION. Power and lifecycle commands, key loads, provisioning and retirement (17 R658 to R673, R684 to R697). -/

namespace Sys2Proof.Machine

/-! ### Power (17 R685 to R689, R692, R695; 18 R733) -/

/-- POWER_SET (R684 to R689, R692): DETAIL holds the P2 reasons still in force. -/
def execPowerSet (s : State) : Res :=
  devRow 48 (fun d t =>
    let fin (u : State) : State × CmdEnd := (u, ⟨stDONE, u.power.reasons.toNat, 0, 0⟩)
    if fieldAt d.desc 8 1 < 2 ∧ !t.inService then (t, .refused 2)
    else match fieldAt d.desc 8 1 with
    | 0 =>
      let u := t.clearP2 0x1
      fin { u with power := { u.power with next := some .p0 } }
    | 1 =>
      let u := t.clearP2 0x1
      fin { u with power := { u.power with next := some .p1 } }
    | 2 => fin (t.setP2 0)
    | _ =>
      if t.activating then (t, .refused 19)
      else if t.power.st ≠ .p2 then (t, .refused 2)
      else fin { t with power := { t.power with p3At := some (d.order, none) } }) s

/-- DEBUG_CLOSE (R682, R695). -/
def execDebugClose (s : State) : Res := devRow 51 (fun _ t => (t.debugOff, .done)) s

/-! ### The status block (17 R697) -/

/-- Seconds left of a debug grant (17 R680, R697). -/
def State.debugLeft (s : State) : Nat :=
  if s.sec.dbgLevel = 0 then 0 else s.sec.dbgLeft - (s.t.clock - s.sec.dbgSince) / 2000000000

/-- SLOTS: bit n set when slot n holds a key, for n from 0 to 127. -/
def State.slotBits (s : State) : Nat :=
  (List.range 128).foldl (fun m n => if (s.key n).isSome then m + 2 ^ n else m) 0

/-- The 64 octets of the status block. -/
def statusBlock (s : State) : Octets :=
  [octet s.sec.life.code, octet s.sec.dbgLevel, octet s.power.st.code, octet s.power.reasons.toNat,
      octet ((if s.sec.loopArmed then 1 else 0) + (if s.sec.lidLatched then 2 else 0) + (if s.sec.loopEvent then 4 else 0)),
      octet (min s.sec.refusals 255), 0, 0]
    ++ leBytes 16 s.slotBits ++ leBytes 4 (if s.sec.loopArmed then s.sec.loopOhms else 0) ++ leBytes 4 s.debugLeft ++ zeros 32

/-- LIFECYCLE_STATUS (R695, R697). -/
def execLifecycleStatus (s : State) : Res :=
  devRow 53 (fun d t => t.cmdWrite (fieldAt d.desc 8 8) (statusBlock t) .done) s

/-! ### Authorisation blocks (17 R671 to R673, R696) -/

/-- The refusals that an authorisation block's own contents bring, in the order of their codes (log entry 50). -/
def State.authBad (s : State) (o : Octets) (action : Nat) : Option Nat :=
  let root := s.keyOctets 8
  let now := if s.sec.life = .tampered then s.scribe.lastSpan else s.t.span
  if slice o 64 16 ≠ keyIdOf root ∨ !sigOk root (slice o 0 96) (slice o 96 96) then some 6
  else if o.length ≠ 192 ∨ fieldAt o 0 2 ≠ 1 ∨ fieldAt o 2 1 ≠ action ∨ !zeroAt o 3 5 ∨ !zeroAt o 62 2 ∨ !zeroAt o 80 16 then some 7
  else if slice o 8 48 ≠ s.mfgCertDigest then some 9
  else if now > fieldAt o 56 6 then some 11
  else none

/-- LIFECYCLE_SEAL (R671, R672): takes effect when its record is sealed. -/
def execLifecycleSeal (s : State) : Res :=
  devBlockRow 49 (fun d o t =>
    if t.sec.life ≠ .provisioned then (t, .refused 1)
    else if (t.key 5).isNone ∨ (t.key 13).isNone then (t, .refused 3)
    else
      match t.authBad o 1 with
      | some n => (t, .refused n)
      | none => ({ t with sec := { t.sec with sealAt := some d.span } }, .done)) s

/-- The refusal of a RETIRE (17 R671, R673). -/
def State.retireBad (s : State) (o : Octets) : Option Nat :=
  let sealed := s.scribe.segments.filter (fun g => g.header.isSome)
  let undrained := sealed.any (fun g => g.drained < g.blocks)
  let unmet := s.inService && sealed.any (fun g => g.own && g.acked.length < g.quorum)
  if !s.inService ∧ s.sec.life ≠ .tampered then some 1
  else if undrained ∨ unmet then some 4
  else if s.sec.life = .sealed ∧ s.reg.frozen = false then some 5
  else s.authBad o 2

/-- Retirement (17 R673, R692): every slot empty, RETIRED, the cores, chain and cartridge ports off. -/
def State.retireDevice (s : State) : State :=
  let s2 := (s.setLife .retired).holdEngines
  ({ s2 with
    sec := { s2.sec with slots := [], keysNext := [], sealAt := none }
    chain := { s2.chain with
      ports := s2.chain.ports.map (fun (q : ChainPort) => { ChainPort.reset with linkUp := q.linkUp })
      latency := none } }).lifeHold

/-- RETIRE (R671, R673). -/
def execRetire (s : State) : Res :=
  devBlockRow 52 (fun _ o t =>
    match t.retireBad o with
    | some n => (t, .refused n)
    | none => (t.retireDevice, .done)) s

/-! ### Key loads (17 R662 to R666) -/

/-- The type code of a key-load block. -/
def keyTypeOf : Nat → Option KeyType
  | 1 => some .aes
  | 2 => some .hmac
  | 3 => some .priv
  | 4 => some .pub
  | _ => none

/-- The USES bits a type can perform (17 R666). -/
def typeUses : Nat → Nat
  | 1 => 0x30
  | 2 => 0x08
  | 3 => 0x40
  | 4 => 0x80
  | _ => 0

/-- Whether TYPE suits the slot (17 R662, R666). -/
def typeSuits (slot typ : Nat) : Bool :=
  if slot = 5 then typ == 2 || typ == 0
  else if 8 ≤ slot ∧ slot ≤ 13 then typ == 4 || (typ == 0 && slot != 8 && slot != 11)
  else if 16 ≤ slot ∧ slot ≤ 63 then typ ≤ 2
  else if 64 ≤ slot ∧ slot ≤ 95 then typ == 0 || typ == 3 || typ == 4
  else false

/-- Whether a key-load block breaks its format (17 R664, R666). -/
def keyBlockBad (o : Octets) : Bool :=
  let slot := fieldAt o 2 1; let typ := fieldAt o 3 1; let uses := fieldAt o 4 2
  o.length != 448 || fieldAt o 0 2 != 1 || !typeSuits slot typ || (if slot ≥ 16 then uses &&& typeUses typ != uses else uses != 0)
    || !zeroAt o 6 2 || !zeroAt o 145 15 || !zeroAt o 216 8 || !zeroAt o 321 31
    || ((typ == 0 || typ == 4) && (!zeroAt o 48 97 || !zeroAt o 160 56))
    || ((typ == 1 || typ == 2) && !zeroAt o 200 16) || (typ != 4 && !zeroAt o 224 97)
    || (typ == 4 && slice o 16 16 != keyIdOf (slice o 224 97))

/-- The key that authorises a load (17 R662): slot 8, or slot 13 itself once it holds a key. -/
def State.authority (s : State) (slot : Nat) : Octets :=
  if slot = 13 ∧ (s.key 13).isSome then s.keyOctets 13 else s.keyOctets 8

/-- The key unwrapped from a block (17 R664, R665). -/
def State.unwrapKey (s : State) (o : Octets) : Option Octets := do
  let secret ← ecdh (s.keyOctets 2) (slice o 48 97)
  let kek := hkdf384 (slice o 8 8) secret (ascii "VS251 KEY" ++ [o.getD 2 0])
  keyUnwrap kek (slice o 160 (if fieldAt o 3 1 = 3 then 56 else 40))

/-- A key-load block read (17 R666): the slot's new content, or the code of the refusal. -/
def State.keyOf (s : State) (o : Octets) : Except Nat (Option Key) :=
  let slot := fieldAt o 2 1; let typ := fieldAt o 3 1; let auth := s.authority slot
  let mk (k : Octets) : Option Key := (keyTypeOf typ).map (fun y => ⟨y, fieldAt o 4 2, fieldAt o 8 8, slice o 16 16, k⟩)
  if keyBlockBad o then .error 7
  else if fieldAt o 8 8 ≤ s.sec.slotSerial.get 0 slot then .error 8
  else if slice o 32 16 ≠ keyIdOf auth ∨ !sigOk auth (slice o 0 352) (slice o 352 96) then .error 6
  else if typ = 0 then .ok none
  else if typ = 4 then .ok (mk (slice o 224 97))
  else
    match s.unwrapKey o with
    | none => .error 10
    | some k => if typ = 3 ∧ slice o 16 16 ≠ keyIdOf (ecPublic k) then .error 7 else .ok (mk k)

/-- KEY_LOAD (R664 to R666): takes effect at the next sill, a regulator key at once. -/
def execKeyLoad (s : State) : Res :=
  devBlockRow 50 (fun _ o t =>
    match t.keyOf o with
    | .error n => (t, .refused n)
    | .ok k =>
      let slot := fieldAt o 2 1; let serial := fieldAt o 8 8
      let sec := { t.sec with slotSerial := t.sec.slotSerial.set 0 slot serial }
      if slot = 13 then ({ t with sec := { sec with slots := sec.slots.set none 13 k } }, .done)
      else ({ t with sec := { sec with keysNext := sec.keysNext ++ [(slot, k, serial)] } }, .done)) s

/-! ### Provisioning (17 R667 to R670) -/

/-- The certificates of a bundle: enrolment, chain root, device. -/
def bundleCerts (o : Octets) : Octets × Octets × Octets :=
  let a := fieldAt o 8 2; let b := fieldAt o 10 2; let c := fieldAt o 12 2
  (slice o 96 a, slice o (96 + a) b, slice o (96 + a + b) c)

/-- Whether a bundle breaks its format (17 R668). -/
def bundleBad (o : Octets) : Bool :=
  let total := fieldAt o 4 4
  let certs := fieldAt o 8 2 + fieldAt o 10 2 + fieldAt o 12 2
  o.length < 512 || fieldAt o 0 2 != 1 || !zeroAt o 2 2 || total < 512 || total > 16384 || o.length != total
    || !zeroAt o 14 2 || !zeroAt o 88 8 || 96 + certs + 96 > total || !zeroAt o (96 + certs) (total - 192 - certs)

/-- The bundle checked (17 R669): the operator root and the chain root, or the result of the first failure. -/
def State.bundleKeys (s : State) (o : Octets) : Except Nat (Octets × Octets) :=
  let (enrol, chroot, dev) := bundleCerts o
  if bundleBad o then .error 7
  else if slice o 32 48 ≠ s.mfgCertDigest then .error 9
  else
    match Config.x509Subject (Config.romKey 1) enrol with
    | none => .error 10
    | some root =>
      match Config.x509Subject root chroot with
      | none => .error 10
      | some chain =>
        if Config.x509Subject chain dev ≠ some (ecPublic (s.keyOctets 1)) then .error 10
        else if fieldAt o 80 8 != 0 && (s.cart.utc.map (fun u => u.toNat)).getD 0 > fieldAt o 80 8 then .error 11
        else if !sigOk root (o.take (o.length - 96)) (o.drop (o.length - 96)) then .error 6
        else .ok (root, chain)

/-- A P-384 public key put into a slot. -/
def pubKey (k : Octets) : Key := ⟨.pub, 0, 0, keyIdOf k, k⟩
/-- A device key generated from free octets (log entry 15). -/
def genKey (k : Octets) : Key := ⟨.priv, 0, 0, keyIdOf (ecPublic k), k⟩

/-- The settings at their defaults (21 R804, R809, R812, R818). -/
def State.defaultSettings (s : State) : State :=
  { s with
    t := { s.t with k := 4, lenNext := none, sync := 0, syncNext := none }
    adm := { s.adm with cfg := AdmCfg.default 4, cfgNext := AdmCfg.default 4 }
    svc := { s.svc with corrThr := 64, pscrubH := 24 } }

/-- An accepted PROVISION (17 R670; 18 R735): keys, the tamper loop, PROVISIONED, P2 with reason HOST; a set without a
SUPERVISOR runs no core and holds UPDATE too. The regulator port counts its frames anew (16 R649; log entry 107). -/
def State.provision (s : State) (root chain dev : Octets) : State :=
  let s0 := (s.useFree 96).defaultSettings
  let s1 := ({ s0 with reg := { s0.reg with seqOut := 0, since := [], first := 1 } }).setLife .provisioned
  let sup := s.activeSlot.supervised
  let slots := ((((s1.sec.slots.set none 8 (some (pubKey root))).set none 11 (some (pubKey chain))).set none 3
    (some (genKey (freeOctets s 48)))).set none 4 (some (genKey ((freeOctets s 96).drop 48))))
  let s2 : State := { s1 with
    sec := { s1.sec with slots := slots, devCert := dev, loopArmed := true }
    power := { s1.power with reasons := if sup then 0x1 else 0x3, since := none, st := .p2 }
    cores := s1.cores.map (fun (k : Core) => { k with held := !sup, p2stopped := true }) }
  { s2 with svc := { s2.svc with stage := s2.firstStage } }

end Sys2Proof.Machine
end

