-- ==== Sys2Proof/Machine/SetupRead.lean ====
section
/-! DEFINITION. What the setup registers read as: the map of BAR0 and its field tables (21 R801, R805 to R820, R823). -/

namespace Sys2Proof.Machine

/-- A register from its fields: lowest bit, width, value (21 R801: reserved fields read as zero). -/
def packReg (l : List (Nat × Nat × Nat)) : W64 := BitVec.ofNat 64 (l.map (fun (lo, w, v) => v % 2 ^ w * 2 ^ lo)).sum

/-- A truth value as a bit. -/
def bit1 (b : Bool) : Nat := if b then 1 else 0

/-- HBM capacity in GiB and the VARIANT code (21 R807). -/
def Variant.code : Variant → Nat
  | .h48 => 1
  | .h96 => 2

/-- The PHASE codes (21 R811); before the first sill the code of the plate is read (log entry 51). -/
def Phase.code : Phase → Nat
  | .sill => 0
  | .post => 1
  | .plate | .none => 2

/-- DEV_ID (R807). -/
def regDevId (s : State) : W64 := packReg [(0, 16, 0x0251), (16, 8, 0xB0), (24, 8, s.variant.code), (32, 16, s.variant.gib)]

/-- IMAGE_VERSION and IMAGE_INFO (R807). -/
def regImageVersion (s : State) : W64 := BitVec.ofNat 64 s.activeSlot.version
def regImageInfo (s : State) : W64 := packReg [(0, 32, (s.core 0).mcver.toNat), (32, 1, s.upd.active)]

/-- DEVICE_STATE (R807). -/
def regDeviceState (s : State) : W64 :=
  packReg [(0, 8, s.sec.life.code), (8, 8, s.power.st.code), (16, 4, s.power.reasons.toNat), (24, 2, s.sec.dbgLevel),
    (32, 1, bit1 s.reg.frozen), (33, 1, bit1 (s.adm.paused != 0)), (34, 5, s.adm.paused.toNat)]

/-- SPAN_CFG, SPAN_STATUS, SPAN_NOW (R809, R811): the stored settings read as last written. -/
def regSpanCfg (s : State) : W64 := packReg [(0, 6, s.t.lenNext.getD s.t.k), (8, 2, s.t.syncNext.getD s.t.sync)]
def regSpanStatus (s : State) : W64 := packReg [(0, 2, s.t.syncSt.code), (16, 16, s.host.lateDb), (32, 16, s.host.lateCpl)]
def regSpanNow (s : State) : W64 := packReg [(0, 48, s.t.span), (48, 2, s.t.phase.code)]

/-- ADM_CFG0 to ADM_CFG2 (R812). -/
def regAdm (a : AdmCfg) (n : Nat) : W64 :=
  match n with
  | 0 => packReg [(0, 25, a.coreRsv), (32, 25, a.vecCap)]
  | 1 => packReg [(0, 30, a.movCap), (32, 25, a.r0Mov)]
  | _ => packReg [(0, 9, a.r0Desc), (16, 9, a.r0Scr), (32, 23, a.r0Core), (56, 6, a.r0CoreId.val)]

/-- CTRL_RING and CTRL_RING_COUNTS (R813): RESET reads as zero. -/
def regCtrlRing (s : State) : W64 := packReg [(0, 1, bit1 s.host.ctrl.en), (8, 4, (s.ring 0).st.code)]
def regCtrlCounts (s : State) : W64 := packReg [(0, 32, (s.ring 0).head.toNat), (32, 32, (s.ring 0).cplWritten.toNat)]

/-- RING_FAULT (R817) and SETUP_STATUS (R806). -/
def regRingFault (s : State) : W64 :=
  let f := s.host.ringFault
  packReg [(0, 12, f.ring), (16, 4, f.reason), (32, 16, f.more), (63, 1, bit1 f.valid)]
def regSetupStatus (s : State) : W64 :=
  let f := s.host.setup
  packReg [(0, 20, f.offset), (24, 4, f.reason), (32, 16, f.count), (63, 1, bit1 f.reject)]

/-- MEM_CFG and MEM_STATUS (R818). -/
def regMemCfg (s : State) : W64 := packReg [(0, 16, s.svc.corrThr), (16, 8, s.svc.pscrubH)]
def regMemStatus (s : State) : W64 := packReg [(0, 32, s.svc.memCorr.toNat), (32, 32, s.svc.memPoisoned)]

/-- CHAIN_STATUS and CHAIN_SHORT (R820). -/
def regChainStatus (s : State) : W64 :=
  let c := s.chain.cfg
  packReg ([(0, 8, c.device), (8, 8, c.quorum), (32, 32, c.chainId.toNat)]
    ++ allPorts.map (fun p => (16 + 4 * p.val, 4, (s.port p).st.code)))
def regChainShort (s : State) : W64 := packReg [(0, 48, s.chain.shortSpan)]

/-- MBX_STATUS (R821). -/
def regMbxStatus (s : State) : W64 := packReg [(0, 8, s.host.mbx.result), (8, 1, bit1 s.host.mbx.busy), (9, 1, bit1 s.host.mbx.done)]

/-! ### The trouble record as seen through a window (19 R755, R759; 21 R823) -/

/-- The newest committed SEQ, 0 where there is none. -/
def trNewest (s : State) : Nat := s.svc.tr.foldl (fun m e => max m e.seq) 0

/-- The oldest SEQ in the rolling area, 0 where it is empty. -/
def trOldest (s : State) : Nat :=
  (s.svc.tr.filter (fun e => e.slot ≥ 131072)).foldl (fun m e => if m = 0 then e.seq else min m e.seq) 0

/-- The number of pinned entries held. -/
def trPinCount (s : State) : Nat := (s.svc.tr.filter (fun e => trPinnedAt s.svc.tr e.slot)).length

/-- The committed entry with the least SEQ not below a seek point. -/
def trFrom (s : State) (seek : W64) : Option TrEntry :=
  (s.svc.tr.filter (fun e => e.seq ≥ seek.toNat)).foldl (fun m e => match m with
    | some x => if e.seq < x.seq then some e else some x
    | none => some e) none

/-- The entry a read latches, zeros where there is none, and the seek point after it. -/
def trTake (s : State) (seek : W64) : Octets × W64 :=
  match trFrom s seek with
  | some e => (e.data, BitVec.ofNat 64 (e.seq + 1))
  | none => (zeros 128, seek)

/-! ### Progress readouts (21 R819) -/

/-- SCRUB_PROG (12 R504) and RELEVEL_PROG (19 R747). -/
def scrubProg (s : State) : Nat := progressWord s.svc.scrubPos 65536
def relevelProg (s : State) : Nat := progressWord s.svc.relevelPos s.svc.relevelTotal

/-- The progress of a slot. -/
def progressOf (s : State) (slot : Nat) : Nat :=
  match slot with
  | 0 => scrubProg s
  | 1 => drainProg s
  | 2 => stageProg s
  | 3 => actProg s
  | _ => relevelProg s

/-- The 16 octets of a slot. -/
def progressOctets (s : State) (slot : Nat) : Octets := leBytes 12 (progressOf s slot) ++ zeros 4

/-! ### The map -/

/-- A doubleword of an octet string. -/
def word64 (l : Octets) (off : Nat) : W64 := BitVec.ofNat 64 (fieldAt l off 8)

/-- The MSI-X table entry as its 16 octets hold it (PCIe; R805). -/
def msixOctets (e : MsixEntry) : Octets := leBytes 8 e.addr.toNat ++ leBytes 4 e.data.toNat ++ leBytes 4 (bit1 e.masked)

/-- The pending bits of 64 vectors. -/
def msixPending (s : State) (n : Nat) : W64 :=
  BitVec.ofNat 64 ((List.range 64).map (fun i => if (s.host.msix.get MsixEntry.zero (64 * n + i)).pending then 2 ^ i else 0)).sum

/-- The doubleword at an offset that is a multiple of 8 (R801): zero for RESET_CTRL, MBX_CMD and what the map does not
assign. A progress slot's first half is read as it stands, its second as latched (R819). -/
def State.setupReg (s : State) (off : Nat) : W64 :=
  let c := s.host.ctrl
  if 0x700 ≤ off ∧ off < 0x750 then
    let slot := (off - 0x700) / 16
    if off % 16 = 0 then word64 (progressOctets s slot) 0 else word64 (s.host.progress.getD slot []) 8
  else if 0x20000 ≤ off ∧ off < 0x40000 then
    BitVec.ofNat 64 (leNat ((List.range 8).map (fun i => s.host.mbx.buf.get 0 (off - 0x20000 + i))))
  else if 0x40080 ≤ off ∧ off < 0x40100 then word64 s.host.trLatched (off - 0x40080)
  else if 0x80000 ≤ off ∧ off < 0x88000 then
    word64 (msixOctets (s.host.msix.get MsixEntry.zero ((off - 0x80000) / 16))) (off % 16)
  else if 0x88000 ≤ off ∧ off < 0x88100 then msixPending s ((off - 0x88000) / 8)
  else match off with
    | 0x00000 => regDevId s
    | 0x00008 => regImageVersion s
    | 0x00010 => regImageInfo s
    | 0x00018 => regDeviceState s
    | 0x00100 => regSpanCfg s
    | 0x00108 => regSpanStatus s
    | 0x00110 => regSpanNow s
    | 0x00200 => regAdm s.adm.cfgNext 0
    | 0x00208 => regAdm s.adm.cfgNext 1
    | 0x00210 => regAdm s.adm.cfgNext 2
    | 0x00300 => c.sub
    | 0x00308 => c.cpl
    | 0x00310 => c.wbase
    | 0x00318 => c.wlimit
    | 0x00320 => c.irq
    | 0x00328 => regCtrlRing s
    | 0x00330 => regCtrlCounts s
    | 0x00400 => c.dbBase
    | 0x00500 => BitVec.ofNat 64 s.host.notice.toNat
    | 0x00508 => regRingFault s
    | 0x00510 => regSetupStatus s
    | 0x00600 => regMemCfg s
    | 0x00608 => regMemStatus s
    | 0x00800 => regChainStatus s
    | 0x00808 => regChainShort s
    | 0x10008 => regMbxStatus s
    | 0x40000 => s.host.trSeek
    | 0x40008 => BitVec.ofNat 64 (trNewest s)
    | 0x40010 => BitVec.ofNat 64 (trOldest s)
    | 0x40018 => packReg [(0, 32, trPinCount s), (32, 32, s.svc.trLost)]
    | _ => 0

/-- What a read of BAR0 returns (R801): 4 or 8 aligned octets of a register or of the MSI-X structures; another read is not one
the spec gives an answer. -/
def State.setupRead (s : State) (off width : Nat) : Option Octets :=
  if (width = 4 ∨ width = 8) ∧ off % width = 0 then
    some (slice (leBytes 8 (s.setupReg (off / 8 * 8)).toNat) (off % 8) width)
  else none

end Sys2Proof.Machine
end

