-- ==== Sys2Proof/Machine/Ageing.lean ====
section
/-! DEFINITION. Scrubbing, the plumb monitors, re-levelling and the ageing projection (12 R497 to R504; 19 R745 to R752). -/

namespace Sys2Proof.Machine

/-! ### Scrub (12 R503, R504) -/

/-- SCRUB (R503; R497, R498): one granule of bench or bay memory, or one block of HBM, is read. -/
def execScrub (at_ : ScrubUnit) (ecc : Ecc) (s : State) : Res :=
  if !s.powered then .next s
  else match at_ with
    | .bench c g => if g < 32768 then .next (s.eccGran c (16 * g) ecc) else .next s
    | .bay g => if isBay (0x10000000 + 16 * g) then .next (s.eccGran 0 (0x10000000 + 16 * g) ecc) else .next s
    | .hbm b =>
      if 64 * b ≥ s.hbmBytes then .next s
      else match ecc with
        | .clean => .next s
        | .corrected => .next s.corrected
        | .uncorrectable => .next (s.poisonAt true (64 * b))

/-- An uncorrectable block of persistent memory (12 R502). -/
def State.pmemBad (s : State) (off : Nat) : State := s.trouble true 0x0021 1 0xFF (leBytes 4 off)

/-- PSCRUB_PASS (R504; R497, R502): a whole pass over persistent memory, the errors it corrected and the blocks it could not;
source 15 at its end. -/
def execPscrubPass (corrected : Nat) (bad : List Nat) (s : State) : Res :=
  if !s.powered || !s.bootDone then .next s
  else if !bad.all (fun o => o < 2 ^ 32) then .fault (.illFormed "an offset of persistent memory (R505)")
  else
    let s1 := (List.range corrected).foldl (fun t _ => t.corrected) s
    let s2 := bad.foldl State.pmemBad s1
    .next (({ s2 with svc := { s2.svc with scrubPos := 65536 } }).raise 15 0)

/-! ### The level (19 R745 to R750) -/

/-- The ceiling of VCORE in mV (R747). -/
abbrev vcoreMax : Nat := 860

/-- The hours in P0 and P1 (R750). -/
def Svc.hours (v : Svc) : Nat := v.seconds / 3600

/-- A pinned MARGIN entry (R756): conditions 1 floor step, 2 overdue, 3 ceiling, 4 365 days, 5 90 days. Before the first
projection the days are open (log entry 52). -/
def State.marginEntry (s : State) (cond : Nat) : State :=
  s.trouble true 0x0081 1 0xFF ([octet cond] ++ leBytes 2 s.svc.vcore ++ leBytes 2 s.svc.margin
    ++ leBytes 4 (s.svc.days.getD (Config.freeValue 59 s.freeCtr)))

/-- One step of 5 mV, never above the ceiling (R746, R747). -/
def State.stepUp (s : State) : State :=
  let v := min (s.svc.vcore + 5) vcoreMax
  { s with svc := { s.svc with vcore := v }, out := s.out ++ [.releveled v] }

/-- The margin and the lowest monitor of a reading (R745, R751): the least slack, the first of several. -/
def readMargin (slacks : List Nat) : Nat × Nat :=
  let m := slacks.foldl min (slacks.headD 0)
  (m, slacks.findIdx (· == m))

/-- A reading taken. -/
def State.takeReading (s : State) (slacks : List Nat) : State :=
  let (m, i) := readMargin slacks
  { s with svc := { s.svc with margin := m, lowest := i } }

/-- The margin acted on (R745): due below 30 ps or 1,000 hours after the last re-level; below 20 ps in P0 or P1 a step at once
and each second until 30 ps. -/
def State.actOnMargin (s : State) : State :=
  let running := s.power.st == .p0 || s.power.st == .p1
  let due := s.svc.due || s.svc.margin < 30 || s.svc.seconds ≥ s.svc.lastRelevel + 3600000
  let floor := running && (s.svc.margin < 20 || (s.svc.flooring && s.svc.margin < 30))
  let s1 : State := { s with svc := { s.svc with due := due, flooring := floor } }
  if floor ∧ s.svc.vcore < vcoreMax then s1.stepUp.marginEntry 1 else s1

/-- MONITOR_READ (R745): once per second in P0, P1 and P2. -/
def execMonitorRead (slacks : List Nat) (s : State) : Res :=
  if slacks.length ≠ 256 then .fault (.illFormed "256 monitors (R745)")
  else if !s.powered || !s.bootDone then .next s
  else
    let running := s.power.st == .p0 || s.power.st == .p1
    let s1 : State := { s with svc := { s.svc with
      seconds := if running then s.svc.seconds + 1 else s.svc.seconds
      dueFor := if s.svc.due then s.svc.dueFor + 1 else 0 } }
    .next (s1.takeReading slacks).actOnMargin

/-- RELEVEL_OVERDUE (R746): due for 720 hours without a span wholly in P2. -/
def execRelevelOverdue (s : State) : Res :=
  if s.svc.due ∧ s.svc.dueFor ≥ 2592000 ∧ s.svc.overdueSaid = false ∧ s.powered then
    .next ((({ s with svc := { s.svc with overdueSaid := true } }).alert 2).marginEntry 2)
  else .next s

/-- THERMAL_ALERT (R752). -/
def execThermalAlert (s : State) : Res := if s.powered then .next (s.alert 4) else .next s

/-! ### The projection (19 R749) -/

/-- Days until the least-squares line through (hours, mV) points reaches the ceiling, counted from the present hours, whole
days; none where the points give no rising line. -/
def projectDays (l : List (Nat × Nat)) (now : Nat) : Option Nat :=
  let n : Int := l.length
  let sh : Int := (l.map (fun p => (p.1 : Int))).sum
  let sv : Int := (l.map (fun p => (p.2 : Int))).sum
  let shh : Int := (l.map (fun p => (p.1 * p.1 : Int))).sum
  let shv : Int := (l.map (fun p => (p.1 * p.2 : Int))).sum
  let den := n * shh - sh * sh
  let num := n * shv - sh * sv
  if den ≤ 0 ∨ num ≤ 0 then none
  else some ((sh * num + (vcoreMax * n - sv) * den - now * n * num) / (24 * n * num)).toNat

/-- The projection after a re-level (R749); where the re-levels give no rising line the result is open (log entry 52). The
warnings at 365 and 90 days are given once each. -/
def State.project (s : State) : State :=
  let d := (projectDays s.svc.relevels s.svc.hours).getD (Config.freeValue 58 s.freeCtr % 2 ^ 32)
  let s1 : State := { s with freeCtr := s.freeCtr + 1, svc := { s.svc with days := some d } }
  let warn (n code : Nat) (t : State) : State :=
    if d ≤ (if n = 1 then 365 else 90) ∧ t.svc.daysWarned < n then
      ({ t with svc := { t.svc with daysWarned := n } }.marginEntry code).alert 1
    else t
  warn 2 5 (warn 1 4 s1)

/-! ### A re-level (19 R746 to R748) -/

/-- The end of a re-level: its entry, the level record, the projection; short of the target it ends at the ceiling. -/
def State.relevelDone (s : State) : State :=
  let old := s.svc.vcore - 5 * s.svc.relevelPos
  let s1 := s.trouble false 0x0080 1 0xFF (leBytes 2 old ++ leBytes 2 s.svc.vcore ++ leBytes 2 s.svc.margin)
  let l := s1.svc.relevels ++ [(s1.svc.hours, s1.svc.vcore)]
  let s2 : State := { s1 with svc := { s1.svc with
    relevels := l.drop (l.length - 10), lastRelevel := s1.svc.seconds, due := false, requested := false, dueFor := 0
    overdueSaid := false, releveling := false } }
  let s3 := if s.svc.margin < 40 then (s2.marginEntry 3).alert 3 else s2
  s3.project

/-- The steps of a re-level, each with the full reading after it (R746, R748): it goes on where the readings so far leave the
margin short of 40 ps. -/
def State.relevel (s : State) : List (List Nat) → State
  | [] => if s.svc.margin ≥ 40 ∨ s.svc.vcore ≥ vcoreMax then s.relevelDone else s
  | r :: l =>
    if s.svc.margin ≥ 40 ∨ s.svc.vcore ≥ vcoreMax then s.relevelDone
    else
      let t := s.stepUp.takeReading r
      State.relevel { t with svc := { t.svc with
        relevelPos := t.svc.relevelPos + 1
        relevelTotal := max t.svc.relevelTotal (t.svc.relevelPos + (if t.svc.margin < 40 then 2 else 1)) } } l

/-- Whether the present span is spent wholly in P2 (R746): the cores of one whose reason arose in span n stop within span n + 1 at
the latest (17 R686). -/
def State.p2Whole (s : State) : Bool :=
  s.power.st == .p2 && s.t.run && (match s.power.since with
    | some n => n + 2 ≤ s.t.span
    | none => true)

/-- RELEVEL_RUN (R746 to R749): a due or requested re-level in a span wholly in P2. The steps planned from the margin are open
(log entry 52). -/
def execRelevelRun (readings : List (List Nat)) (s : State) : Res :=
  if !readings.all (fun r => r.length == 256) then .fault (.illFormed "256 monitors (R745)")
  else if !(s.svc.due || s.svc.requested) || !s.p2Whole then .next s
  else
    let s1 : State := if s.svc.releveling then s else
      { s with freeCtr := s.freeCtr + 1
               svc := { s.svc with releveling := true, relevelPos := 0, relevelTotal := Config.freeValue 57 s.freeCtr % 64 } }
    .next (s1.relevel readings)

end Sys2Proof.Machine
end

