-- ==== Sys2Proof/Machine/Mover.lean ====
section
/-! DEFINITION. The mover: commands enter their queues, run and end (12 R509 to R517). -/

namespace Sys2Proof.Machine

/-- A granule of a tagged space. -/
def State.spaceGran (s : State) (c : CoreId) (space addr : Nat) : TVal :=
  if space = 2 then s.hbmGran addr else s.gran c addr

/-- An octet of a space other than host memory. -/
def State.spaceByte (s : State) (c : CoreId) (space addr : Nat) : Byte :=
  if space = 3 then s.pmem.get 0 addr
  else BitVec.ofNat 8 ((s.spaceGran c space addr).val.toNat / 2 ^ (8 * (addr % 16)) % 256)

/-- Octets written to a space: RAW granules that keep their other octets in a tagged one (04 R161), a host write. -/
def State.spacePut (s : State) (c : CoreId) (space addr : Nat) (d : Octets) : State :=
  match space with
  | 2 => s.setMem true addr d
  | 3 => { s with pmem := (d.zipIdx).foldl (fun m (b, i) => SMap.set 0 m (addr + i) b) s.pmem }
  | 4 => if d = [] then s else s.emit (.hostWrite addr d)
  | _ => s.setOctets c addr d

/-- A granule copied with its tag between tagged spaces (12 R509). -/
def State.granCopy (s : State) (c : CoreId) (m : MovOp) (off : Nat) : State :=
  let v := s.spaceGran c m.ss (m.src + off)
  if m.ds = 2 then s.setHbmGran (m.dst + off) v else s.setGran c (m.dst + off) v

/-- The first `n` octets of a command moved; `host` holds what host memory returned. -/
def State.moveBytes (s : State) (c : CoreId) (m : MovOp) (host : Octets) (n : Nat) : State :=
  if m.kind = 1 ∧ taggedSpace m.ss ∧ taggedSpace m.ds then
    (List.range (n / 16)).foldl (fun t i => t.granCopy c m (16 * i)) s
  else
    let d := if m.kind = 3 then zeros n
      else if m.ss = 4 then host.take n
      else (List.range n).map (fun i => s.spaceByte c m.ss (m.src + i))
    s.spacePut c m.ds m.dst d

/-- The granules of a tagged range, each with the command offset at which it begins. -/
def granOffsets (base len : Nat) : List (Nat × Nat) := (granAddrs base len).map (fun a => (a, a - base))

/-- Whether the host accesses of a command fail: Bus Master Enable clear or the data link layer down, now or while it ran (03
R81), or its job consumed before the last PERST_N (19 R738). -/
def State.hostCut (s : State) (x : MovCmd) : Bool :=
  x.cut || !(s.host.bme && s.host.dllUp) || x.job.any (fun n => n < s.host.discardBelow)

/-- Why the block's own state keeps a command from ending DONE: the offset reached and ERROR (12 R515). -/
def State.moveStop (s : State) (x : MovCmd) : Option (Nat × Nat) :=
  let m := movOp x.cmd
  let key := tswKey x.tsw
  let super := tswMode x.tsw
  let src := m.kind != 3
  let host : List (Nat × Nat) := if ((src && m.ss == 4) || m.ds == 4) && s.hostCut x then [(0, 4)] else []
  let r1 := if src then (s.movRefused x.core key super m.ss m.src m.len .load).map (fun p => (p.2 - m.src, 3)) else none
  let r2 := (s.movRefused x.core key super m.ds m.dst m.len .store).map (fun p => (p.2 - m.dst, 3))
  let p1 := if src && taggedSpace m.ss then
      ((granOffsets m.src m.len).find? (fun (a, _) => (s.spaceGran x.core m.ss a).tag == tPOISON)).map (fun p => (p.2, 1))
    else none
  let p2 := if taggedSpace m.ds then
      ((granOffsets m.dst m.len).find? (fun (a, _) =>
        (s.spaceGran x.core m.ds a).tag == tPOISON && (a / 16 * 16 < m.dst || a / 16 * 16 + 16 > m.dst + m.len))).map
          (fun p => (p.2, 2))
    else none
  (host ++ r1.toList ++ r2.toList ++ p1.toList ++ p2.toList).foldl (fun best p => match best with
    | none => some p
    | some q => if p.1 < q.1 then some p else some q) none

/-- A queued command by its bank and slot. -/
def State.movCmd (s : State) (c : CoreId) (b : BankId) (slot : Nat) : Option MovCmd :=
  s.mover.cmds.find? (fun m => m.core == c && m.bank == b && m.slot == slot)

/-- The command at the head of a queue set RUNNING (12 R511). -/
def State.startMove (s : State) (service : Bool) : State :=
  match s.movRunning service with
  | some m =>
    ({ s with mover := { s.mover with
      cmds := s.mover.cmds.map (fun x => if x = m then { x with since := s.t.clock } else x) } }).putMov m 2 0 0
  | none => s

/-- DONE_BYTES of a running command written at each 64 KiB moved (12 R511), at the rate of R512, 16 octets in a cycle, while it
can go on. Log entry 102. -/
def State.moveProgress (s : State) (service : Bool) : State :=
  match s.movRunning service with
  | some x =>
    let n := 16 * (s.t.clock - x.since)
    if 0 < n && n % 65536 == 0 && n ≤ (movOp x.cmd).len && !s.linkWaits && (s.moveStop x).isNone then s.putMov x 2 0 n else s
  | none => s

/-- MOVER_ENQUEUE (R512): commands enter their queue in the order of their MOVR. -/
def execMoverEnqueue (c : CoreId) (b : BankId) (slot : Fin 8) (s : State) : Res :=
  match s.movCmd c b slot.val with
  | none => .next s
  | some m =>
    if m.entered ∨ s.mover.cmds.any (fun x => x.service == m.service && !x.entered && x.order < m.order) then .next s
    else
      let busy := (s.movRunning m.service).isSome
      let t : State := { s with mover := { s.mover with
        cmds := s.mover.cmds.map (fun x => if x = m then { x with entered := true } else x) } }
      .next (if busy then t else t.startMove m.service)

/-- A command taken off its queue; the next one starts, and a completion that waited for it may be promised. -/
def State.endMove (s : State) (m : MovCmd) : State :=
  let s1 := ({ s with mover := { s.mover with cmds := s.mover.cmds.filter (· != m) } }).startMove m.service
  match m.job with
  | some id => s1.settle id
  | none => s1

/-- Whether a command is the one its queue performs. -/
def State.isRunning (s : State) (m : MovCmd) : Bool := s.movRunning m.service == some m

/-- 1 for a command that reads a memory of the device, whose errors are corrected and counted (12 R496, R497). -/
def MovOp.eccSource (m : MovOp) : Nat := if m.kind ≠ 3 ∧ m.ss ≠ 4 then 1 else 0

/-- MOVER_DONE (R517): every octet moved; a host access waits while the link is out of L0 (03 R81). `corrected` of the reads of a
source in the device found an error that was corrected (12 R497). -/
def execMoverDone (c : CoreId) (b : BankId) (slot : Fin 8) (host : Octets) (corrected : Nat) (s : State) : Res :=
  match s.movCmd c b slot.val with
  | none => .next s
  | some x =>
    let m := movOp x.cmd
    if !s.isRunning x ∨ (((m.kind ≠ 3 ∧ m.ss = 4) ∨ m.ds = 4) ∧ s.linkWaits) ∨ (s.moveStop x).isSome
      ∨ (m.kind ≠ 3 ∧ m.ss = 4 ∧ host.length ≠ m.len) then .next s
    else .next (((s.moveBytes c m host m.len).putMov x 3 0 m.len).endMove x |>.correctedN (corrected * m.eccSource))

/-- DETAIL of a JOB_FAULT after a failed command (12 R516). -/
def movDetail (err : Nat) : Nat := if err = 3 ∨ err = 4 then 4 else 13

/-- How many octets of a command stopped at an offset are written: those of a last destination granule that is POISON, and that the
command had to cover whole, are not (12 R500). -/
def State.movedTo (s : State) (x : MovCmd) (off : Nat) : Nat :=
  let m := movOp x.cmd
  let part := (m.dst + off) % 16
  if taggedSpace m.ds ∧ part ≠ 0 ∧ (s.spaceGran x.core m.ds (m.dst + off)).tag = tPOISON then off - part else off

/-- A command that fails at an offset (12 R515, R516): the octets before it moved, STATE, ERROR, DONE_BYTES, its job's
bank frozen, or the completion of the job that has ended changed. -/
def State.failMove (s : State) (x : MovCmd) (host : Octets) (off err : Nat) : State :=
  let m := movOp x.cmd
  let s1 := ((s.moveBytes x.core m host (s.movedTo x off)).putMov x 4 err (off / 65536 * 65536))
  match x.job with
  | none => s1.endMove x
  | some id =>
    if (s1.bank x.core x.bank).jobId = some id then
      (s1.freezeFor x.core x.bank (movDetail err)).endMove x
    else
      ({ s1 with host := { s1.host with ended := s1.host.ended.map (fun (c : Cpl) =>
        if c.order = id ∧ c.byDispatch ∧ c.status ≠ stBUDGET then ({ c with status := stJOBFAULT, detail := movDetail err } : Cpl) else c) } }).endMove x

/-- MOVER_FAIL (R515). -/
def execMoverFail (c : CoreId) (b : BankId) (slot : Fin 8) (why : MoverTrouble) (corrected : Nat) (s0 : State) : Res :=
  match s0.movCmd c b slot.val with
  | none => .next s0
  | some x =>
    let m := movOp x.cmd
    if !s0.isRunning x then .next s0
    else
      let s := s0.correctedN (corrected * m.eccSource)
      match why with
      | .state =>
        match s.moveStop x with
        | some (off, err) => if m.kind ≠ 3 ∧ m.ss = 4 ∧ off ≠ 0 then .next s0 else .next (s.failMove x [] off err)
        | none => .next s0
      | .sourceEcc off =>
        if m.kind = 3 ∨ !taggedSpace m.ss ∨ off ≥ m.len then .next s0
        else
          let a := m.src + off
          let t := if m.ss = 0 then (s.setGran c a (poisonVal 1)).poisoned (a / 16 * 16) 1 1
            else s.poisonAt (m.ss == 2) a
          match t.moveStop x with
          | some (o, err) => .next (t.failMove x [] o err)
          | none => .next s0
      | .hostError moved =>
        if moved.length ≥ m.len ∨ !((m.kind ≠ 3 ∧ m.ss = 4) ∨ m.ds = 4) then .next s0
        else
          match s.moveStop { x with cut := false } with
          | some (off, err) => .next (if off ≤ moved.length then s.failMove x moved off err else s.failMove x moved moved.length 4)
          | none => .next (s.failMove x moved moved.length 4)
      | .persistent off =>
        if m.kind = 3 ∨ m.ss ≠ 3 ∨ off ≥ m.len then .next s0
        else
          match s.moveStop x with
          | some (o, err) => if o < off then .next (s.failMove x [] o err)
            else .next ((s.trouble true 0x0021 1 0xFF (leBytes 4 ((0xC0000000 + m.src + off) / 64 * 64))).failMove x [] off 5)
          | none => .next ((s.trouble true 0x0021 1 0xFF (leBytes 4 ((0xC0000000 + m.src + off) / 64 * 64))).failMove x [] off 5)

/-- WAIT_MOVES_RELEASE (R512). -/
def execWaitMovesRelease (c : CoreId) (b : BankId) (s : State) : Res :=
  let k := s.bank c b
  if k.st = .blocked ∧ k.wait = some .moves ∧ s.movesIdle c b then .next (s.endWait c b) else .next s

end Sys2Proof.Machine
end

