-- ==== Sys2Proof/Machine/CoreEvents.lean ====
section
/-! DEFINITION. What happens on a core between instructions: entries and takeovers, bank switches, results written through
the completion port, the BUDGET of an overrun and its freeze, waits that end (05 R206, R209; 09 R382, R384, R402 to R406;
02 R72, R73; 17 R686). -/

namespace Sys2Proof.Machine

/-- The entry that ENTRY carries: the one in progress, or what is due at the boundary. -/
def State.entryAt (s : State) (c : CoreId) : Option Entering :=
  let k := s.core c
  k.entering.orElse (fun _ => match k.current with
    | none => none
    | some b => if b = bankT ∨ k.switchTo.isSome ∨ (k.bank b).deferred.isSome then none else dueEntry s c b none)

/-- The errors that an entry's reads find: at its HDT entry and at the first granule of its bank's TSB, the entry having begun
(12 R497, R498; 09 R383). -/
def State.entryErrors (s : State) (c : CoreId) (errs : Errs) : State :=
  match errs, s.entryAt c with
  | [], _ => s
  | _, none => s
  | _, some e =>
    let h := s.hdtAddr c e.vector
    (s.modCore c (fun k => { k with entering := some e })).findErrors c errs [h, h + 16, (s.bank c e.bank).tsbr.toNat]

/-- ENTRY (R382), with a machine check that arises at this boundary (R371); it leaves no octet part-written (R381; log entry
100). -/
def execEntry (c : CoreId) (mcheck : Bool) (errs : Errs) (s : State) : Res :=
  if !(s.core c).able then .next s
  else .next (((if mcheck then s.raiseMcheck c (fun b => ⟨b, false, 0, 0⟩) else s).entryErrors c errs).entryStep c)

/-- TAKEOVER (R384). -/
def execTakeover (c : CoreId) (src : Fin 512) (s : State) : Res :=
  if (s.core c).able then .next (s.takeoverStep c src.val) else .next s

/-- The cycles that refill the loop buffer for a bank whose loop was running from it (05 R221). -/
def Bank.refill (k : Bank) : Nat :=
  if k.buffered && k.lend.getLsbD 31 then cdiv (getField (k.lend.setWidth 64) 20 6 + 1) 4 else 0

/-- The loop buffer given up at a bank switch: its bank refills it when it comes back (05 R221). -/
def Core.giveUpBuffer (k : Core) : Core :=
  match k.loopOwner with
  | some (o, true) => { (k.modBank o (fun v => { v with buffered := true })) with loopOwner := none }
  | _ => { k with loopOwner := none }

/-- The switch to a bank (R403, R404): the bank it displaces becomes READY; the three cycles and the refill of the loop
buffer are charged to the bank if it left by blocking itself, to the bank that preempted it if it was preempted, otherwise to
nobody. -/
def State.switchBank (s : State) (c : CoreId) (b : BankId) : State :=
  let k := (s.core c).giveUpBuffer
  let v := k.bank b
  let refill := if k.serviceMode then v.refill else 0
  let k1 := match k.running with
    | none => k
    | some r => k.modBank r (fun w => { w with st := .ready, readySince := s.t.clock, preemptedBy := some b, selfBlocked := false })
  let k2 := k1.modBank b (fun w => { w with
    st := .running, wait := none, preemptedBy := none, selfBlocked := false, buffered := false })
  let s1 := s.setCore c { k2 with running := some b, loaded := none, loopOwner := if refill = 0 then none else some (b, true) }
  if v.selfBlocked then s1.modBank c b (fun w => w.chargeCyc s.t.clock (3 + refill))
  else match v.preemptedBy with
    | some p => s1.modBank c p (fun w => w.chargeCyc s.t.clock (3 + refill))
    | none => s1

/-- BANK_SWITCH (R402, R403). -/
def execBankSwitch (c : CoreId) (s : State) : Res :=
  let k := s.core c
  if !k.able then .next s
  else match k.switchTo with
    | none => .next s
    | some b => .next (s.switchBank c b)

/-- BUDGET (R72, R74, R405): a charged cycle past CORE_CYC. -/
def execBudget (c : CoreId) (b : BankId) (s : State) : Res :=
  if (s.bank c b).budgetDue then
    .next ((s.modBank c b (fun k => { k with budgetDue := false })).holdBudget c b 1)
  else .next s

/-- BUDGET_FREEZE (R73): 4,096 cycles after the BUDGET was taken. -/
def execBudgetFreeze (c : CoreId) (b : BankId) (s : State) : Res :=
  let k := s.bank c b
  match k.budgetTaken, k.job with
  | some (t0, r), some _ => if s.t.clock ≥ t0 + 4096 then .next ((s.freezeBank c b stBUDGET r).dispatchIfPost c) else .next s
  | _, _ => .next s

/-- P2_CORE_STOP (R686): the LVE and the mover's job queue idle, at an instruction boundary. -/
def execP2CoreStop (c : CoreId) (s : State) : Res :=
  let k := s.core c
  let due : Bool := match s.power.since with | some n => n < s.t.span | none => false
  if s.power.reasons ≠ 0 ∧ due ∧ s.chainList.all (fun (_, x) => x.st != .running && !(x.entered && x.st == .queued))
      ∧ (s.movRunning false).isNone ∧ !k.entryHolds ∧ !k.p2stopped then
    .next (s.modCore c (fun k => { k with p2stopped := true }))
  else .next s

/-- COMPLETION_PORT_WRITE (R206, R209): the oldest result, in the order of dispatch (log entry 110), enters its register; a
float brings its flags and its trap record (07 R307, R308). -/
def execCompletionPortWrite (c : CoreId) (s : State) : Res :=
  match (s.core c).port with
  | [] => .next s
  | e :: r =>
    .next ((s.modCore c (fun k => { k with port := r })).modBank c e.bank (fun v =>
      ((match e.slot with | some i => v.setSlot i e.val | none => v).addFlags e.flags).addFpt e.fpt))

/-- WAIT_SEALS_RELEASE (R638, R648). -/
def execWaitSealsRelease (c : CoreId) (b : BankId) (s : State) : Res :=
  let k := s.bank c b
  if k.st = .blocked ∧ k.wait = some .seals ∧ s.sealsIdle c b then .next (s.endWait c b)
  else .next s

/-- WAIT_UNTIL_REACHED (R406). -/
def execWaitUntilReached (c : CoreId) (b : BankId) (s : State) : Res :=
  let k := s.bank c b
  match k.st, k.wait with
  | .blocked, some (.until t) => if t ≤ s.t.clock then .next (s.endWait c b) else .next s
  | _, _ => .next s

end Sys2Proof.Machine
end

