-- ==== Sys2Proof/Machine/Debug.lean ====
section
/-! DEFINITION. The debug port: tokens, the challenge, levels, halts and accesses (17 R679 to R683, R693, R694). -/

namespace Sys2Proof.Machine

/-- Refusals after which every token is refused until the next reset (17 R681). -/
abbrev tokenLimit : Nat := 8

/-- The key a level's token is signed under (17 R680). -/
def State.debugKey (s : State) (level : Nat) : Octets :=
  if level ≤ 2 ∧ (s.key 12).isSome then s.keyOctets 12 else Config.romKey 5

/-- Whether the matrix of R693 refuses a level. -/
def State.levelRefused (s : State) (level : Nat) : Bool :=
  s.power.st == .p3 || s.power.st == .p4 || (level == 3 && s.inService)

/-- Whether a token is refused (17 R680, R681). -/
def State.tokenBad (s : State) (t : Octets) : Bool :=
  let level := fieldAt t 2 1; let key := s.debugKey level
  s.sec.refusals ≥ tokenLimit || fieldAt t 0 2 != 1 || level == 0 || level > 3 || !zeroAt t 3 1 || fieldAt t 4 4 < 60
    || fieldAt t 4 4 > 86400 || slice t 8 48 != s.mfgCertDigest || !zeroAt t 104 24 || slice t 56 32 != s.sec.challenge
    || slice t 88 16 != keyIdOf key || !sigOk key (t.take 128) (t.drop 128) || s.levelRefused level

/-- The challenge renewed from the service instance (17 R681). -/
def State.renewChallenge (s : State) : State :=
  { s.nonce32.2 with sec := { s.sec with challenge := s.nonce32.1 } }

/-- The DEBUG entry (17 R681; 19 R756). -/
def State.debugEntry (s : State) (t : Octets) (count : Nat) : State :=
  s.trouble true 0x0062 2 0xFF ([t.getD 2 0, octet count] ++ slice t 88 16)

/-- DEBUG_TOKEN (R681): written through the token register, which VAUX powers and TRST_N holds. -/
def execDebugToken (token : Octets) (s : State) : Res :=
  if token.length ≠ 224 then .fault (.illFormed "token of 224 octets (R680)")
  else if s.power.st = .p4 ∨ s.sec.trstLow then .next s
  else if s.tokenBad token then
    let n := satInc s.sec.refusals 255
    .next (({ s with sec := { s.sec with refusals := n } }.debugEntry token n).renewChallenge)
  else
    .next (({ s with sec := { s.sec with dbgLevel := fieldAt token 2 1, dbgLeft := fieldAt token 4 4, dbgSince := s.t.clock }
      }.debugEntry token 0).renewChallenge)

/-- CHALLENGE_RENEWAL (R681). -/
def execChallengeRenewal (s : State) : Res := if s.power.st = .p4 then .next s else .next s.renewChallenge

/-- DEBUG_EXPIRY (R682): VALID_S seconds after the grant. -/
def execDebugExpiry (s : State) : Res :=
  if s.sec.dbgLevel ≠ 0 ∧ s.t.clock ≥ s.sec.dbgSince + 2000000000 * s.sec.dbgLeft then .next s.debugOff else .next s

/-- TRST_N (R682). -/
def execTrstN (asserted : Bool) (s : State) : Res :=
  let t : State := { s with sec := { s.sec with trstLow := asserted } }
  .next (if asserted then t.debugOff else t)

/-- Whether halts can be requested: D2 of a PROVISIONED device in P0 or P1 (17 R683, R693). -/
def State.mayHalt (s : State) : Bool :=
  s.debugCap ≥ 2 && s.inService && (s.power.st == .p0 || s.power.st == .p1)

/-- DEBUG_HALT (R683): the data capacity is 0 from the next sill, the halt taken at its post. -/
def execDebugHalt (c : CoreId) (s : State) : Res :=
  if s.mayHalt then .next (s.modCore c (fun k => { k with haltReq := true })) else .next s

/-- DEBUG_HALT_RELEASE (R683). -/
def execDebugHaltRelease (c : CoreId) (s : State) : Res :=
  if s.debugCap ≥ 2 then .next (s.modCore c (fun k => { k with haltReq := false, halted := false, step := false })) else .next s

/-! ### Accesses (17 R679; 04 R825; 05 R190) -/

/-- Whether a core is stopped for the debug port: halted, stopped by P2, or held in reset. -/
def Core.quietForDebug (k : Core) : Bool := k.halted || k.p2stopped || k.held || k.stopped

/-- The level an access needs (17 R679). -/
def debugLevelOf : DebugOp → Nat
  | .idcode | .challenge => 0
  | .trace _ | .readSetup .. => 1
  | .step _ | .readReg .. | .readBench .. | .readBay _ | .setBreak .. | .clearBreak .. => 2
  | .writeReg .. | .writeBench .. | .writeBay .. | .writeHbm .. | .readMicro .. | .writeMicro .. => 3
  | .scanCore _ | .scanLve | .scanMover => 3

/-- A tagged value as the port returns it: the payload's 16 octets, then the tag. -/
def tvalOctets (v : TVal) : Octets := payloadBytes v.val ++ [octet v.tag.toNat]

/-- A trace of a core as it stands: the executing bank, its PC, the vector of the entry in progress or of the last one, and with
them the span, its phase and cycle, the pauses, the order of consumption and the jobs that wait. A step retires at most one
instruction, so an access after each step shows every retired PC, vector, bank switch, and span and admission event (17 R679;
log entry 54). -/
def State.traceOctets (s : State) (c : CoreId) : Octets :=
  let k := s.core c
  (match k.current with
    | some b => octet b.val :: leBytes 4 (s.bank c b).pc.toNat ++ leBytes 2 (match k.entering with
      | some e => e.vector
      | none => (s.bank c b).lastFault.1)
    | none => 0xFF :: zeros 6)
    ++ leBytes 6 s.t.span ++ [octet s.t.phase.code] ++ leBytes 4 s.spanCyc32.toNat ++ [octet s.adm.paused.toNat] ++ leBytes 8 s.adm.order
    ++ leBytes 2 k.jobQueue.length

/-- A scan of a core: of every bank the window registers, then PC, TSW, the loop, spill and budget registers (17 R679; log entry
54). -/
def Core.scan (k : Core) : Octets :=
  k.banks.toList.flatMap (fun (b : Bank) => b.regs.toList.flatMap tvalOctets ++ leBytes 4 b.pc.toNat ++ leBytes 8 b.tsw.toNat
    ++ leBytes 4 b.lcnt.toNat ++ leBytes 4 b.lend.toNat ++ leBytes 4 b.splp.toNat ++ leBytes 4 b.spll.toNat ++ leBytes 4 b.cycb.toNat)

/-- A scan of the long-vector engine: of each entry its place, the handle, the elements committed and the descriptor copied. -/
def Lve.scan (m : Lve) : Octets :=
  m.chains.flatMap (fun (n, x) => match x with
    | some e => octet n :: leBytes 4 e.handle.toNat ++ leBytes 4 e.pos ++ padTo 512 e.desc
    | none => [])

/-- A scan of the mover: of each command its core, bank, slot and the 32 octets copied. -/
def Mover.scan (m : Mover) : Octets :=
  m.cmds.flatMap (fun (x : MovCmd) => [octet x.core.val, octet x.bank.val, octet x.slot] ++ padTo 32 x.cmd)

/-- What an access of a granted level does. Memory and registers are reached on cores that are stopped; IDCODE has no published
value (log entry 54). -/
def State.debugDo (s : State) (op : DebugOp) : State :=
  match op with
  | .idcode => s.reply (leBytes 4 (Config.freeValue 60 0))
  | .challenge => s.reply s.sec.challenge
  | .trace c => s.reply (s.traceOctets c)
  | .readSetup off width => s.reply ((s.setupRead off.toNat width).getD [])
  | .scanCore c => if (s.core c).quietForDebug then s.reply (s.core c).scan else s
  | .scanLve => s.reply s.lve.scan
  | .scanMover => s.reply s.mover.scan
  | .step c =>
    let k := s.core c
    if k.halted ∨ k.p2stopped then s.setCore c { k with step := true } else s
  | .readReg c b win code =>
    if (s.core c).quietForDebug then s.reply (tvalOctets ((s.bank c b).regs[Sys2Proof.Machine.slotOf (b == bankT) win.val code])) else s
  | .readBench c g =>
    if (s.core c).quietForDebug ∧ g < 32768 then s.reply (tvalOctets (s.gran c (16 * g))) else s
  | .readBay g => if isBay (0x10000000 + 16 * g) then s.reply (tvalOctets (s.gran 0 (0x10000000 + 16 * g))) else s
  | .setBreak c addr => { s with sec := { s.sec with breaks := (s.sec.breaks.erase (c, addr)) ++ [(c, addr)] } }
  | .clearBreak c addr => { s with sec := { s.sec with breaks := s.sec.breaks.erase (c, addr) } }
  | .writeReg c b win code tag v =>
    if (s.core c).quietForDebug then s.modBank c b (fun k => k.setSlot (Sys2Proof.Machine.slotOf (b == bankT) win.val code) ⟨tag, v⟩) else s
  | .writeBench c g tag v =>
    if (s.core c).quietForDebug ∧ g < 32768 then s.setGran c (16 * g) ⟨tag, v⟩ else s
  | .writeBay g tag v => if isBay (0x10000000 + 16 * g) then s.setGran 0 (0x10000000 + 16 * g) ⟨tag, v⟩ else s
  | .writeHbm g tag v => if 16 * g < s.hbmBytes then s.setHbmGran (16 * g) ⟨tag, v⟩ else s
  | .readMicro c a => if a < 24576 then s.reply (leBytes 4 (s.microword c a).toNat) else s
  | .writeMicro c a w =>
    if (s.core c).quietForDebug ∧ a < 24576 then s.modCore c (fun k => { k with
      micro := k.micro.set none a (some w), badWords := k.badWords.erase a }) else s

/-- DEBUG_ACCESS (R679): an access above the level in force has no effect. -/
def execDebugAccess (op : DebugOp) (s : State) : Res :=
  if s.power.st = .p4 ∨ s.sec.trstLow ∨ s.debugCap < debugLevelOf op then .next s else .next (s.debugDo op)

end Sys2Proof.Machine
end

