-- ==== Sys2Proof/Machine/Float.lean ====
section
/-! DEFINITION. DFF and B64 instructions and the exception modes (07 R298 to R314). -/

namespace Sys2Proof.Machine

/-- The end of a float instruction with a register result (07 R306 to R311): PRECISE holds issue and traps precisely;
otherwise the result, its flags and, in IMPRECISE, its record go to the completion port. -/
def floatDone (s : State) (c : CoreId) (k : BankId) (d : Reg) (v : TVal) (flags : BitVec 5) (latency : Nat) : Act :=
  let bk := s.bank c k
  if tswFpm bk.tsw = 2 then do
    need (trapping flags == 0) (.fault 8 (trapping flags).toNat 0 0)
    finish ((s.setReg c k d v).modBank c k (fun b => b.addFlags flags)) latency
  else
    let rec_ : Option FptRec :=
      if tswFpm bk.tsw = 1 ∧ trapping flags ≠ 0 then
        some ⟨bk.pc, trapping flags, tswMode bk.tsw, BitVec.ofNat 4 (tswMask bk.tsw)⟩ else none
    let e : PortEntry := ⟨k, some (bk.slot k d), v, flags, rec_⟩
    finish (s.modCore c (fun kk => { kk with port := kk.port ++ [e] })) 1

/-- DFF with its special values. -/
def dffTags : List (BitVec 4) := [tDFF, tDFI, tDFQ, tDFS]

/-- A DFF instruction of two operands. -/
def df2 (f : Nat → Fl → Fl → FlRes) (latency : Nat) (c : CoreId) (d a b : Reg) (s : State) (k : BankId) : Act := do
  let x ← readReg s c k a
  let y ← readReg s c k b
  destReg s c k d
  checkOpnds [⟨2, dffTags, x⟩, ⟨3, dffTags, y⟩]
  let r := f (tswDrm (s.bank c k).tsw) (dffOf x) (dffOf y)
  floatDone s c k d (dffVal r.1) r.2 latency

/-- A DFF instruction of one operand, whose result is given whole. -/
def df1 (f : W64 → Fl → TVal × BitVec 5) (latency : Nat) (c : CoreId) (d a : Reg) (s : State) (k : BankId) : Act := do
  let x ← readReg s c k a
  destReg s c k d
  checkOpnds [⟨2, dffTags, x⟩]
  let r := f (s.bank c k).tsw (dffOf x)
  floatDone s c k d r.1 r.2 latency

/-- A DFF result as a register value. -/
def dffRes (r : FlRes) : TVal × BitVec 5 := (dffVal r.1, r.2)
/-- A B64 result as a register value. -/
def b64Res (r : FlRes) : TVal × BitVec 5 := (b64Val r.1, r.2)

/-- DFADD (R301). -/
def execDfadd (c : CoreId) (d a b : Reg) (s : State) : Res := issue c (df2 dfadd 6 c d a b) s
/-- DFSUB (R301). -/
def execDfsub (c : CoreId) (d a b : Reg) (s : State) : Res := issue c (df2 dfsub 6 c d a b) s
/-- DFMUL (R301). -/
def execDfmul (c : CoreId) (d a b : Reg) (s : State) : Res := issue c (df2 dfmul 14 c d a b) s
/-- DFDIV (R301). -/
def execDfdiv (c : CoreId) (d a b : Reg) (s : State) : Res := issue c (df2 dfdiv 74 c d a b) s
/-- DFSQRT (R301). -/
def execDfsqrt (c : CoreId) (d a : Reg) (s : State) : Res := issue c (df1 (fun t x => dffRes (dfsqrt (tswDrm t) x)) 80 c d a) s
/-- DFQUA (R301). -/
def execDfqua (c : CoreId) (d a b : Reg) (s : State) : Res := issue c (df2 dfqua 6 c d a b) s
/-- DFNEG (R301). -/
def execDfneg (c : CoreId) (d a : Reg) (s : State) : Res := issue c (df1 (fun _ x => (dffVal x.negate, 0)) 1 c d a) s
/-- DFABS (R301). -/
def execDfabs (c : CoreId) (d a : Reg) (s : State) : Res := issue c (df1 (fun _ x => (dffVal x.abs, 0)) 1 c d a) s
/-- DFTB (R301). -/
def execDftb (c : CoreId) (d a : Reg) (s : State) : Res := issue c (df1 (fun t x => b64Res (dftb (tswBrm t) x)) 10 c d a) s

/-- The scale operand of DFSCB and BFSCB: a BIN from −8,192 to 8,191, other values take RI. -/
def scaleBy (y : TVal) : Except Trap Int := do
  need (-8192 ≤ y.val.toInt && y.val.toInt ≤ 8191) riTrap
  return y.val.toInt

/-- DFSCB (R301). -/
def execDfscb (c : CoreId) (d a b : Reg) (s : State) : Res :=
  issue c (fun s k => do
    let x ← readReg s c k a
    let y ← readReg s c k b
    destReg s c k d
    checkOpnds [⟨2, dffTags, x⟩, ⟨3, [tBIN], y⟩]
    let n ← scaleBy y
    let r := dfscb (tswDrm (s.bank c k).tsw) (dffOf x) n
    floatDone s c k d (dffVal r.1) r.2 4) s

/-- DFFMA (R301): d is read, and encoded first. -/
def execDffma (c : CoreId) (d a b : Reg) (s : State) : Res :=
  issue c (fun s k => do
    let z ← readReg s c k d
    let x ← readReg s c k a
    let y ← readReg s c k b
    checkOpnds [⟨1, dffTags, z⟩, ⟨2, dffTags, x⟩, ⟨3, dffTags, y⟩]
    let r := dffma (tswDrm (s.bank c k).tsw) (dffOf x) (dffOf y) (dffOf z)
    floatDone s c k d (dffVal r.1) r.2 18) s

/-- BTDF (R301). -/
def execBtdf (c : CoreId) (d a : Reg) (s : State) : Res :=
  issue c (fun s k => do
    let x ← readReg s c k a
    destReg s c k d
    checkOpnds [⟨2, [tB64], x⟩]
    let r := btdf (tswDrm (s.bank c k).tsw) (b64Of x.val)
    floatDone s c k d (dffVal r.1) r.2 12) s

/-- A compare-and-branch: issue is held until the comparison completes; its flags are raised in every mode (07 R303,
R304, R306 to R311). -/
def fcompare (c : CoreId) (taken : Bool) (flags : BitVec 5) (disp : BitVec 11) (cost : Nat) (s : State) (k : BankId) : Act := do
  let bk := s.bank c k
  need (tswFpm bk.tsw != 2 || trapping flags == 0) (.fault 8 (trapping flags).toNat 0 0)
  let r : Option FptRec :=
    if tswFpm bk.tsw = 1 ∧ trapping flags ≠ 0 then
      some ⟨bk.pc, trapping flags, tswMode bk.tsw, BitVec.ofNat 4 (tswMask bk.tsw)⟩ else none
  let t := s.modBank c k (fun b => (b.addFlags flags).addFpt r)
  if taken then jumpTo t (relTarget bk.pc disp.toInt) (cost + 2) else finish t cost

/-- DFCB (R303). -/
def execDfcb (c : CoreId) (a b : Reg) (cond : Fin 8) (disp : BitVec 11) (s : State) : Res :=
  issue c (fun s k => do
    let x ← readReg s c k a
    let y ← readReg s c k b
    checkOpnds [⟨2, dffTags, x⟩, ⟨3, dffTags, y⟩]
    let r := fcond cond.val 10 (dffOf x) (dffOf y)
    fcompare c r.1 r.2 disp 3 s k) s

/-- A B64 instruction of two operands. -/
def bf2 (f : Nat → Fl → Fl → FlRes) (latency : Nat) (c : CoreId) (d a b : Reg) (s : State) (k : BankId) : Act := do
  let x ← readReg s c k a
  let y ← readReg s c k b
  destReg s c k d
  checkOpnds [⟨2, [tB64], x⟩, ⟨3, [tB64], y⟩]
  let r := f (tswBrm (s.bank c k).tsw) (b64Of x.val) (b64Of y.val)
  floatDone s c k d (b64Val r.1) r.2 latency

/-- A B64 instruction of one operand. -/
def bf1 (f : Nat → Fl → FlRes) (latency : Nat) (c : CoreId) (d a : Reg) (s : State) (k : BankId) : Act := do
  let x ← readReg s c k a
  destReg s c k d
  checkOpnds [⟨2, [tB64], x⟩]
  let r := f (tswBrm (s.bank c k).tsw) (b64Of x.val)
  floatDone s c k d (b64Val r.1) r.2 latency

/-- BFADD (R305). -/
def execBfadd (c : CoreId) (d a b : Reg) (s : State) : Res := issue c (bf2 bfadd 4 c d a b) s
/-- BFSUB (R305). -/
def execBfsub (c : CoreId) (d a b : Reg) (s : State) : Res := issue c (bf2 bfsub 4 c d a b) s
/-- BFMUL (R305). -/
def execBfmul (c : CoreId) (d a b : Reg) (s : State) : Res := issue c (bf2 bfmul 4 c d a b) s
/-- BFDIV (R305). -/
def execBfdiv (c : CoreId) (d a b : Reg) (s : State) : Res := issue c (bf2 bfdiv 20 c d a b) s
/-- BFSQRT (R305). -/
def execBfsqrt (c : CoreId) (d a : Reg) (s : State) : Res := issue c (bf1 bfsqrt 22 c d a) s
/-- BFRINT (R305). -/
def execBfrint (c : CoreId) (d a : Reg) (s : State) : Res := issue c (bf1 bfrint 3 c d a) s

/-- A payload with its B64 sign bit flipped or cleared: nothing else changes (07 R305). -/
def b64Flip (v : Payload) : Payload := v ^^^ 0x8000000000000000
def b64Clear (v : Payload) : Payload := v &&& 0x7FFFFFFFFFFFFFFF

/-- BFNEG and BFABS. -/
def bfSign (f : Payload → Payload) (c : CoreId) (d a : Reg) (s : State) (k : BankId) : Act := do
  let x ← readReg s c k a
  destReg s c k d
  checkOpnds [⟨2, [tB64], x⟩]
  floatDone s c k d ⟨tB64, f x.val⟩ 0 1

/-- BFNEG (R305). -/
def execBfneg (c : CoreId) (d a : Reg) (s : State) : Res := issue c (bfSign b64Flip c d a) s
/-- BFABS (R305). -/
def execBfabs (c : CoreId) (d a : Reg) (s : State) : Res := issue c (bfSign b64Clear c d a) s

/-- BFSCB (R305). -/
def execBfscb (c : CoreId) (d a b : Reg) (s : State) : Res :=
  issue c (fun s k => do
    let x ← readReg s c k a
    let y ← readReg s c k b
    destReg s c k d
    checkOpnds [⟨2, [tB64], x⟩, ⟨3, [tBIN], y⟩]
    let n ← scaleBy y
    let r := bfscb (tswBrm (s.bank c k).tsw) (b64Of x.val) n
    floatDone s c k d (b64Val r.1) r.2 3) s

/-- BFFMA (R305). -/
def execBffma (c : CoreId) (d a b : Reg) (s : State) : Res :=
  issue c (fun s k => do
    let z ← readReg s c k d
    let x ← readReg s c k a
    let y ← readReg s c k b
    checkOpnds [⟨1, [tB64], z⟩, ⟨2, [tB64], x⟩, ⟨3, [tB64], y⟩]
    let r := bffma (tswBrm (s.bank c k).tsw) (b64Of x.val) (b64Of y.val) (b64Of z.val)
    floatDone s c k d (b64Val r.1) r.2 5) s

/-- BFCB (R303, R305). -/
def execBfcb (c : CoreId) (a b : Reg) (cond : Fin 8) (disp : BitVec 11) (s : State) : Res :=
  issue c (fun s k => do
    let x ← readReg s c k a
    let y ← readReg s c k b
    checkOpnds [⟨2, [tB64], x⟩, ⟨3, [tB64], y⟩]
    let r := fcond cond.val 2 (b64Of x.val) (b64Of y.val)
    fcompare c r.1 r.2 disp 2 s k) s

end Sys2Proof.Machine
end

