-- ==== Sys2Proof/Machine/Strings.lean ====
section
/-! DEFINITION. String instructions (08 R318 to R350). A long form runs one step per command; PC stays on it until its end
condition holds (R335, R336). -/

namespace Sys2Proof.Machine

/-! ### Short forms -/

/-- A short form's operand with its base checked for its tag: base register, displacement, length. -/
structure ShortOpnd where
  base : TVal
  disp : Nat
  n    : Nat

/-- Protection of a short-form operand. -/
def ShortOpnd.check (o : ShortOpnd) (s : State) (c : CoreId) (k : BankId) (acc : Acc) : Except Trap Nat :=
  s.checkRange c (mkAccess (s.bank c k) o.base o.disp acc) o.n

/-- The bases of a short form (08 R325): length2 must be zero. -/
def shortBases (s : State) (c : CoreId) (k : BankId) (f : FormF) : Except Trap (TVal × TVal) := do
  need (f.len2 == 0) riTrap
  let b1 ← readReg s c k f.base1
  let b2 ← readReg s c k f.base2
  checkOpnds [baseOk 1 b1, baseOk 2 b2]
  return (b1, b2)

/-- MOVS (R328). -/
def execMovs (c : CoreId) (f : FormF) (m : Meets) (s : State) : Res :=
  issueW c 2 (interruptible m true c (fun s k => do
    let (b1, b2) ← shortBases s c k f
    let n := opLen1 f
    let a1 ← ShortOpnd.check ⟨b1, f.disp1.toNat, n⟩ s c k .store
    let a2 ← ShortOpnd.check ⟨b2, f.disp2.toNat, n⟩ s c k .load
    let s ← s.readMem c k m.errs [⟨a1, n, 4, none⟩, ⟨a2, n, 5, some [tRAW]⟩]
    wrote a1 n (finish (s.setOctets c a1 (s.octets c a2 n)) (3 + cdiv n 16 + accessCost a2 n + accessCost a1 n)))) s

/-- Octets compared as unsigned numbers, the first most significant (08 R326). -/
def cmpOctets : Octets → Octets → Ordering
  | a :: r, b :: t => if a = b then cmpOctets r t else if a.toNat < b.toNat then .lt else .gt
  | _, _ => .eq

/-- CMPS (R326). -/
def execCmps (c : CoreId) (f : FormF) (m : Meets) (s : State) : Res :=
  issueW c 2 (interruptible m true c (fun s k => do
    let (b1, b2) ← shortBases s c k f
    let n := opLen1 f
    let a1 ← ShortOpnd.check ⟨b1, f.disp1.toNat, n⟩ s c k .load
    let a2 ← ShortOpnd.check ⟨b2, f.disp2.toNat, n⟩ s c k .load
    let s ← s.readMem c k m.errs [⟨a1, n, 4, some [tRAW]⟩, ⟨a2, n, 5, some [tRAW]⟩]
    finish (s.setBankCc c k (ccOfOrd (cmpOctets (s.octets c a1 n) (s.octets c a2 n))))
      (3 + cdiv n 16 + accessCost a1 n + accessCost a2 n))) s

/-- Octets translated through a table. -/
def translate (table l : Octets) : Octets := l.map (fun x => table.getD x.toNat 0)

/-- XLTS (R329). -/
def execXlts (c : CoreId) (f : FormF) (m : Meets) (s : State) : Res :=
  issueW c 2 (interruptible m true c (fun s k => do
    let (b1, b2) ← shortBases s c k f
    let n := opLen1 f
    let a1 ← s.checkBoth c (s.bank c k) b1 f.disp1.toNat n
    let a2 ← ShortOpnd.check ⟨b2, f.disp2.toNat, 256⟩ s c k .load
    let s ← s.readMem c k m.errs [⟨a1, n, 4, some [tRAW]⟩, ⟨a2, 256, 5, some [tRAW]⟩]
    wrote a1 n (finish (s.setOctets c a1 (translate (s.octets c a2 256) (s.octets c a1 n)))
      (4 + cdiv n 8 + accessCost a2 256 + 2 * accessCost a1 n)))) s

/-- FILS (R326). -/
def execFils (c : CoreId) (f : FormF) (m : Meets) (s : State) : Res :=
  issueW c 2 (interruptible m true c (fun s k => do
    let (b1, b2) ← shortBases s c k f
    let n := opLen1 f
    let a1 ← ShortOpnd.check ⟨b1, f.disp1.toNat, n⟩ s c k .store
    let a2 ← ShortOpnd.check ⟨b2, f.disp2.toNat, 1⟩ s c k .load
    let s ← s.readMem c k m.errs [⟨a1, n, 4, none⟩, ⟨a2, 1, 5, some [tRAW]⟩]
    wrote a1 n (finish (s.setOctets c a1 (List.replicate n (s.byte c a2)))
      (3 + cdiv n 16 + accessCost a2 1 + accessCost a1 n)))) s

/-! ### Long forms: registers (08 R330 to R334, R337) -/

/-- The longest string. -/
def maxLong : Nat := 67108864

/-- A length register's value. -/
def longLen (x : TVal) : Except Trap Nat := do
  need (x.val.toNat ≤ maxLong) riTrap
  return x.val.toNat

/-- An address register against the octets still to be reached (08 R333, R334). -/
def longAddr (x : TVal) (n : Nat) (acc : Acc) : Except Trap Unit :=
  if x.tag = tREF then do
    need (n ≤ refLen x.val) (protTrap 3 (refBase x.val) acc.info)
    need (if acc = .store then refWrite x.val else refRead x.val) (protTrap 4 (refBase x.val) acc.info)
  else need (x.val.toNat + n ≤ 2 ^ 32) (protTrap 2 (x.val.toNat % 2 ^ 32) acc.info)

/-- Where an address register points. -/
def addrOf (x : TVal) : Nat := if x.tag = tREF then refBase x.val else x.val.toNat

/-- An address register moved past n octets (08 R337). -/
def advanceAddr (x : TVal) (n : Nat) : TVal :=
  if x.tag = tREF then ⟨tREF, withRange x.val (refBase x.val + n) (refLen x.val - n)⟩
  else ⟨x.tag, x.val + BitVec.ofNat 128 n⟩

/-- An address register of a descending step: a REF loses n octets of length (08 R343). -/
def shortenAddr (x : TVal) (n : Nat) : TVal :=
  if x.tag = tREF then ⟨tREF, withRange x.val (refBase x.val) (refLen x.val - n)⟩ else x

/-- A step's octets of an operand, checked; none of them where n is 0. -/
def stepRange (s : State) (c : CoreId) (k : BankId) (x : TVal) (off n : Nat) (acc : Acc) : Except Trap Nat :=
  if n = 0 then .ok (addrOf x + off) else s.checkRange c (mkAccess (s.bank c k) x off acc) n

/-- The cycles of an operand a step touches. -/
def stepCost (addr n : Nat) : Nat := if n = 0 then 0 else accessCost addr n

/-- A pair read: its address and length registers. -/
def longPair (s : State) (c : CoreId) (k : BankId) (r : Reg) : Except Trap (TVal × TVal) := do
  let x ← readReg s c k r
  let n ← readReg s c k (nextReg r)
  return (x, n)

/-- A pair written back. -/
def setPair (s : State) (c : CoreId) (k : BankId) (r : Reg) (x : TVal) (n : Nat) : State :=
  (s.setReg c k r x).setReg c k (nextReg r) (binNat n)

/-- Registers named by a long form are distinct and its pairs even (08 R331). -/
def longFields (pairs singles : List Reg) : Except Trap Unit := do
  need (pairs.all (fun r => r.val % 2 == 0)) riTrap
  let named := pairs.flatMap (fun r => [r, nextReg r]) ++ singles
  need (named.length == named.eraseDups.length) riTrap

/-- An octet operand in a register. -/
def octetReg (x : TVal) : Except Trap Byte := do
  need (x.val.toNat < 256) riTrap
  return x.val.setWidth 8

/-- A step's end: the instruction ends with its CC, or stays at the interruption point. -/
def stepEnd (c : CoreId) (k : BankId) (s : State) (cc : Option Nat) (ended : Bool) (cost : Nat) : Act :=
  if ended then finish (match cc with | some v => s.setBankCc c k v | none => s) cost else settled s cost

/-! ### MOVL -/

/-- MOVL (R342, R343). -/
def actMovl (c : CoreId) (d a b : Reg) (errs : Errs) (s : State) (k : BankId) : Act := do
  longFields [d, a] [b]
  let (x1, n1) ← longPair s c k d
  let (x2, n2) ← longPair s c k a
  let p ← readReg s c k b
  checkOpnds [baseOk 1 x1, ⟨1, [tBIN], n1⟩, baseOk 2 x2, ⟨2, [tBIN], n2⟩, ⟨3, [tBIN], p⟩]
  let l1 ← longLen n1
  let l2 ← longLen n2
  let pad ← octetReg p
  longAddr x1 l1 .store
  longAddr x2 l2 .load
  let cc := fun (r : Nat) => some (if r = 0 then 0 else 1)
  if l1 = 0 then stepEnd c k s (cc l2) true 6
  else if l2 ≠ 0 ∧ addrOf x1 > addrOf x2 ∧ addrOf x1 < addrOf x2 + min l1 l2 then
    if l1 > l2 then
      let n := min 256 (l1 - l2)
      let a1 ← stepRange s c k x1 (l1 - n) n .store
      let s ← s.readMem c k errs [⟨a1, n, 4, none⟩]
      let t := setPair (s.setOctets c a1 (List.replicate n pad)) c k d (shortenAddr x1 n) (l1 - n)
      wrote a1 n (stepEnd c k t (cc l2) (l1 - n == 0) (6 + cdiv n 16 + stepCost a1 n))
    else
      let n := min 256 l1
      let a1 ← stepRange s c k x1 (l1 - n) n .store
      let a2 ← stepRange s c k x2 (l1 - n) n .load
      let s ← s.readMem c k errs [⟨a1, n, 4, none⟩, ⟨a2, n, 5, some [tRAW]⟩]
      let t := setPair (s.setOctets c a1 (s.octets c a2 n)) c k d (shortenAddr x1 n) (l1 - n)
      let u := setPair t c k a (shortenAddr x2 n) (l2 - n)
      wrote a1 n (stepEnd c k u (cc (l2 - n)) (l1 - n == 0) (6 + cdiv n 16 + stepCost a2 n + stepCost a1 n))
  else
    let n := min 256 l1
    let m := min n l2
    let a1 ← stepRange s c k x1 0 n .store
    let a2 ← stepRange s c k x2 0 m .load
    let s ← s.readMem c k errs [⟨a1, n, 4, none⟩, ⟨a2, m, 5, some [tRAW]⟩]
    let t := setPair (s.setOctets c a1 (s.octets c a2 m ++ List.replicate (n - m) pad)) c k d (advanceAddr x1 n) (l1 - n)
    let u := setPair t c k a (advanceAddr x2 m) (l2 - m)
    wrote a1 n (stepEnd c k u (cc (l2 - m)) (l1 - n == 0) (6 + cdiv n 16 + stepCost a2 m + stepCost a1 n))

/-- MOVL (R342). -/
def execMovl (c : CoreId) (d a b : Reg) (m : Meets) (s : State) : Res :=
  issue c (interruptible m true c (actMovl c d a b m.errs)) s

/-! ### CMPL, XLTL, XSCL, FIND -/

/-- The index and order of the first difference. -/
def firstDiff : Nat → Octets → Octets → Option (Nat × Ordering)
  | i, a :: r, b :: t => if a = b then firstDiff (i + 1) r t else some (i, if a.toNat < b.toNat then .lt else .gt)
  | _, _, _ => none

/-- CMPL (R344). -/
def actCmpl (c : CoreId) (d a b : Reg) (errs : Errs) (s : State) (k : BankId) : Act := do
  longFields [d, a] [b]
  let (x1, n1) ← longPair s c k d
  let (x2, n2) ← longPair s c k a
  let p ← readReg s c k b
  checkOpnds [baseOk 1 x1, ⟨1, [tBIN], n1⟩, baseOk 2 x2, ⟨2, [tBIN], n2⟩, ⟨3, [tBIN], p⟩]
  let l1 ← longLen n1
  let l2 ← longLen n2
  let pad ← octetReg p
  longAddr x1 l1 .load
  longAddr x2 l2 .load
  if l1 = 0 ∧ l2 = 0 then stepEnd c k s (some 0) true 6
  else
    let n := min 256 (max l1 l2)
    let m1 := min n l1
    let m2 := min n l2
    let a1 ← stepRange s c k x1 0 m1 .load
    let a2 ← stepRange s c k x2 0 m2 .load
    let s ← s.readMem c k errs [⟨a1, m1, 4, some [tRAW]⟩, ⟨a2, m2, 5, some [tRAW]⟩]
    let cost := 6 + cdiv n 16 + stepCost a1 m1 + stepCost a2 m2
    let move := fun (i : Nat) =>
      setPair (setPair s c k d (advanceAddr x1 (min i l1)) (l1 - i)) c k a (advanceAddr x2 (min i l2)) (l2 - i)
    match firstDiff 0 (s.octets c a1 m1 ++ List.replicate (n - m1) pad) (s.octets c a2 m2 ++ List.replicate (n - m2) pad) with
    | some (i, o) => stepEnd c k (move i) (some (ccOfOrd o)) true cost
    | none => stepEnd c k (move n) (some 0) (l1 - n == 0 && l2 - n == 0) cost

/-- CMPL (R344). -/
def execCmpl (c : CoreId) (d a b : Reg) (m : Meets) (s : State) : Res :=
  issue c (interruptible m true c (actCmpl c d a b m.errs)) s

/-- XLTL (R345). -/
def actXltl (c : CoreId) (d b : Reg) (errs : Errs) (s : State) (k : BankId) : Act := do
  longFields [d] [b]
  let (x1, n1) ← longPair s c k d
  let tb ← readReg s c k b
  checkOpnds [baseOk 1 x1, ⟨1, [tBIN], n1⟩, baseOk 3 tb]
  let l1 ← longLen n1
  longAddr x1 l1 .load
  longAddr x1 l1 .store
  longAddr tb 256 .load
  if l1 = 0 then stepEnd c k s none true 6
  else
    let n := min 256 l1
    let a1 ← s.checkBoth c (s.bank c k) x1 0 n
    let a2 ← stepRange s c k tb 0 256 .load
    let s ← s.readMem c k errs [⟨a1, n, 4, some [tRAW]⟩, ⟨a2, 256, 5, some [tRAW]⟩]
    let t := setPair (s.setOctets c a1 (translate (s.octets c a2 256) (s.octets c a1 n))) c k d (advanceAddr x1 n) (l1 - n)
    wrote a1 n (stepEnd c k t none (l1 - n == 0) (6 + cdiv n 8 + stepCost a2 256 + 2 * stepCost a1 n))

/-- XLTL (R345). -/
def execXltl (c : CoreId) (d b : Reg) (m : Meets) (s : State) : Res :=
  issue c (interruptible m true c (actXltl c d b m.errs)) s

/-- XSCL (R346). -/
def actXscl (c : CoreId) (d a b : Reg) (errs : Errs) (s : State) (k : BankId) : Act := do
  longFields [d] [a, b]
  let (x1, n1) ← longPair s c k d
  let m ← readReg s c k a
  let tb ← readReg s c k b
  checkOpnds [baseOk 1 x1, ⟨1, [tBIN], n1⟩, ⟨2, [tBIN], m⟩, baseOk 3 tb]
  let l1 ← longLen n1
  need (m.val.toNat < 65536) riTrap
  longAddr x1 l1 .load
  longAddr tb 256 .load
  if l1 = 0 then stepEnd c k s (some 0) true 6
  else
    let n := min 256 l1
    let a1 ← stepRange s c k x1 0 n .load
    let a2 ← stepRange s c k tb 0 256 .load
    let s ← s.readMem c k errs [⟨a1, n, 4, some [tRAW]⟩, ⟨a2, 256, 5, some [tRAW]⟩]
    let mask : Byte := m.val.setWidth 8
    let classes := translate (s.octets c a2 256) (s.octets c a1 n)
    let cost := 6 + cdiv n 8 + stepCost a2 256 + stepCost a1 n
    match classes.findIdx? (fun q => q &&& mask != 0) with
    | some i =>
      let q := classes.getD i 0
      let t := (setPair s c k d (advanceAddr x1 i) (l1 - i)).setReg c k a (binNat (mask.toNat + 256 * q.toNat))
      stepEnd c k t (some 2) true cost
    | none => stepEnd c k (setPair s c k d (advanceAddr x1 n) (l1 - n)) (some 0) (l1 - n == 0) cost

/-- XSCL (R346). -/
def execXscl (c : CoreId) (d a b : Reg) (m : Meets) (s : State) : Res :=
  issue c (interruptible m true c (actXscl c d a b m.errs)) s

/-- FIND (R347). -/
def actFind (c : CoreId) (d b : Reg) (errs : Errs) (s : State) (k : BankId) : Act := do
  longFields [d] [b]
  let (x1, n1) ← longPair s c k d
  let t ← readReg s c k b
  checkOpnds [baseOk 1 x1, ⟨1, [tBIN], n1⟩, ⟨3, [tBIN], t⟩]
  let l1 ← longLen n1
  let target ← octetReg t
  longAddr x1 l1 .load
  if l1 = 0 then stepEnd c k s (some 2) true 4
  else
    let n := min 256 l1
    let a1 ← stepRange s c k x1 0 n .load
    let s ← s.readMem c k errs [⟨a1, n, 4, some [tRAW]⟩]
    let cost := 4 + cdiv n 16 + stepCost a1 n
    match (s.octets c a1 n).findIdx? (fun q => q == target) with
    | some i => stepEnd c k (setPair s c k d (advanceAddr x1 i) (l1 - i)) (some 0) true cost
    | none => stepEnd c k (setPair s c k d (advanceAddr x1 n) (l1 - n)) (some 2) (l1 - n == 0) cost

/-- FIND (R347). -/
def execFind (c : CoreId) (d b : Reg) (m : Meets) (s : State) : Res :=
  issue c (interruptible m true c (actFind c d b m.errs)) s

end Sys2Proof.Machine
end

