-- ==== Sys2Proof/Machine/Edit.lean ====
section
/-! DEFINITION. EDIT (08 R351 to R360): one field per command. -/

namespace Sys2Proof.Machine

/-- The edit control block (08 R351). -/
structure Ecb where
  fill : Byte
  sflt : Bool
  cur  : Octets
  pos  : Octets
  neg  : Octets

/-- The control block of 64 octets; none where it takes RI (08 R352). -/
def ecbOf (o : Octets) : Option Ecb :=
  let fl := fieldAt o 1 1; let cl := fieldAt o 2 1; let pl := fieldAt o 3 1; let nl := fieldAt o 4 1
  if fl > 1 ∨ cl > 8 ∨ pl > 8 ∨ nl > 8 ∨ !zeroAt o 5 3 ∨ !zeroAt o 32 32 then none
  else some ⟨o.getD 0 0, fl == 1, slice o 8 cl, slice o 16 pl, slice o 24 nl⟩

/-- The pattern octets of the field at the front: through the first FE, or to the end (08 R354). -/
def fieldLength (p : Octets) : Nat :=
  match p.findIdx? (fun x => x == 0x12) with
  | some i => i + 1
  | none => p.length

/-- Whether a pattern octet takes a digit. -/
def takesDigit (p : Byte) : Bool := p == 0x10 || p == 0x11

/-- A position as R353 writes it: the octet, and whether it is a DZ, FL or message position written as FILL. -/
structure EdPos where
  out   : Byte
  blank : Bool

/-- The positions of a field before the float text (08 R353): the pattern, the digits left, whether significance is on,
the SG and CU runs. Answers the positions and the index of the significant one. -/
def edPositions (e : Ecb) (sign : Octets) : Octets → List Nat → Bool → Nat → Nat → Nat → List EdPos × Option Nat
  | [], _, _, _, _, _ => ([], none)
  | p :: r, ds, sig, i, sg, cu =>
    if p = 0x10 ∨ p = 0x11 then
      let d := ds.headD 0
      let on := sig || p == 0x11 || d != 0
      let (l, sp) := edPositions e sign r (ds.drop 1) on (i + 1) 0 0
      (⟨if on then octet (0x30 + d) else e.fill, !on⟩ :: l, if on && !sig then some i else sp)
    else if p = 0x14 then
      let (l, sp) := edPositions e sign r ds sig (i + 1) (sg + 1) 0
      (⟨sign.getD sg e.fill, false⟩ :: l, sp)
    else if p = 0x15 then
      let (l, sp) := edPositions e sign r ds sig (i + 1) 0 (cu + 1)
      (⟨e.cur.getD cu e.fill, false⟩ :: l, sp)
    else if p = 0x12 ∨ p = 0x13 ∨ p = 0x16 then
      let (l, sp) := edPositions e sign r ds sig (i + 1) 0 0
      (⟨e.fill, p == 0x13⟩ :: l, sp)
    else
      let (l, sp) := edPositions e sign r ds sig (i + 1) 0 0
      (⟨if sig then p else e.fill, !sig⟩ :: l, sp)

/-- The float text written into the T positions before the significant one; none where one of them cannot take it (08
R357). -/
def placeFloat (l : List EdPos) (t : Octets) (firstFl sp : Nat) : Option Octets :=
  let out := l.map (·.out)
  if sp < t.length then none
  else
    let st := sp - t.length
    if st < firstFl ∨ ((l.drop st).take t.length).any (fun p => !p.blank) then none
    else some (putAt out st t)

/-- The result of a field (08 R353 to R358): the octets, or none where the float text does not fit. -/
def editField (e : Ecb) (pat : Octets) (digits : List Nat) (neg zero : Bool) : Option Octets :=
  let sign := if neg then e.neg else e.pos
  let (l, sp) := edPositions e sign pat digits false 0 0 0
  if zero ∧ pat.contains 0x16 then some (List.replicate pat.length e.fill)
  else
    let t := (if e.sflt then sign else []) ++ e.cur
    match pat.findIdx? (fun p => p == 0x13), sp with
    | some fl, some i => if t = [] then some (l.map (·.out)) else placeFloat l t fl i
    | _, _ => some (l.map (·.out))

/-- EDIT (R358): the registers are checked, then one field is edited; the storage operands in the order of the registers that
name them (04 R157). The INFO numbers of a third and fourth memory operand
are free values, and so is the CC where no field is edited (log entry 24). -/
def actEdit (c : CoreId) (d a b : Reg) (errs : Errs) (s : State) (k : BankId) : Act := do
  longFields [d, a] [b]
  let (xr, nr) ← longPair s c k d
  let (xp, xs) ← longPair s c k a
  let xe ← readReg s c k b
  checkOpnds [baseOk 1 xr, ⟨1, [tBIN], nr⟩, baseOk 2 xp, baseOk 2 xs, baseOk 3 xe]
  let n ← longLen nr
  longAddr xr n .store
  longAddr xp n .load
  longAddr xe 64 .load
  if n = 0 then stepEnd c k (s.useFree 1) (some (Config.freeValue 80 s.freeCtr % 4)) true 12
  else
    let pAll := s.octets c (addrOf xp) (min n 257)
    let fl := fieldLength pAll
    let p := min fl 256
    let ap ← stepRange s c k xp 0 p .load
    let pat := pAll.take p
    let dg := (pat.filter takesDigit).length
    let ls := if dg = 0 then 0 else dg / 2 + 1
    longAddr xs ls .load
    let ar ← stepRange s c k xr 0 p .store
    let ae ← stepRange s c k xe 0 64 .load
    let as_ ← stepRange s c k xs 0 ls .load
    need (ae % 16 == 0) (alignTrap 1 ae)
    let other := Config.freeValue 81 s.freeCtr % 65536
    let s ← s.readMem c k errs ([⟨ar, p, 4, none⟩, ⟨ap, p, 5, some [tRAW]⟩]
      ++ (if ls = 0 then [] else [⟨as_, ls, other, some [tRAW]⟩]) ++ [⟨ae, 64, other, some [tRAW]⟩])
    faultOn c k s do
    need (fl ≤ 256 && dg ≤ 127) riTrap
    match ecbOf (s.octets c ae 64) with
    | none => .error riTrap
    | some e =>
      let v ← if ls = 0 then .ok (0 : Int) else liftDigits (packedOf (s.octets c as_ ls)) as_ other
      let w := 2 * (dg / 2) + 1
      let ds := if ls = 0 then [] else digitList w v.natAbs
      need (!(ls != 0 && dg % 2 == 0 && ds.headD 0 != 0)) (dtrap (.ovf 3))
      match editField e pat (ds.drop (w - dg)) (decide (v < 0)) (v == 0) with
      | none => .error (dtrap (.ovf 1))
      | some o =>
        let t := setPair (s.setOctets c ar o) c k d (advanceAddr xr p) (n - p)
        let u := (t.setReg c k a (advanceAddr xp p)).setReg c k (nextReg a) (advanceAddr xs ls)
        wrote ar p (stepEnd c k u (some (ccOfInt v)) (n - p == 0)
          (12 + p + stepCost ae 64 + stepCost ap p + stepCost as_ ls + stepCost ar p))

/-- EDIT (R358). -/
def execEdit (c : CoreId) (d a b : Reg) (m : Meets) (s : State) : Res :=
  issue c (interruptible m true c (actEdit c d a b m.errs)) s

end Sys2Proof.Machine
end

