-- ==== Sys2Proof/Machine/SetupRegs.lean ====
section
/-! DEFINITION. Writes of the setup registers: what is refused and why, the settings, ring 0's registers, status and notice
bits, the MSI-X table, the latches and the host reset (02 R33, R34; 03 R84, R111, R124, R125; 21 R801 to R823). -/

namespace Sys2Proof.Machine

/-! ### Refusals (21 R802, R806) -/

/-- The reasons of R802. -/
abbrev rsRESERVED : Nat := 1
abbrev rsRANGE : Nat := 2
abbrev rsSTATE : Nat := 3
abbrev rsWIDTH : Nat := 4
abbrev rsKEY : Nat := 5

/-- A write refused (R806): SETUP_STATUS, and the notice SETUP_REJECT. -/
def State.reject (s : State) (reason off : Nat) : State :=
  ({ s with host := { s.host with setup := ⟨true, satInc s.host.setup.count 65535, reason, off⟩ } }).raiseNotice 4

/-- What a write of a register does: the new state, or the reason of its refusal. -/
abbrev RegWrite := State → W64 → Except Nat State

/-- A write of BAR0 at an offset (R801, R802): 8 octets wide and aligned, applied whole or refused whole; no register is
assigned to an offset that is no multiple of 8. BAR0 answers in P0 to P2. -/
def regWrite (off width : Nat) (v : W64) (f : RegWrite) (s : State) : Res :=
  if !s.powered then .next s
  else if width ≠ 8 then .next (s.reject rsWIDTH off)
  else if off % 8 ≠ 0 then .next (s.reject rsRESERVED off)
  else match f s v with
    | .ok t => .next t
    | .error n => .next (s.reject n off)

/-- Whether a value holds a 1 outside the listed fields (lowest bit, width): R802 reason RESERVED. -/
def reservedBits (v : W64) (fields : List (Nat × Nat)) : Bool :=
  let named := (fields.map (fun (lo, w) => (2 ^ w - 1) * 2 ^ lo)).sum
  (v &&& ~~~ (BitVec.ofNat 64 named)) != 0

/-- A register whose fields are all RO (R9, R802): a write changes nothing. -/
def roReg (fields : List (Nat × Nat)) : RegWrite := fun s v => if reservedBits v fields then .error rsRESERVED else .ok s

/-! ### Span and admission settings (02 R33, R34, R52; 21 R809, R810, R812) -/

/-- Whether SPAN_CFG.LEN may be written: before the first span after boot, or in P2 (R33). -/
def State.lenOpen (s : State) : Bool := !s.t.run || s.power.st == .p2

/-- A write of SPAN_CFG. -/
def writeSpanCfg : RegWrite := fun s v =>
  let len := getField v 0 6
  let cur := s.t.lenNext.getD s.t.k
  if reservedBits v [(0, 6), (8, 2)] ∨ len = 0 ∨ len > 40 then .error rsRESERVED
  else if len ≠ cur ∧ !s.lenOpen then .error rsSTATE
  else
    let s1 : State := { s with t := { s.t with syncNext := some (getField v 8 2) } }
    if len = cur then .ok s1
    else
      let d := AdmCfg.default len
      .ok { s1 with
        t := { s1.t with lenNext := some len }
        adm := { s1.adm with cfgNext :=
          { s1.adm.cfgNext with coreRsv := d.coreRsv, vecCap := d.vecCap, movCap := d.movCap, r0Core := 0 } } }

/-- A write of ADM_CFG0 to ADM_CFG2, checked against the k that will be in force (R810, R812). -/
def writeAdmCfg (n : Nat) : RegWrite := fun s v =>
  let k := s.t.lenNext.getD s.t.k
  let a := s.adm.cfgNext
  let put (b : AdmCfg) : Except Nat State := .ok { s with adm := { s.adm with cfgNext := b } }
  match n with
  | 0 =>
    let rsv := getField v 0 25; let cap := getField v 32 25
    if reservedBits v [(0, 25), (32, 25)] then .error rsRESERVED
    else if rsv < k * 8192 ∨ rsv > k * 125000 ∨ cap > k * 437500 then .error rsRANGE
    else put { a with coreRsv := rsv, vecCap := cap }
  | 1 =>
    let cap := getField v 0 30; let r0 := getField v 32 25
    if reservedBits v [(0, 30), (32, 25)] then .error rsRESERVED
    else if cap > k * 7000000 ∨ r0 > 16777216 ∨ cap < r0 then .error rsRANGE
    else put { a with movCap := cap, r0Mov := r0 }
  | _ =>
    let desc := getField v 0 9; let scr := getField v 16 9; let core := getField v 32 23
    if reservedBits v [(0, 9), (16, 9), (32, 23), (56, 6)] then .error rsRESERVED
    else if desc = 0 ∨ desc > 256 ∨ scr = 0 ∨ scr > 256 ∨ core > k * 200000 then .error rsRANGE
    else put { a with r0Desc := desc, r0Scr := scr, r0Core := core, r0CoreId := Fin.ofNat 64 (getField v 56 6) }

/-- SPAN_CFG_WRITE (R809; R33, R34, R810). -/
def execSpanCfgWrite (width : Nat) (v : W64) (s : State) : Res := regWrite 0x100 width v writeSpanCfg s

/-- ADM_CFG_WRITE (R812; R52, R810). -/
def execAdmCfgWrite (n : Fin 3) (width : Nat) (v : W64) (s : State) : Res :=
  regWrite (0x200 + 8 * n.val) width v (writeAdmCfg n.val) s

/-! ### Ring 0 (03 R84, R111, R120, R125; 21 R813, R814) -/

/-- The context of ring 0 from its registers. -/
def CtrlRegs.ctx (c : CtrlRegs) : RingCtx where
  subBase := c.sub &&& 0xFFFFFFFFFFFFF000
  cplBase := c.cpl &&& 0xFFFFFFFFFFFFF000
  subOrder := getField c.sub 0 5
  cplOrder := getField c.cpl 0 5
  pri := 0
  group := 0
  quota := 0
  msixVec := getField c.irq 0 11
  modCount := getField c.irq 16 16
  modTime := getField c.irq 32 16
  winBase := c.wbase
  winLimit := c.wlimit

/-- Whether EN may be set (R813, R814). -/
def CtrlRegs.ready (c : CtrlRegs) : Bool :=
  let x := c.ctx
  c.dbBase != 0 && !(c.wlimit < c.wbase) && x.subOrder != 0 && x.cplOrder != 0 && x.msixVec != 0 && x.modCount != 0 && x.modTime != 0

/-- Ring 0 with every count 0, POSTED too, and ACTIVE; it is first decided at the next sill (R111, R120, R814). -/
def State.renewRing0 (s : State) : State :=
  let t := s.renewRing 0 .active s.host.ctrl.ctx true
  { t with host := { t.host with posted := 0 } }

/-- A write of CTRL_RING (R111, R814). EN may also be cleared while ring 0 is FAULTED and quiet: R814 refuses a clear only where
it is not quiet (log entry 97). -/
def writeCtrlRing : RegWrite := fun s v =>
  let en := v.getLsbD 0; let rst := v.getLsbD 1
  if reservedBits v [(0, 2), (8, 4)] ∨ (rst ∧ en ≠ s.host.ctrl.en) then .error rsRESERVED
  else if rst then
    if s.host.ctrl.en ∧ (s.ring 0).st = .faulted ∧ s.quiet 0 then .ok s.renewRing0 else .error rsSTATE
  else if en = s.host.ctrl.en then .ok s
  else if en then
    if s.host.ctrl.ready then .ok ({ s with host := { s.host with ctrl := { s.host.ctrl with en := true } } }).renewRing0
    else .error rsSTATE
  else if s.quiet 0 then .ok { s with host := { s.host with ctrl := { s.host.ctrl with en := false } } }
  else .error rsSTATE

/-- CTRL_RING_ENABLE (R814). -/
def execCtrlRingEnable (width : Nat) (v : W64) (s : State) : Res := regWrite 0x328 width v writeCtrlRing s
/-- CTRL_RING_DISABLE (R814): ABSENT from the next sill. -/
def execCtrlRingDisable (width : Nat) (v : W64) (s : State) : Res := regWrite 0x328 width v writeCtrlRing s
/-- CTRL_RING_RESET (R111). -/
def execCtrlRingReset (width : Nat) (v : W64) (s : State) : Res := regWrite 0x328 width v writeCtrlRing s

/-- A register written only while EN is 0 (R814): its fields, whether its value lies in range, how it is stored. -/
def ring0Reg (fields : List (Nat × Nat)) (ok : W64 → Bool) (put : CtrlRegs → W64 → CtrlRegs) : RegWrite := fun s v =>
  if reservedBits v fields then .error rsRESERVED
  else if !ok v then .error rsRANGE
  else if s.host.ctrl.en then .error rsSTATE
  else .ok { s with host := { s.host with ctrl := put s.host.ctrl v } }

/-- An order field: 4 to 16, or 0 as at reset (R813). -/
def orderOk (v : W64) : Bool :=
  let n := getField v 0 5
  n == 0 || (4 ≤ n && n ≤ 16)

/-! ### Status registers -/

/-- SETUP_STATUS (R806): clearing REJECT clears COUNT. -/
def writeSetupStatus : RegWrite := fun s v =>
  if reservedBits v [(0, 20), (24, 4), (32, 16), (63, 1)] then .error rsRESERVED
  else if v.getLsbD 63 then .ok { s with host := { s.host with setup := { s.host.setup with reject := false, count := 0 } } }
  else .ok s

/-- SPAN_STATUS (R811): bits 32 and 16 clear their counts. -/
def writeSpanStatus : RegWrite := fun s v =>
  if reservedBits v [(0, 2), (16, 32)] then .error rsRESERVED
  else .ok { s with host := { s.host with
    lateCpl := if v.getLsbD 32 then 0 else s.host.lateCpl, lateDb := if v.getLsbD 16 then 0 else s.host.lateDb } }

/-- HOST_NOTICE (R816). Once no notice is left, vector 0's pending bit is cleared (PCIe's rule for a vector whose cause has been
served while it was masked, 03 R124; log entry 9). -/
def writeHostNotice : RegWrite := fun s v =>
  if reservedBits v [(0, 6)] then .error rsRESERVED
  else
    let left := s.host.notice &&& ~~~ (v.setWidth 6)
    let e := s.host.msix.get MsixEntry.zero 0
    .ok { s with host := { s.host with
      notice := left
      msix := if left = 0 ∧ e.pending then s.host.msix.set MsixEntry.zero 0 { e with pending := false } else s.host.msix } }

/-- RING_FAULT (R817): clearing VALID clears MORE. -/
def writeRingFault : RegWrite := fun s v =>
  if reservedBits v [(0, 12), (16, 4), (32, 16), (63, 1)] then .error rsRESERVED
  else if v.getLsbD 63 then .ok { s with host := { s.host with ringFault := { s.host.ringFault with valid := false, more := 0 } } }
  else .ok s

/-- MEM_CFG (R818). -/
def writeMemCfg : RegWrite := fun s v =>
  let thr := getField v 0 16; let h := getField v 16 8
  if reservedBits v [(0, 24)] then .error rsRESERVED
  else if thr = 0 ∨ h = 0 ∨ h > 168 then .error rsRANGE
  else .ok { s with svc := { s.svc with corrThr := thr, pscrubH := h } }

/-- MBX_STATUS (R821). -/
def writeMbxStatus : RegWrite := fun s v =>
  if reservedBits v [(0, 10)] then .error rsRESERVED
  else if v.getLsbD 9 then .ok { s with host := { s.host with mbx := { s.host.mbx with done := false } } }
  else .ok s

/-- Octets of the mailbox buffer written (R821, R822). -/
def bufPut (m : SMap Byte) (at_ : Nat) (l : Octets) : SMap Byte :=
  l.zipIdx.foldl (fun b (x, i) => b.set 0 (at_ + i) x) m

/-- A write of the mailbox buffer. -/
def writeBuffer (off : Nat) : RegWrite := fun s v =>
  if s.host.mbx.busy then .error rsSTATE
  else .ok { s with host := { s.host with mbx := { s.host.mbx with buf := bufPut s.host.mbx.buf (off - 0x20000) (leBytes 8 v.toNat) } } }

/-- What a write of each register without a command of its own does (R801, R802, R804 to R823). R819 gives the progress readouts
no access code: they are taken as RO, their 4 trailing zero octets as reserved (log entry 98). -/
def setupTable (off : Nat) : RegWrite :=
  if 0x700 ≤ off ∧ off < 0x750 then roReg (if off % 16 = 0 then [(0, 64)] else [(0, 32)])
  else if 0x20000 ≤ off ∧ off < 0x40000 then writeBuffer off
  else if 0x40080 ≤ off ∧ off < 0x40100 then roReg [(0, 64)]
  else match off with
    | 0x00000 => roReg [(0, 48)]
    | 0x00008 => roReg [(0, 64)]
    | 0x00010 => roReg [(0, 33)]
    | 0x00018 => roReg [(0, 20), (24, 2), (32, 7)]
    | 0x00100 => writeSpanCfg
    | 0x00108 => writeSpanStatus
    | 0x00110 => roReg [(0, 50)]
    | 0x00200 => writeAdmCfg 0
    | 0x00208 => writeAdmCfg 1
    | 0x00210 => writeAdmCfg 2
    | 0x00300 => ring0Reg [(0, 5), (12, 52)] orderOk (fun c v => { c with sub := v })
    | 0x00308 => ring0Reg [(0, 5), (12, 52)] orderOk (fun c v => { c with cpl := v })
    | 0x00310 => ring0Reg [(0, 64)] (fun _ => true) (fun c v => { c with wbase := v })
    | 0x00318 => ring0Reg [(0, 64)] (fun _ => true) (fun c v => { c with wlimit := v })
    | 0x00320 => ring0Reg [(0, 11), (16, 32)] (fun v => getField v 16 16 ≤ 4096) (fun c v => { c with irq := v })
    | 0x00328 => writeCtrlRing
    | 0x00330 => roReg [(0, 64)]
    | 0x00400 => ring0Reg [(12, 52)] (fun _ => true) (fun c v => { c with dbBase := v })
    | 0x00500 => writeHostNotice
    | 0x00508 => writeRingFault
    | 0x00510 => writeSetupStatus
    | 0x00600 => writeMemCfg
    | 0x00608 => roReg [(0, 64)]
    | 0x00800 => roReg [(0, 64)]
    | 0x00808 => roReg [(0, 48)]
    | 0x10008 => writeMbxStatus
    | 0x40000 => fun s v => .ok { s with host := { s.host with trSeek := v } }
    | 0x40008 => roReg [(0, 64)]
    | 0x40010 => roReg [(0, 64)]
    | 0x40018 => roReg [(0, 64)]
    | _ => fun _ _ => .error rsRESERVED

/-! ### The MSI-X structures (03 R124; 21 R801, R805) -/

/-- An entry from its 16 octets. -/
def msixOf (o : Octets) (pending : Bool) : MsixEntry :=
  ⟨BitVec.ofNat 64 (fieldAt o 0 8), BitVec.ofNat 32 (fieldAt o 8 4), (o.getD 12 0).getLsbD 0, pending⟩

/-- A write in the MSI-X structures: 4 or 8 aligned octets of the table. A vector whose entry is unmasked by it sends its
pending message. Other widths, and the pending-bit array, take no effect (log entry 53). -/
def State.msixWrite (s : State) (off width : Nat) (v : W64) : State :=
  if (width ≠ 4 ∧ width ≠ 8) ∨ off % width ≠ 0 ∨ off ≥ 0x88000 then s
  else
    let n := (off - 0x80000) / 16
    let e := s.host.msix.get MsixEntry.zero n
    let o := putAt (msixOctets e) (off % 16) (leBytes width v.toNat)
    ({ s with host := { s.host with msix := s.host.msix.set MsixEntry.zero n (msixOf o e.pending) } }).sendPending n

/-! ### Reset, latches -/

/-- DEV_RESET (R808; 19 R736). A cold boot that still holds starts again. -/
def execDevReset (width : Nat) (v : W64) (env : BootEnv) (s : State) : Res :=
  if !s.powered then .next s
  else if width ≠ 8 then .next (s.reject rsWIDTH 0x20)
  else if reservedBits v [(0, 1), (32, 32)] then .next (s.reject rsRESERVED 0x20)
  else if getField v 32 32 ≠ 0x56535254 then .next (s.reject rsKEY 0x20)
  else if !v.getLsbD 0 then .next s
  else .next (if s.svc.stage = .waitEnv then s.resetBlocks.coldBoot s.svc.source env else s.warmReset .host env)

/-- PROGRESS_LATCH (R819): the first 8 octets are returned, the whole slot latched. -/
def execProgressLatch (slot : Fin 5) (s : State) : Res :=
  if !s.powered then .next s
  else
    let o := progressOctets s slot.val
    .next (({ s with host := { s.host with progress := s.host.progress.set slot.val o } }).reply (o.take 8))

/-- TR_ENTRY_READ (R823; 19 R759): a read of offset 0x4_0080. -/
def execTrEntryRead (s : State) : Res :=
  if !s.powered then .next s
  else
    let (o, seek) := trTake s s.host.trSeek
    .next (({ s with host := { s.host with trLatched := o, trSeek := seek } }).reply (o.take 8))

end Sys2Proof.Machine
end

