-- ==== Sys2Proof/Machine/Mailbox.lean ====
section
/-! DEFINITION. The service mailbox, and a write of any setup register (17 R667 to R673, R697; 18 R734, R735; 21 R801, R802, R821,
R822). -/

namespace Sys2Proof.Machine

/-! ### Messages (21 R821, R822) -/

/-- The input of a message: the buffer's first n octets. -/
def State.mbxInput (s : State) (n : Nat) : Octets := (List.range n).map (fun i => s.host.mbx.buf.get 0 i)

/-- A message ended: its output at the buffer's start, RESULT, DONE. A message is one command, so BUSY is left clear. -/
def State.mbxDone (s : State) (result : Nat) (out : Octets) : State :=
  { s with host := { s.host with mbx := ⟨result, false, true, bufPut s.host.mbx.buf 0 out⟩ } }

/-- What a message does with its input: the state, RESULT and its output. -/
abbrev MbxAct := State → Octets → State × Nat × Octets

/-- PROVISION (R667 to R670). -/
def mbxProvision : MbxAct := fun s o =>
  if s.sec.life ≠ .blank then (s, urSTATE, [])
  else match s.bundleKeys o with
    | .error n => (s, n, [])
    | .ok (root, chain) => (s.provision root chain (bundleCerts o).2.2, 0, [])

/-- RETIRE (R671, R673). -/
def mbxRetire : MbxAct := fun s o =>
  match s.retireBad o with
  | some n => (s, n, [])
  | none => (s.retireDevice, 0, [])

/-- STATUS (R697). -/
def mbxStatus : MbxAct := fun s _ => (s, 0, statusBlock s)

/-- MANIFEST (R734, R735). -/
def mbxManifest : MbxAct := fun s o =>
  if !s.mailboxUpdates then (s, urSTATE, [])
  else
    let (t, n) := s.offerManifest o 0
    (t, n, [])

/-- PIECE (R734). -/
def mbxPiece : MbxAct := fun s o =>
  if !s.mailboxUpdates then (s, urSTATE, [])
  else
    let (t, _, n) := s.offerPieces [o] 0 0
    (t, n, [])

/-- UPD_STATUS (R718, R821, R822). -/
def mbxUpdStatus : MbxAct := fun s _ => if !s.mailboxUpdates then (s, urSTATE, []) else (s, 0, updStatusBlock s)

/-- The message of a MSG code. -/
def mbxAct : Nat → Option MbxAct
  | 1 => some mbxProvision
  | 2 => some mbxRetire
  | 3 => some mbxStatus
  | 4 => some mbxManifest
  | 5 => some mbxPiece
  | 6 => some mbxUpdStatus
  | _ => none

/-- A write of MBX_CMD (R821, R822). While the service core does not run, in a boot that holds or hangs, it is refused with
STATE (log entry 53). -/
def writeMbxCmd (act : Nat → Option MbxAct) : RegWrite := fun s v =>
  if reservedBits v [(0, 8), (32, 18)] ∨ getField v 0 8 = 0 ∨ getField v 0 8 > 6 then .error rsRESERVED
  else if getField v 32 18 > 131072 then .error rsRANGE
  else if s.host.mbx.busy ∨ !(s.bootDone || s.svc.stage == .recovery) then .error rsSTATE
  else match act (getField v 0 8) with
    | none => .ok s
    | some f =>
      let (t, n, out) := f s (s.mbxInput (getField v 32 18))
      .ok (t.mbxDone n out)

/-- A message's command: a write of MBX_CMD whose MSG is the message's. -/
def mbxRow (msg : Nat) (act : MbxAct) (width : Nat) (v : W64) (s : State) : Res :=
  regWrite 0x10000 width v (writeMbxCmd (fun m => if m = msg then some act else none)) s

/-- PROVISION (R670). -/
def execProvision (width : Nat) (v : W64) (s : State) : Res := mbxRow 1 mbxProvision width v s
/-- MAILBOX_RETIRE (R673). -/
def execMailboxRetire (width : Nat) (v : W64) (s : State) : Res := mbxRow 2 mbxRetire width v s
/-- MAILBOX_STATUS (R697). -/
def execMailboxStatus (width : Nat) (v : W64) (s : State) : Res := mbxRow 3 mbxStatus width v s
/-- MAILBOX_MANIFEST (R734). -/
def execMailboxManifest (width : Nat) (v : W64) (s : State) : Res := mbxRow 4 mbxManifest width v s
/-- MAILBOX_PIECE (R734). -/
def execMailboxPiece (width : Nat) (v : W64) (s : State) : Res := mbxRow 5 mbxPiece width v s
/-- MAILBOX_UPD_STATUS (R821). -/
def execMailboxUpdStatus (width : Nat) (v : W64) (s : State) : Res := mbxRow 6 mbxUpdStatus width v s

/-! ### A write of any register (21 R801, R802) -/

/-- A write of RESET_CTRL as far as it starts no reset: that one is the command DEV_RESET. -/
def writeResetCtrl : RegWrite := fun s v =>
  if reservedBits v [(0, 1), (32, 32)] then .error rsRESERVED
  else if getField v 32 32 ≠ 0x56535254 then .error rsKEY
  else .ok s

/-- Whether a write is the one that begins the host reset (R808). -/
def isDevReset (off width : Nat) (v : W64) : Bool := off == 0x20 && width == 8 && v == 0x5653525400000001

/-- SETUP_WRITE (R802): a write of any width at any offset of BAR0. The write that begins the host reset is DEV_RESET. -/
def execSetupWrite (off : BitVec 20) (width : Nat) (v : W64) (s : State) : Res :=
  let o := off.toNat
  if isDevReset o width v then .fault (.illFormed "the host reset is DEV_RESET (R808)")
  else if 0x80000 ≤ o ∧ o < 0x88100 then (if s.powered then .next (s.msixWrite o width v) else .next s)
  else if o = 0x20 then regWrite o width v writeResetCtrl s
  else if o = 0x10000 then regWrite o width v (writeMbxCmd mbxAct) s
  else regWrite o width v (setupTable o) s

end Sys2Proof.Machine
end

