-- ==== Sys2Proof/Machine/Smbus.lean ====
section
/-! DEFINITION. The management port: telemetry, alerts, the trouble record and the two requests over SMBus (19 R741, R751,
R752, R759). -/

namespace Sys2Proof.Machine

/-- A block read over SMBus (R751): answered in P0 to P3. -/
def smbRead (f : State → State × Octets) (s : State) : Res :=
  if s.power.st = .p4 then .next s
  else
    let (t, o) := f s
    .next (t.reply o)

/-- A write over SMBus (R751): without a valid PEC it is refused with a NACK. -/
def smbWrite (pec : Bool) (f : State → State) (s : State) : Res :=
  if s.power.st = .p4 then .next s else if pec then .next (f s) else .next (s.emit .nack)

/-- The command codes of R751. -/
def smbCodes : List Nat := [0x01, 0x02, 0x10, 0x11, 0x12, 0x13, 0x14, 0x15, 0x20, 0x21, 0x22, 0x30, 0x31]

/-- A transaction with any other code, for which the table has no row: refused with a NACK (R751). -/
def State.smbOther (s : State) (code : Nat) : State :=
  if s.power.st = .p4 ∨ smbCodes.contains code then s else s.emit .nack

/-- A read of the Alert Response Address, for which the table has no row: while ALERT_N is asserted, the port's address in bits
7 to 1, as SMBus has it (R751, R752; log entry 54). -/
def State.smbAlertResponse (s : State) : State :=
  if s.power.st = .p4 ∨ s.svc.alerts = 0 then s else s.reply [2 * 0x4C]

/-- A reading that is 0 in P3 (R751). -/
def liveIn (s : State) (o : Octets) : Octets := if s.power.st = .p3 then zeros o.length else o

/-- SMB_STATUS (R751). -/
def execSmbStatus (s : State) : Res :=
  smbRead (fun t => (t, [octet t.sec.life.code, octet t.power.st.code, octet t.power.reasons.toNat, octet t.sec.dbgLevel]
    ++ leBytes 4 t.svc.bootCount)) s

/-- SMB_ALERT_READ (R751, R752). -/
def execSmbAlertRead (s : State) : Res := smbRead (fun t => (t, leBytes 4 t.svc.alerts.toNat)) s

/-- SMB_ALERT_WRITE (R751, R752): a 1 clears its bit. -/
def execSmbAlertWrite (v : W32) (pec : Bool) (s : State) : Res :=
  smbWrite pec (fun t => { t with svc := { t.svc with alerts := t.svc.alerts &&& ~~~ (v.setWidth 7) } }) s

/-- SMB_TEMP (R751): the hottest die sensor and the case estimate as the sensors give them. -/
def execSmbTemp (die case : W16) (s : State) : Res :=
  smbRead (fun t => (t, liveIn t (leBytes 2 die.toNat ++ leBytes 2 case.toNat))) s

/-- SMB_POWER (R751): VIN48 and the module input power as the sensors give them; 0 in P3. -/
def execSmbPower (millivolts decawatts : W32) (s : State) : Res :=
  smbRead (fun t => (t, liveIn t (leBytes 4 millivolts.toNat ++ leBytes 4 decawatts.toNat))) s

/-- SMB_VCORE (R751). -/
def execSmbVcore (s : State) : Res := smbRead (fun t => (t, leBytes 2 t.svc.vcore ++ leBytes 2 vcoreMax)) s

/-- SMB_MARGIN (R751). -/
def execSmbMargin (s : State) : Res :=
  smbRead (fun t => (t, liveIn t (leBytes 2 t.svc.margin ++ leBytes 2 t.svc.lowest))) s

/-- SMB_AGE (R749, R751): before the first projection the days remaining are open (log entry 52). -/
def execSmbAge (s : State) : Res :=
  smbRead (fun t => (t, leBytes 4 t.svc.hours ++ leBytes 4 (t.svc.days.getD (Config.freeValue 59 t.freeCtr))
    ++ leBytes 4 (if t.svc.due then 0 else cdiv (t.svc.lastRelevel + 3600000 - t.svc.seconds) 3600))) s

/-- SMB_RELEVEL_PROG (R748, R751). -/
def execSmbRelevelProg (s : State) : Res := smbRead (fun t => (t, leBytes 12 (relevelProg t))) s

/-- TR_INFO (R751). -/
def execTrInfo (s : State) : Res :=
  smbRead (fun t => (t, leBytes 8 (trNewest t) ++ leBytes 8 (trOldest t) ++ leBytes 4 (trPinCount t) ++ leBytes 4 t.svc.trLost)) s

/-- TR_SEEK (R751). -/
def execTrSeek (v : W64) (pec : Bool) (s : State) : Res :=
  smbWrite pec (fun t => { t with svc := { t.svc with smbSeek := v } }) s

/-- TR_READ (R751, R759). -/
def execTrRead (s : State) : Res :=
  smbRead (fun t =>
    let (o, seek) := trTake t t.svc.smbSeek
    ({ t with svc := { t.svc with smbSeek := seek } }, o)) s

/-- WAKE (R741, R751). -/
def execWake (pec : Bool) (env : BootEnv) (s : State) : Res := smbWrite pec (fun t => t.wakeUp env) s

/-- RELEVEL (R746, R751). -/
def execRelevel (pec : Bool) (s : State) : Res :=
  smbWrite pec (fun t => { t with svc := { t.svc with requested := true } }) s

end Sys2Proof.Machine
end

