-- ==== Sys2Proof/Machine/Dispatch.lean ====
section
/-! DEFINITION. The dispatcher: one arm per command, each a direct call of its meaning. -/

namespace Sys2Proof.Machine

/-- A command's effect on everything but the queue. -/
def exec (i : Instr) (s : State) : Host.Outcome State Fault Refusal :=
  match i with
  | .sillStart => Sys2Proof.Machine.execSillStart s
  | .doorbellArrayReturn array => Sys2Proof.Machine.execDoorbellArrayReturn array s
  | .descriptorFetchReturn ring data => Sys2Proof.Machine.execDescriptorFetchReturn ring data s
  | .decide => Sys2Proof.Machine.execDecide s
  | .postedCommand => Sys2Proof.Machine.execPostedCommand s
  | .sillEnd => Sys2Proof.Machine.execSillEnd s
  | .postStart => Sys2Proof.Machine.execPostStart s
  | .postEnd => Sys2Proof.Machine.execPostEnd s
  | .plateStart => Sys2Proof.Machine.execPlateStart s
  | .timeinPulse => Sys2Proof.Machine.execTimeinPulse s
  | .timeinLoss => Sys2Proof.Machine.execTimeinLoss s
  | .sync f => Sys2Proof.Machine.execSync f s
  | .delayReq f => Sys2Proof.Machine.execDelayReq f s
  | .delayResp f => Sys2Proof.Machine.execDelayResp f s
  | .syncTimeout => Sys2Proof.Machine.execSyncTimeout s
  | .completionWrite => Sys2Proof.Machine.execCompletionWrite s
  | .modTimeExpiry ring => Sys2Proof.Machine.execModTimeExpiry ring s
  | .busMasterEnable => Sys2Proof.Machine.execBusMasterEnable s
  | .hostLinkChange l0 dll => Sys2Proof.Machine.execHostLinkChange l0 dll s
  | .nopCommand => Sys2Proof.Machine.execNopCommand s
  | .createRing => Sys2Proof.Machine.execCreateRing s
  | .startRing => Sys2Proof.Machine.execStartRing s
  | .stopRing => Sys2Proof.Machine.execStopRing s
  | .resizeRing => Sys2Proof.Machine.execResizeRing s
  | .deleteRing => Sys2Proof.Machine.execDeleteRing s
  | .setQuota => Sys2Proof.Machine.execSetQuota s
  | .setModeration => Sys2Proof.Machine.execSetModeration s
  | .stopGroup => Sys2Proof.Machine.execStopGroup s
  | .startGroup => Sys2Proof.Machine.execStartGroup s
  | .loadCert => Sys2Proof.Machine.execLoadCert s
  | .updOpen => Sys2Proof.Machine.execUpdOpen s
  | .updPiece => Sys2Proof.Machine.execUpdPiece s
  | .updStatus => Sys2Proof.Machine.execUpdStatus s
  | .updAbort => Sys2Proof.Machine.execUpdAbort s
  | .updActivate => Sys2Proof.Machine.execUpdActivate s
  | .updVerdict => Sys2Proof.Machine.execUpdVerdict s
  | .updResolve => Sys2Proof.Machine.execUpdResolve s
  | .chainConfig => Sys2Proof.Machine.execChainConfig s
  | .witnessSet => Sys2Proof.Machine.execWitnessSet s
  | .latencyCheck => Sys2Proof.Machine.execLatencyCheck s
  | .journalRead => Sys2Proof.Machine.execJournalRead s
  | .leafProof => Sys2Proof.Machine.execLeafProof s
  | .cartStatus => Sys2Proof.Machine.execCartStatus s
  | .cartEject => Sys2Proof.Machine.execCartEject s
  | .cartRead data => Sys2Proof.Machine.execCartRead data s
  | .cartTime => Sys2Proof.Machine.execCartTime s
  | .drawStatus => Sys2Proof.Machine.execDrawStatus s
  | .entropyRetest raw => Sys2Proof.Machine.execEntropyRetest raw s
  | .powerSet => Sys2Proof.Machine.execPowerSet s
  | .lifecycleSeal => Sys2Proof.Machine.execLifecycleSeal s
  | .keyLoad => Sys2Proof.Machine.execKeyLoad s
  | .debugClose => Sys2Proof.Machine.execDebugClose s
  | .retire => Sys2Proof.Machine.execRetire s
  | .lifecycleStatus => Sys2Proof.Machine.execLifecycleStatus s
  | .setupWrite off width v => Sys2Proof.Machine.execSetupWrite off width v s
  | .spanCfgWrite width v => Sys2Proof.Machine.execSpanCfgWrite width v s
  | .admCfgWrite n width v => Sys2Proof.Machine.execAdmCfgWrite n width v s
  | .ctrlRingEnable width v => Sys2Proof.Machine.execCtrlRingEnable width v s
  | .ctrlRingDisable width v => Sys2Proof.Machine.execCtrlRingDisable width v s
  | .ctrlRingReset width v => Sys2Proof.Machine.execCtrlRingReset width v s
  | .devReset width v env => Sys2Proof.Machine.execDevReset width v env s
  | .progressLatch slot => Sys2Proof.Machine.execProgressLatch slot s
  | .trEntryRead => Sys2Proof.Machine.execTrEntryRead s
  | .provision width v => Sys2Proof.Machine.execProvision width v s
  | .mailboxRetire width v => Sys2Proof.Machine.execMailboxRetire width v s
  | .mailboxStatus width v => Sys2Proof.Machine.execMailboxStatus width v s
  | .mailboxManifest width v => Sys2Proof.Machine.execMailboxManifest width v s
  | .mailboxPiece width v => Sys2Proof.Machine.execMailboxPiece width v s
  | .mailboxUpdStatus width v => Sys2Proof.Machine.execMailboxUpdStatus width v s
  | .debugToken token => Sys2Proof.Machine.execDebugToken token s
  | .challengeRenewal => Sys2Proof.Machine.execChallengeRenewal s
  | .debugExpiry => Sys2Proof.Machine.execDebugExpiry s
  | .trstN asserted => Sys2Proof.Machine.execTrstN asserted s
  | .debugHalt c => Sys2Proof.Machine.execDebugHalt c s
  | .debugHaltRelease c => Sys2Proof.Machine.execDebugHaltRelease c s
  | .debugAccess op => Sys2Proof.Machine.execDebugAccess op s
  | .smbStatus => Sys2Proof.Machine.execSmbStatus s
  | .smbAlertRead => Sys2Proof.Machine.execSmbAlertRead s
  | .smbAlertWrite v pec => Sys2Proof.Machine.execSmbAlertWrite v pec s
  | .smbTemp die case => Sys2Proof.Machine.execSmbTemp die case s
  | .smbPower millivolts decawatts => Sys2Proof.Machine.execSmbPower millivolts decawatts s
  | .smbVcore => Sys2Proof.Machine.execSmbVcore s
  | .smbMargin => Sys2Proof.Machine.execSmbMargin s
  | .smbAge => Sys2Proof.Machine.execSmbAge s
  | .smbRelevelProg => Sys2Proof.Machine.execSmbRelevelProg s
  | .trInfo => Sys2Proof.Machine.execTrInfo s
  | .trSeek v pec => Sys2Proof.Machine.execTrSeek v pec s
  | .trRead => Sys2Proof.Machine.execTrRead s
  | .wake pec env => Sys2Proof.Machine.execWake pec env s
  | .relevel pec => Sys2Proof.Machine.execRelevel pec s
  | .freeze frame => Sys2Proof.Machine.execFreeze frame s
  | .resume frame => Sys2Proof.Machine.execResume frame s
  | .attestNow frame => Sys2Proof.Machine.execAttestNow frame s
  | .heartbeat => Sys2Proof.Machine.execHeartbeat s
  | .periodicAttestReport => Sys2Proof.Machine.execPeriodicAttestReport s
  | .regLinkUp => Sys2Proof.Machine.execRegLinkUp s
  | .leafWrite => Sys2Proof.Machine.execLeafWrite s
  | .backfill => Sys2Proof.Machine.execBackfill s
  | .witnessRecord f => Sys2Proof.Machine.execWitnessRecord f s
  | .witnessAcknowledgement f => Sys2Proof.Machine.execWitnessAcknowledgement f s
  | .witnessDeadline => Sys2Proof.Machine.execWitnessDeadline s
  | .nak f => Sys2Proof.Machine.execNak f s
  | .catchup f => Sys2Proof.Machine.execCatchup f s
  | .echo f => Sys2Proof.Machine.execEcho f s
  | .echoReply f => Sys2Proof.Machine.execEchoReply f s
  | .periodicLatencyCheck => Sys2Proof.Machine.execPeriodicLatencyCheck s
  | .portLinkChange p up => Sys2Proof.Machine.execPortLinkChange p up s
  | .hello f => Sys2Proof.Machine.execHello f s
  | .helloResend p => Sys2Proof.Machine.execHelloResend p s
  | .portRetry p => Sys2Proof.Machine.execPortRetry p s
  | .manifestFrame f => Sys2Proof.Machine.execManifestFrame f s
  | .pieceFrame f => Sys2Proof.Machine.execPieceFrame f s
  | .want f => Sys2Proof.Machine.execWant f s
  | .busy f => Sys2Proof.Machine.execBusy f s
  | .abortFrame f => Sys2Proof.Machine.execAbortFrame f s
  | .manifestResend => Sys2Proof.Machine.execManifestResend s
  | .sessionExpiry => Sys2Proof.Machine.execSessionExpiry s
  | .updateInstall => Sys2Proof.Machine.execUpdateInstall s
  | .prepare f => Sys2Proof.Machine.execPrepare f s
  | .ready f => Sys2Proof.Machine.execReady f s
  | .refuse f => Sys2Proof.Machine.execRefuse f s
  | .confirm f => Sys2Proof.Machine.execConfirm f s
  | .report f => Sys2Proof.Machine.execReport f s
  | .query f => Sys2Proof.Machine.execQuery f s
  | .prepareResend => Sys2Proof.Machine.execPrepareResend s
  | .queryTimer => Sys2Proof.Machine.execQueryTimer s
  | .activationDecide => Sys2Proof.Machine.execActivationDecide s
  | .updateHold => Sys2Proof.Machine.execUpdateHold s
  | .activationRestart env => Sys2Proof.Machine.execActivationRestart env s
  | .soakEnd => Sys2Proof.Machine.execSoakEnd s
  | .reportDeadline => Sys2Proof.Machine.execReportDeadline s
  | .confirmTimeout => Sys2Proof.Machine.execConfirmTimeout s
  | .drainUnitWrite => Sys2Proof.Machine.execDrainUnitWrite s
  | .drainUnitAck => Sys2Proof.Machine.execDrainUnitAck s
  | .cartInsert cart => Sys2Proof.Machine.execCartInsert cart s
  | .cartRemove => Sys2Proof.Machine.execCartRemove s
  | .drawDone raw => Sys2Proof.Machine.execDrawDone raw s
  | .entropyFail raw => Sys2Proof.Machine.execEntropyFail raw s
  | .receiptDone c b => Sys2Proof.Machine.execReceiptDone c b s
  | .sealDone c b errs => Sys2Proof.Machine.execSealDone c b errs s
  | .chainEnqueue entry => Sys2Proof.Machine.execChainEnqueue entry s
  | .chainStart => Sys2Proof.Machine.execChainStart s
  | .chainDone corrected => Sys2Proof.Machine.execChainDone corrected s
  | .chainFaulted ecc corrected => Sys2Proof.Machine.execChainFaulted ecc corrected s
  | .chainStopped corrected => Sys2Proof.Machine.execChainStopped corrected s
  | .waitChainsRelease c b => Sys2Proof.Machine.execWaitChainsRelease c b s
  | .moverEnqueue c b slot => Sys2Proof.Machine.execMoverEnqueue c b slot s
  | .moverDone c b slot host corrected => Sys2Proof.Machine.execMoverDone c b slot host corrected s
  | .moverFail c b slot why corrected => Sys2Proof.Machine.execMoverFail c b slot why corrected s
  | .waitMovesRelease c b => Sys2Proof.Machine.execWaitMovesRelease c b s
  | .waitSealsRelease c b => Sys2Proof.Machine.execWaitSealsRelease c b s
  | .queueRoom c b => Sys2Proof.Machine.execQueueRoom c b s
  | .waitUntilReached c b => Sys2Proof.Machine.execWaitUntilReached c b s
  | .completionPortWrite c => Sys2Proof.Machine.execCompletionPortWrite c s
  | .entry c mcheck errs => Sys2Proof.Machine.execEntry c mcheck errs s
  | .takeover c src => Sys2Proof.Machine.execTakeover c src s
  | .bankSwitch c => Sys2Proof.Machine.execBankSwitch c s
  | .budget c b => Sys2Proof.Machine.execBudget c b s
  | .budgetFreeze c b => Sys2Proof.Machine.execBudgetFreeze c b s
  | .p2CoreStop c => Sys2Proof.Machine.execP2CoreStop c s
  | .scrub at_ ecc => Sys2Proof.Machine.execScrub at_ ecc s
  | .pscrubPass corrected bad => Sys2Proof.Machine.execPscrubPass corrected bad s
  | .monitorRead slacks => Sys2Proof.Machine.execMonitorRead slacks s
  | .relevelRun readings => Sys2Proof.Machine.execRelevelRun readings s
  | .relevelOverdue => Sys2Proof.Machine.execRelevelOverdue s
  | .tamperSample lidOpen ohms => Sys2Proof.Machine.execTamperSample lidOpen ohms s
  | .lidSwitch => Sys2Proof.Machine.execLidSwitch s
  | .vauxPowerOn env => Sys2Proof.Machine.execVauxPowerOn env s
  | .vin48PowerOn env => Sys2Proof.Machine.execVin48PowerOn env s
  | .bootTimeout env => Sys2Proof.Machine.execBootTimeout env s
  | .vin48Loss => Sys2Proof.Machine.execVin48Loss s
  | .vauxLoss => Sys2Proof.Machine.execVauxLoss s
  | .mrstN nanoseconds env => Sys2Proof.Machine.execMrstN nanoseconds env s
  | .perstN => Sys2Proof.Machine.execPerstN s
  | .refclkLoss => Sys2Proof.Machine.execRefclkLoss s
  | .thermalShutdown => Sys2Proof.Machine.execThermalShutdown s
  | .undefinedOpcode c w => Sys2Proof.Machine.execUndefinedOpcode c w s
  | .add c d a b => Sys2Proof.Machine.execAdd c d a b s
  | .sub c d a b => Sys2Proof.Machine.execSub c d a b s
  | .mul c d a b => Sys2Proof.Machine.execMul c d a b s
  | .mulh c d a b => Sys2Proof.Machine.execMulh c d a b s
  | .div c d a b => Sys2Proof.Machine.execDiv c d a b s
  | .rem c d a b => Sys2Proof.Machine.execRem c d a b s
  | .mov c d a => Sys2Proof.Machine.execMov c d a s
  | .addi c d a imm => Sys2Proof.Machine.execAddi c d a imm s
  | .movi c d imm => Sys2Proof.Machine.execMovi c d imm s
  | .addis c d a imm => Sys2Proof.Machine.execAddis c d a imm s
  | .andR c d a b => Sys2Proof.Machine.execAndR c d a b s
  | .orR c d a b => Sys2Proof.Machine.execOrR c d a b s
  | .xorR c d a b => Sys2Proof.Machine.execXorR c d a b s
  | .andn c d a b => Sys2Proof.Machine.execAndn c d a b s
  | .sll c d a b => Sys2Proof.Machine.execSll c d a b s
  | .srl c d a b => Sys2Proof.Machine.execSrl c d a b s
  | .sra c d a b => Sys2Proof.Machine.execSra c d a b s
  | .popc c d a => Sys2Proof.Machine.execPopc c d a s
  | .slli c d a amount => Sys2Proof.Machine.execSlli c d a amount s
  | .srli c d a amount => Sys2Proof.Machine.execSrli c d a amount s
  | .srai c d a amount => Sys2Proof.Machine.execSrai c d a amount s
  | .andi c d a imm => Sys2Proof.Machine.execAndi c d a imm s
  | .ori c d a imm => Sys2Proof.Machine.execOri c d a imm s
  | .xori c d a imm => Sys2Proof.Machine.execXori c d a imm s
  | .ld1 c d base disp errs => Sys2Proof.Machine.execLd1 c d base disp errs s
  | .ld2 c d base disp errs => Sys2Proof.Machine.execLd2 c d base disp errs s
  | .ld4 c d base disp errs => Sys2Proof.Machine.execLd4 c d base disp errs s
  | .ld8 c d base disp errs => Sys2Proof.Machine.execLd8 c d base disp errs s
  | .ld1s c d base disp errs => Sys2Proof.Machine.execLd1s c d base disp errs s
  | .ld2s c d base disp errs => Sys2Proof.Machine.execLd2s c d base disp errs s
  | .ld4s c d base disp errs => Sys2Proof.Machine.execLd4s c d base disp errs s
  | .ld8s c d base disp errs => Sys2Proof.Machine.execLd8s c d base disp errs s
  | .ldg c d base disp errs => Sys2Proof.Machine.execLdg c d base disp errs s
  | .ldu8 c d base disp errs => Sys2Proof.Machine.execLdu8 c d base disp errs s
  | .st1 c s0 base disp => Sys2Proof.Machine.execSt1 c s0 base disp s
  | .st2 c s0 base disp => Sys2Proof.Machine.execSt2 c s0 base disp s
  | .st4 c s0 base disp => Sys2Proof.Machine.execSt4 c s0 base disp s
  | .st8 c s0 base disp => Sys2Proof.Machine.execSt8 c s0 base disp s
  | .stg c s0 base disp => Sys2Proof.Machine.execStg c s0 base disp s
  | .stu8 c s0 base disp => Sys2Proof.Machine.execStu8 c s0 base disp s
  | .cb c a b cond disp => Sys2Proof.Machine.execCb c a b cond disp s
  | .bcc c mask disp => Sys2Proof.Machine.execBcc c mask disp s
  | .br c disp => Sys2Proof.Machine.execBr c disp s
  | .call c disp => Sys2Proof.Machine.execCall c disp s
  | .jr c a => Sys2Proof.Machine.execJr c a s
  | .callr c a => Sys2Proof.Machine.execCallr c a s
  | .ret c => Sys2Proof.Machine.execRet c s
  | .loop c a len => Sys2Proof.Machine.execLoop c a len s
  | .rpt c i0 s0 count imm next iterations errs => Sys2Proof.Machine.execRpt c i0 s0 count imm next iterations errs s
  | .retag c d a tag => Sys2Proof.Machine.execRetag c d a tag s
  | .retagu c d a tag => Sys2Proof.Machine.execRetagu c d a tag s
  | .gtag c d a => Sys2Proof.Machine.execGtag c d a s
  | .refn c d a b => Sys2Proof.Machine.execRefn c d a b s
  | .refget c d a which => Sys2Proof.Machine.execRefget c d a which s
  | .mfcr c d cr => Sys2Proof.Machine.execMfcr c d cr s
  | .mtcr c cr a errs => Sys2Proof.Machine.execMtcr c cr a errs s
  | .mfbw c d code => Sys2Proof.Machine.execMfbw c d code s
  | .mtbw c code a => Sys2Proof.Machine.execMtbw c code a s
  | .ltsw c a => Sys2Proof.Machine.execLtsw c a s
  | .nop c => Sys2Proof.Machine.execNop c s
  | .svc c fn => Sys2Proof.Machine.execSvc c fn s
  | .rsv c => Sys2Proof.Machine.execRsv c s
  | .rte c errs => Sys2Proof.Machine.execRte c errs s
  | .iflush c => Sys2Proof.Machine.execIflush c s
  | .fmode c service => Sys2Proof.Machine.execFmode c service s
  | .brk c fn => Sys2Proof.Machine.execBrk c fn s
  | .waitEvent c => Sys2Proof.Machine.execWaitEvent c s
  | .waitUntil c arg => Sys2Proof.Machine.execWaitUntil c arg s
  | .waitChains c => Sys2Proof.Machine.execWaitChains c s
  | .waitMoves c => Sys2Proof.Machine.execWaitMoves c s
  | .waitSeals c => Sys2Proof.Machine.execWaitSeals c s
  | .waitDispatch c errs => Sys2Proof.Machine.execWaitDispatch c errs s
  | .waitFreeze c => Sys2Proof.Machine.execWaitFreeze c s
  | .frcode c a => Sys2Proof.Machine.execFrcode c a s
  | .pcmd c d a => Sys2Proof.Machine.execPcmd c d a s
  | .post c a => Sys2Proof.Machine.execPost c a s
  | .scribe c d a b errs => Sys2Proof.Machine.execScribe c d a b errs s
  | .vchain c d a errs => Sys2Proof.Machine.execVchain c d a errs s
  | .vresume c d a errs => Sys2Proof.Machine.execVresume c d a errs s
  | .movr c d a errs => Sys2Proof.Machine.execMovr c d a errs s
  | .draw c d a errs => Sys2Proof.Machine.execDraw c d a errs s
  | .seal c d a errs => Sys2Proof.Machine.execSeal c d a errs s
  | .rcpt c d a b => Sys2Proof.Machine.execRcpt c d a b s
  | .gfrm c d a => Sys2Proof.Machine.execGfrm c d a s
  | .sfrm c a b => Sys2Proof.Machine.execSfrm c a b s
  | .fzero c a => Sys2Proof.Machine.execFzero c a s
  | .hbms c a b => Sys2Proof.Machine.execHbms c a b s
  | .hbmg c d a => Sys2Proof.Machine.execHbmg c d a s
  | .dadd c d a b => Sys2Proof.Machine.execDadd c d a b s
  | .dsub c d a b => Sys2Proof.Machine.execDsub c d a b s
  | .dmul c d a b => Sys2Proof.Machine.execDmul c d a b s
  | .ddivx c d a b => Sys2Proof.Machine.execDdivx c d a b s
  | .dcmp c a b => Sys2Proof.Machine.execDcmp c a b s
  | .dneg c d a => Sys2Proof.Machine.execDneg c d a s
  | .dabs c d a => Sys2Proof.Machine.execDabs c d a s
  | .dresc c d a scale => Sys2Proof.Machine.execDresc c d a scale s
  | .drnd c d a scale => Sys2Proof.Machine.execDrnd c d a scale s
  | .ddivb c d a b => Sys2Proof.Machine.execDdivb c d a b s
  | .dmulw c d a b => Sys2Proof.Machine.execDmulw c d a b s
  | .daddw c d a b => Sys2Proof.Machine.execDaddw c d a b s
  | .dsubw c d a b => Sys2Proof.Machine.execDsubw c d a b s
  | .dnarw c d a => Sys2Proof.Machine.execDnarw c d a s
  | .padd c f m => Sys2Proof.Machine.execPadd c f m s
  | .psub c f m => Sys2Proof.Machine.execPsub c f m s
  | .pmov c f m => Sys2Proof.Machine.execPmov c f m s
  | .pmul c f m => Sys2Proof.Machine.execPmul c f m s
  | .pdiv c f m => Sys2Proof.Machine.execPdiv c f m s
  | .prem c f m => Sys2Proof.Machine.execPrem c f m s
  | .pcmp c f m => Sys2Proof.Machine.execPcmp c f m s
  | .btd c d a => Sys2Proof.Machine.execBtd c d a s
  | .dtb c d a => Sys2Proof.Machine.execDtb c d a s
  | .dtf c d a => Sys2Proof.Machine.execDtf c d a s
  | .dftd c d a scale => Sys2Proof.Machine.execDftd c d a scale s
  | .ptd c d a b scale errs badWord => Sys2Proof.Machine.execPtd c d a b scale errs badWord s
  | .ttd c d a b scale errs badWord => Sys2Proof.Machine.execTtd c d a b scale errs badWord s
  | .dtp c d a b scale badWord => Sys2Proof.Machine.execDtp c d a b scale badWord s
  | .dtt c d a b scale badWord => Sys2Proof.Machine.execDtt c d a b scale badWord s
  | .dfadd c d a b => Sys2Proof.Machine.execDfadd c d a b s
  | .dfsub c d a b => Sys2Proof.Machine.execDfsub c d a b s
  | .dfmul c d a b => Sys2Proof.Machine.execDfmul c d a b s
  | .dfdiv c d a b => Sys2Proof.Machine.execDfdiv c d a b s
  | .dfsqrt c d a => Sys2Proof.Machine.execDfsqrt c d a s
  | .dfqua c d a b => Sys2Proof.Machine.execDfqua c d a b s
  | .dfscb c d a b => Sys2Proof.Machine.execDfscb c d a b s
  | .dfneg c d a => Sys2Proof.Machine.execDfneg c d a s
  | .dfabs c d a => Sys2Proof.Machine.execDfabs c d a s
  | .dffma c d a b => Sys2Proof.Machine.execDffma c d a b s
  | .dftb c d a => Sys2Proof.Machine.execDftb c d a s
  | .btdf c d a => Sys2Proof.Machine.execBtdf c d a s
  | .dfcb c a b cond disp => Sys2Proof.Machine.execDfcb c a b cond disp s
  | .bfadd c d a b => Sys2Proof.Machine.execBfadd c d a b s
  | .bfsub c d a b => Sys2Proof.Machine.execBfsub c d a b s
  | .bfmul c d a b => Sys2Proof.Machine.execBfmul c d a b s
  | .bfdiv c d a b => Sys2Proof.Machine.execBfdiv c d a b s
  | .bfsqrt c d a => Sys2Proof.Machine.execBfsqrt c d a s
  | .bfrint c d a => Sys2Proof.Machine.execBfrint c d a s
  | .bfscb c d a b => Sys2Proof.Machine.execBfscb c d a b s
  | .bfneg c d a => Sys2Proof.Machine.execBfneg c d a s
  | .bfabs c d a => Sys2Proof.Machine.execBfabs c d a s
  | .bffma c d a b => Sys2Proof.Machine.execBffma c d a b s
  | .bfcb c a b cond disp => Sys2Proof.Machine.execBfcb c a b cond disp s
  | .fbar c => Sys2Proof.Machine.execFbar c s
  | .movs c f m => Sys2Proof.Machine.execMovs c f m s
  | .cmps c f m => Sys2Proof.Machine.execCmps c f m s
  | .xlts c f m => Sys2Proof.Machine.execXlts c f m s
  | .fils c f m => Sys2Proof.Machine.execFils c f m s
  | .movl c d a b m => Sys2Proof.Machine.execMovl c d a b m s
  | .cmpl c d a b m => Sys2Proof.Machine.execCmpl c d a b m s
  | .xltl c d b m => Sys2Proof.Machine.execXltl c d b m s
  | .xscl c d a b m => Sys2Proof.Machine.execXscl c d a b m s
  | .find c d b m => Sys2Proof.Machine.execFind c d b m s
  | .edit c d a b m => Sys2Proof.Machine.execEdit c d a b m s
  | .customerInstruction c opcode d a b fn errs badWord => Sys2Proof.Machine.execCustomerInstruction c opcode d a b fn errs badWord s
  | .msixUnmask v => Sys2Proof.Machine.execMsixUnmask v s
  | .busMasterEnableClear => Sys2Proof.Machine.execBusMasterEnableClear s
  | .regLinkDown => Sys2Proof.Machine.execRegLinkDown s
  | .commandBlockReturn data => Sys2Proof.Machine.execCommandBlockReturn data s
  | .pauseFrame p lane on => Sys2Proof.Machine.execPauseFrame p lane on s
  | .refclkValid env => Sys2Proof.Machine.execRefclkValid env s
  | .dieSensorAbove0c env => Sys2Proof.Machine.execDieSensorAbove0c env s
  | .thermalAlert => Sys2Proof.Machine.execThermalAlert s

end Sys2Proof.Machine
end

