-- ==== Sys2Proof/Machine/Tick.lean ====
section
/-! DEFINITION. The clock tick of a step that finds no command waiting. Log entry 1. -/

namespace Sys2Proof.Machine

/-- One core clock cycle: the clock and, while spans run, the cycle within the span advance; the mover shows how far it has come,
and a latency check whose ECHO is overdue has failed. -/
def tick (s : State) : State :=
  let t : State := { s with t := { s.t with clock := s.t.clock + 1, cyc := if s.t.run then s.t.cyc + 1 else s.t.cyc } }
  ((t.moveProgress false).moveProgress true).latencyTick

end Sys2Proof.Machine
end

