-- ==== Sys2Proof/WellFormed.lean ====
section
/-! DEFINITION. Which commands are well formed: the operand ranges the spec gives each row. -/

namespace Sys2Proof

/-- A received frame whose payload is at most 1,460 octets and whose tag is 16 (14 R576). -/
def RxFrame.ok (f : RxFrame) : Bool := f.body.length ≤ 1460 && f.tag.length == 16

/-- Adapter for commands that carry one frame. -/
def checkFrame (f : RxFrame) : Option String := if f.ok then none else some "frame payload and tag (R576)"

/-- The raw entropy bits of the start-up tests and of the seeds: 4,096, and 1,024 for each of four conditioned outputs (16 R628,
R630). -/
def checkRaw (raw : List Bool) : Option String :=
  if raw.length = 8192 then none else some "8,192 raw bits (R628, R630)"

/-- The environment of a boot. -/
def checkEnv (e : BootEnv) : Option String := checkRaw e.raw

/-- The width of a BAR0 write in octets. -/
def checkWidth (w : Nat) : Option String :=
  if 1 ≤ w ∧ w ≤ 8 then none else some "write width 1 to 8 octets (R801)"

/-- The first operand check a command fails; none where it is well formed. -/
def Instr.check : Instr → Option String
  | .doorbellArrayReturn (some a) => if a.length = 32768 then none else some "a doorbell array of 32,768 octets (R88)"
  | .descriptorFetchReturn _ (some l) =>
    if l.length ≤ 16 ∧ l.all (fun d => d.length == 64) then none else some "up to 16 descriptors of 64 octets (R66)"
  | .sync f | .delayReq f | .delayResp f | .witnessRecord f | .witnessAcknowledgement f | .nak f | .catchup f
  | .echo f | .echoReply f | .hello f | .manifestFrame f | .pieceFrame f | .want f | .busy f | .abortFrame f
  | .prepare f | .ready f | .refuse f | .confirm f | .report f | .query f => checkFrame f
  | .entropyRetest raw => checkRaw raw
  | .setupWrite o w v =>
    if o = 0x20 ∧ w = 8 ∧ v = 0x5653525400000001 then some "the host reset is DEV_RESET (R808)" else checkWidth w
  | .spanCfgWrite w _ | .admCfgWrite _ w _ | .ctrlRingEnable w _ | .ctrlRingDisable w _
  | .ctrlRingReset w _ | .provision w _ | .mailboxRetire w _ | .mailboxStatus w _ | .mailboxManifest w _
  | .mailboxPiece w _ | .mailboxUpdStatus w _ => checkWidth w
  | .devReset w _ e => (checkWidth w).orElse fun _ => checkEnv e
  | .wake _ e | .activationRestart e | .vauxPowerOn e | .vin48PowerOn e | .bootTimeout e | .mrstN _ e
  | .refclkValid e | .dieSensorAbove0c e => checkEnv e
  | .debugToken t => if t.length = 224 then none else some "token of 224 octets (R680)"
  | .monitorRead l => if l.length = 256 then none else some "256 monitors (R745)"
  | .relevelRun l => if l.all (fun r => r.length == 256) then none else some "256 monitors (R745)"
  | .pscrubPass _ l => if l.all (fun o => o < 2 ^ 32) then none else some "an offset of persistent memory (R505)"
  | .undefinedOpcode _ w => if definedWord w then some "a word no table defines (R198)" else none
  | _ => none

/-- A well-formed command. -/
abbrev Instr.WellFormed (i : Instr) : Prop := i.check = none

end Sys2Proof
end

