-- ==== Sys2Proof/Safety.lean ====
section
/-! DEFINITION. The terms the claims use: a safe step, the canonical form of the memories, an instruction that issues, and
what an instruction leaves unchanged beside its own effect. -/

namespace Sys2Proof.Machine

/-- A step outcome that is a next state. -/
def isNext (r : Res) : Bool :=
  match r with
  | .next _ => true
  | _ => false

/-- A state whose next step answers a next state. -/
def Safe (s : State) : Prop := isNext (step s) = true

/-! ### The memories -/

/-- A core's bench memory and frame table in canonical form. -/
abbrev Core.memWf (k : Core) : Prop := SMap.wf TVal.zero k.bench = true ∧ SMap.wf FrameEntry.zero k.frames = true

/-- Every memory of the address map in canonical form: bay memory, HBM, persistent memory, bench memories, and their frame
and region tables (05 R183; 12 R485, R489). -/
abbrev State.memWf (s : State) : Prop :=
  SMap.wf TVal.zero s.bay = true ∧ SMap.wf FrameEntry.zero s.bayFrames = true ∧ SMap.wf TVal.zero s.hbm = true
    ∧ SMap.wf FrameEntry.zero s.hbmRegions = true ∧ SMap.wf (0 : Byte) s.pmem = true ∧ ∀ c : CoreId, (s.core c).memWf

/-! ### What every step keeps -/

/-- The changes of the lifecycle state that the spec's table allows (17 R659). -/
def lifeChanges : List (Lifecycle × Lifecycle) :=
  [(.blank, .provisioned), (.provisioned, .sealed), (.blank, .tampered), (.provisioned, .tampered), (.sealed, .tampered),
   (.provisioned, .retired), (.sealed, .retired), (.tampered, .retired)]

/-- A bank whose register window is one it can have: WVAL 1 to 5, CWP 0 to 5, TSW's bits [39:0] zero (05 R170, R174). -/
def Bank.windowOk (k : Bank) : Prop := 1 ≤ tswWval k.tsw ∧ tswWval k.tsw ≤ 5 ∧ tswCwp k.tsw ≤ 5 ∧ getField k.tsw 0 40 = 0

/-- Every bank's window is one it can have. -/
def State.windowsOk (s : State) : Prop := ∀ (c : CoreId) (b : BankId), (s.bank c b).windowOk

/-- While bank T serves a window trap, the served bank's WVAL allows the step that its RTE makes: down by 1 after WOVF, up by 1
after WUNF (09 R392). -/
def Core.serviceOk (k : Core) : Prop :=
  k.tActive = true → (k.service = .wovf → 2 ≤ tswWval (k.bank k.served).tsw) ∧ (k.service = .wunf → tswWval (k.bank k.served).tsw ≤ 4)

/-- A ring whose HEAD is at most TAIL, and TAIL at most the ring's size ahead of it, of whose published descriptors alone this
sill has read (03 R86, R90, R93). -/
def Ring.countsOk (v : Ring) : Prop := v.fetched.length ≤ v.waiting ∧ v.waiting ≤ 2 ^ v.ctx.subOrder

/-- Every ring is in order; while the sill's doorbell array is read, nothing of the rings has been, and none of this sill has
returned (03 R88 to R90, R93). -/
def HostIf.ringsOk (h : HostIf) : Prop :=
  (∀ p ∈ h.rings, p.2.countsOk ∧ (h.dbReq = true → p.2.fetched = [])) ∧ (h.dbReq = true → h.dbBack = false)

/-! ### Issue -/

/-- Bank b of core c issues the word at its PC: the core runs it, no entry is in progress, the fetch is permitted and no
breakpoint of the debug port stands there (05 R188, R189; 17 R679). -/
def Issues (s : State) (c : CoreId) (b : BankId) : Prop :=
  (s.core c).issuer = some b ∧ s.fetchCause c b (s.bank c b).pc.toNat = none ∧ s.breakAt c (s.bank c b).pc = false

/-- As Issues, for an instruction of two words: the second word's fetch is permitted too (05 R199, R196). -/
def IssuesTwo (s : State) (c : CoreId) (b : BankId) : Prop :=
  Issues s c b ∧ s.fetchCause c b ((s.bank c b).pc.toNat + 4) = none

/-- A register of a bank that can be read: no long-unit result in flight, not loaded by the instruction just before (05 R203,
R205). -/
def Ready (s : State) (c : CoreId) (b : BankId) (r : Reg) : Prop :=
  (s.core c).unread b ((s.bank c b).slot b r) = false

/-- A register of a bank that is ready and holds a value. -/
def Holds (s : State) (c : CoreId) (b : BankId) (r : Reg) (v : TVal) : Prop :=
  Ready s c b r ∧ (s.bank c b).reg b r = v

/-- Supervisor mode (05 R174). -/
def Super (s : State) (c : CoreId) (b : BankId) : Prop := tswMode (s.bank c b).tsw = true

/-- The bank has no pending float record that a delivery point would deliver (07 R310). -/
def NoRecord (s : State) (c : CoreId) (b : BankId) : Prop :=
  ∀ r, (s.bank c b).fpt = some r → ¬ (r.mode = tswMode (s.bank c b).tsw ∧ r.mask.toNat = tswMask (s.bank c b).tsw)

/-- Nothing of the bank is in flight and nothing is to be delivered: a serializing instruction goes on (05 R224; 07 R310). -/
def Drained (s : State) (c : CoreId) (b : BankId) : Prop := s.resultsDue c b = false ∧ NoRecord s c b

/-- An access of n octets by a base value and a displacement passes its checks and reaches an address (05 R184 to R191). -/
def Reaches (s : State) (c : CoreId) (b : BankId) (base : TVal) (off : Int) (acc : Acc) (n addr : Nat) : Prop :=
  s.checkAccess c (mkAccess (s.bank c b) base off acc) n = .ok addr

/-- A base register's value: BIN, or a well-formed REF (05 R185). -/
def IsBase (v : TVal) : Prop := v.tag = tBIN ∨ (v.tag = tREF ∧ malformed v = false)

/-- The state in which a long unit has been given a result to return through the completion port (05 R205). -/
def State.sendPort (s : State) (c : CoreId) (e : PortEntry) : State := s.modCore c (fun k => { k with port := k.port ++ [e] })

/-- The effect of a float result under the exception mode (07 R306 to R309): in PRECISE, the register and the sticky flags;
otherwise a result on its way to the completion port, with its flags and, in IMPRECISE, its trap record. -/
def State.floatEffect (s : State) (c : CoreId) (b : BankId) (d : Reg) (v : TVal) (flags : BitVec 5) : State :=
  let k := s.bank c b
  if tswFpm k.tsw = 2 then (s.setReg c b d v).modBank c b (fun w => { w with fpsf := w.fpsf ||| flags.setWidth 32 })
  else s.sendPort c ⟨b, some (k.slot b d), v, flags,
    if tswFpm k.tsw = 1 ∧ trapping flags ≠ 0 then some ⟨k.pc, trapping flags, tswMode k.tsw, BitVec.ofNat 4 (tswMask k.tsw)⟩ else none⟩

/-! ### Rounded numbers -/

/-- m is N ÷ D rounded to an integer in a rounding direction, of a number of a sign: 0 to nearest, ties to even; 1 to nearest, ties
away; 2 toward zero; 3 toward +∞; 4 toward −∞ (05 R174; 07 R294). -/
def RoundedTo (mode : Nat) (neg : Bool) (m N D : Nat) : Prop :=
  let down := m * D ≤ N ∧ N < m * D + D
  let up := N ≤ m * D ∧ m * D < N + D
  match mode with
  | 0 => 2 * N ≤ 2 * (m * D) + D ∧ 2 * (m * D) ≤ 2 * N + D ∧ (2 * N = 2 * (m * D) + D ∨ 2 * N + D = 2 * (m * D) → m % 2 = 0)
  | 1 => 2 * N < 2 * (m * D) + D ∧ 2 * (m * D) ≤ 2 * N + D
  | 2 => down
  | 3 => if neg then down else up
  | _ => if neg then up else down

/-- The rounding direction that BRM selects (07 R305). -/
def brmMode (brm : Nat) : Nat := [0, 2, 3, 4].getD brm 0

/-- m × base^t is N × base^x ÷ D rounded once in a direction to a multiple of base^t, and the flags are none exactly where it is
the number itself (07 R294 to R297). -/
def IsRounding (base mode : Nat) (neg : Bool) (N D : Nat) (x : Int) (m : Nat) (t : Int) (fl : BitVec 5) : Prop :=
  ∀ a b : Nat, (a : Int) - b = x - t →
    RoundedTo mode neg m (N * base ^ a) (D * base ^ b) ∧ (fl = 0 ↔ N * base ^ a = m * (D * base ^ b))

/-- m × base^t is the square root of c × base^x rounded once in a direction, told by squares (07 R301, R305). -/
def IsRoot (base mode c : Nat) (x : Int) (m : Nat) (t : Int) (fl : BitVec 5) : Prop :=
  ∀ a b : Nat, (a : Int) - b = x - 2 * t →
    let C := c * base ^ a
    let B := base ^ b
    (fl = 0 ↔ C = m ^ 2 * B)
      ∧ (match mode with
        | 0 | 1 => (2 * m - 1) ^ 2 * B ≤ 4 * C ∧ 4 * C ≤ (2 * m + 1) ^ 2 * B
        | 3 => C ≤ m ^ 2 * B ∧ (m - 1) ^ 2 * B < C
        | _ => m ^ 2 * B ≤ C ∧ C < (m + 1) ^ 2 * B)

/-- The number a sign and a coefficient give at an exponent of a base, in units of base^at. -/
def scaled (base : Nat) (neg : Bool) (c : Nat) (x at_ : Int) : Int := (if neg then -1 else 1) * (c * base ^ (x - at_).toNat : Nat)

/-- An overflowed DFF result: ±∞ or the largest finite number, as the direction says, with overflow and inexact (07 R317). -/
def dffTooLarge (drm : Nat) (neg : Bool) : FlRes :=
  (if drm = 2 ∨ (drm = 3 ∧ neg = true) ∨ (drm = 4 ∧ neg = false) then .fin neg (10 ^ 33 - 1) 2016 else .inf neg, 5)

/-- An overflowed B64 result (07 R317). -/
def b64TooLarge (brm : Nat) (neg : Bool) : FlRes :=
  (if brm = 1 ∨ (brm = 2 ∧ neg = true) ∨ (brm = 3 ∧ neg = false) then .fin neg (2 ^ 53 - 1) 971 else .inf neg, 5)

/-! ### What an instruction leaves unchanged -/

/-- The fields of a bank that completing an instruction may change beside its own effect: PC, the loop's LCNT and LEND (06
R247, R248), CYCB and the breach it brings (09 R404, R405). -/
def Bank.sameButIssue (k k' : Bank) : Prop :=
  k' = { k with pc := k'.pc, lcnt := k'.lcnt, lend := k'.lend, cycb := k'.cycb, budgetDue := k'.budgetDue, budgetTaken := k'.budgetTaken }

/-- The fields of a bank that a charge may change (09 R404, R405). -/
def Bank.sameButCharge (k k' : Bank) : Prop :=
  k' = { k with cycb := k'.cycb, budgetDue := k'.budgetDue, budgetTaken := k'.budgetTaken }

/-- A charge that changes nothing: the bank's CHARGE is off (09 R404). -/
def Bank.unchargedAs (k k' : Bank) : Prop := k'.cycb = k.cycb ∧ k'.budgetDue = k.budgetDue ∧ k'.budgetTaken = k.budgetTaken

/-- State t is u but for the completion of an instruction of bank b of core c: the bank's PC and loop, the charge of the bank
that pays, the owner of the loop buffer, the register it loaded, a single step taken. Every octet of memory reads as in u. -/
def CompletesFrom (u t : State) (c : CoreId) (b : BankId) : Prop :=
  t = { u with cores := t.cores }
    ∧ (∀ c', c' ≠ c → t.core c' = u.core c')
    ∧ t.core c = { u.core c with banks := (t.core c).banks, loopOwner := (t.core c).loopOwner, loaded := (t.core c).loaded, step := false }
    ∧ (∀ b', b' ≠ b → b' ≠ (u.core c).payer b → t.bank c b' = u.bank c b')
    ∧ (∀ b', b' ≠ b → (u.bank c b').sameButCharge (t.bank c b'))
    ∧ (u.bank c b).sameButIssue (t.bank c b)
    ∧ (∀ b', (u.bank c b').charge = false → (u.bank c b').unchargedAs (t.bank c b'))
    ∧ (∀ c' a, t.byte c' a = u.byte c' a)

/-- Instruction of `words` words: from s, its own effect gives u, and it falls through into t. Outside a hardware loop the PC
goes on by its length and the loop registers stand. -/
def MovedOn (s u t : State) (c : CoreId) (b : BankId) (words : Nat) : Prop :=
  CompletesFrom u t c b
    ∧ ((u.bank c b).loopLive = false →
        (t.bank c b).pc = (s.bank c b).pc + BitVec.ofNat 32 (4 * words) ∧ (t.bank c b).lcnt = (u.bank c b).lcnt
          ∧ (t.bank c b).lend = (u.bank c b).lend ∧ (t.core c).loopOwner = (u.core c).loopOwner)

/-- Whether a taken branch to an address leaves a bank's running loop (06 R248). -/
def Bank.leavesLoop (k : Bank) (target : W32) : Bool :=
  k.loopLive && !(lendStart k.lend ≤ target.toNat && target.toNat ≤ lendEnd k.lend)

/-- A taken branch to an address: where it leaves the running loop, LEND's ACT is cleared and the loop buffer is the bank's no
longer (06 R248; 05 R218). -/
def JumpedTo (u t : State) (c : CoreId) (b : BankId) (target : W32) : Prop :=
  CompletesFrom u t c b ∧ (t.bank c b).pc = target ∧ (t.bank c b).lcnt = (u.bank c b).lcnt
    ∧ (t.bank c b).lend = (if (u.bank c b).leavesLoop target then lendOff (u.bank c b).lend else (u.bank c b).lend)
    ∧ (t.core c).loopOwner
        = (if (u.bank c b).leavesLoop target then ((u.core c).dropLoop b).loopOwner else (u.core c).loopOwner)

/-- An instruction that has set PC itself: its own effect gives u, and the PC and the loop stand as in u. -/
def SettledAs (u t : State) (c : CoreId) (b : BankId) : Prop :=
  CompletesFrom u t c b ∧ (t.bank c b).pc = (u.bank c b).pc ∧ (t.bank c b).lcnt = (u.bank c b).lcnt
    ∧ (t.bank c b).lend = (u.bank c b).lend ∧ (t.core c).loopOwner = (u.core c).loopOwner

/-- The command answers a next state of which P holds. -/
def Completes (i : Instr) (s : State) (P : State → Prop) : Prop := ∃ t, exec i s = .next t ∧ P t

/-- The command's own effect is to begin the entry of a fault: the fault is latched, and nothing else of the bank changes (09
R361, R382). -/
def Traps (i : Instr) (s : State) (c : CoreId) (b : BankId) (vector cause : Nat) (addr : W32) (info : Nat) : Prop :=
  exec i s = .next ((s.latch c b vector cause addr info).endStep c)

/-! ### Storage operands -/

/-- A storage operand of n octets passes its checks and lies from an address on (05 R187, R195). -/
def Covers (s : State) (c : CoreId) (b : BankId) (base : TVal) (off : Int) (acc : Acc) (n addr : Nat) : Prop :=
  s.checkRange c (mkAccess (s.bank c b) base off acc) n = .ok addr

/-- Every granule of a range is RAW. -/
def AllRaw (s : State) (c : CoreId) (addr n : Nat) : Prop := ∀ g ∈ granAddrs addr n, (s.gran c g).tag = tRAW

/-- No granule of a range is POISON. -/
def NoPoison (s : State) (c : CoreId) (addr n : Nat) : Prop := ∀ g ∈ granAddrs addr n, (s.gran c g).tag ≠ tPOISON

/-- A range an engine may write: in DATA frames, with no POISON granule (05 R190; 12 R493, R500). -/
def EngineMay (s : State) (c : CoreId) (addr n : Nat) : Prop :=
  ∀ a, addr ≤ a → a < addr + n → (∃ e, s.frame c a = some e ∧ e.st = .data) ∧ (s.gran c a).tag ≠ tPOISON

/-- The state in which the octets of some ranges, address and number, have been read: the error correction has dealt with what it
found in their granules (12 R497, R498). -/
def State.afterReads (s : State) (c : CoreId) (errs : Errs) (l : List (Nat × Nat)) : State :=
  s.findErrors c errs (l.flatMap (fun r => granAddrs r.1 r.2))

/-- An instruction broken off by a machine check within its step, whose reads gave u: PC stays on it and the registers stand, the
check waits for the bank with the range that may be part-written, and no octet outside that range has changed (07 R290; 08 R349;
09 R381). -/
def BrokenOff (s u t : State) (c : CoreId) (b : BankId) (isPartial : Bool) (addr n : Nat) : Prop :=
  (t.bank c b).pc = (s.bank c b).pc ∧ (t.bank c b).regs = (s.bank c b).regs ∧ (t.bank c b).tsw = (s.bank c b).tsw
    ∧ ((s.core c).mcheck = none → (t.core c).mcheck = some ⟨b, isPartial, BitVec.ofNat 32 addr, BitVec.ofNat 16 n⟩)
    ∧ (u.memWf → u.upd.act.soaking = false → ∀ a, a < addr ∨ addr + n ≤ a → t.byte c a = u.byte c a)

/-- What an instruction between two interruption points comes to: P, or where a machine check comes it is broken off; an
uncorrectable microword that brought it is kept until the core's next reset (13 R520). -/
def UnlessBroken (m : Meets) (s u : State) (c : CoreId) (b : BankId) (isPartial : Bool) (addr n : Nat) (P : State → Prop) (t : State) : Prop :=
  if m.check.isSome then BrokenOff s u t c b isPartial addr n ∧ (∀ w, m.word = some w → w.val ∈ (t.core c).badWords) else P t

/-- What a vendor routine's instruction comes to: P, or at an uncorrectable microword MCHECK waits for the bank with PC on it, its
registers stand and the word is kept (13 R520, R531; that its ADDR and INFO are 0 is the model's choice, log entry 100). -/
def UnlessWord (word : Option (Fin 16384)) (s : State) (c : CoreId) (b : BankId) (P : State → Prop) (t : State) : Prop :=
  match word with
  | none => P t
  | some w => (t.bank c b).pc = (s.bank c b).pc ∧ (t.bank c b).regs = (s.bank c b).regs ∧ (t.bank c b).tsw = (s.bank c b).tsw
      ∧ w.val ∈ (t.core c).badWords ∧ ((s.core c).mcheck = none → (t.core c).mcheck = some ⟨b, false, 0, 0⟩)

/-- A bank that no event source and no held fault is about to wake: nothing is pending on its core. -/
def Quiet (s : State) (c : CoreId) (b : BankId) : Prop :=
  (s.core c).pend = [] ∧ (s.bank c b).heldBudget = [] ∧ (s.bank c b).heldV = []

/-- A well-formed value of one of the listed tags (04 R138). -/
def IsTyped (l : List (BitVec 4)) (v : TVal) : Prop := v.tag ∈ l ∧ malformed v = false

/-- A bank's state after it blocked itself (09 R401, R406). -/
def Bank.blockedOn (k : Bank) (w : Wait) : Bank := { k with st := .blocked, wait := some w, selfBlocked := true }


/-! ### Commands from the host, the chain and the service core -/

/-- A frame of a class that its port takes in for this device: the state after, and its payload (14 R574 to R578). -/
def TakenIn (cls : Nat) (f : RxFrame) (s u : State) (body : Octets) : Prop :=
  f.hdr.cls.toNat = cls ∧ s.takeFrame f = (u, some body)

/-- The oldest device command of a class, its host block read where it has one (03 R82, R108). -/
def Commanded (s : State) (cls : Nat) (d : DevCmd) (block : Octets) : Prop :=
  s.devCmd cls = some d ∧ (needsBlock cls = true → d.block = some (some block))

/-- A device command carried out: its effect on the machine without it gives u, and it completes (03 R104). -/
def CarriedOut (i : Instr) (s : State) (d : DevCmd) (u : State) (e : CmdEnd) : Prop :=
  exec i s = .next (u.complete (cmdCpl d e.status e.detail e.resBytes (BitVec.ofNat 32 e.jobWord)))

/-- A ring command on a ring in a state that allows it: the ring becomes as said, every other ring stands, and the command
ends with DONE (03 R104, R107). -/
def ChangesRing (i : Instr) (cls : Nat) (allowed : State → Nat → Prop) (after : DevCmd → Ring → Ring) : Prop :=
  ∀ (s : State) (d : DevCmd), s.devCmd cls = some d → SMap.wf Ring.absent s.host.rings = true → allowed s (fieldAt d.desc 8 2) →
    ∃ u, CarriedOut i s d u .done ∧ u.ring (fieldAt d.desc 8 2) = after d (s.ring (fieldAt d.desc 8 2))
      ∧ (∀ q, q ≠ fieldAt d.desc 8 2 → u.ring q = s.ring q) ∧ u.adm = (s.dropCmd d).adm

/-- A ring command on a ring in a state that does not allow it ends with BAD_RING_STATE and the state of its ring, and changes
no ring (03 R104, R107). -/
def RefusedByRing (i : Instr) (cls : Nat) (allowed : State → Nat → Prop) : Prop :=
  ∀ (s : State) (d : DevCmd), s.devCmd cls = some d → ¬ allowed s (fieldAt d.desc 8 2) →
    CarriedOut i s d (s.dropCmd d) ⟨0x12, (s.ring (fieldAt d.desc 8 2)).st.code, 0, 0⟩

/-- The service core takes a mailbox message: BAR0 answers, the core runs, no message is in progress (21 R821, R822). -/
def MbxReady (s : State) : Prop :=
  s.powered = true ∧ (s.bootDone = true ∨ s.svc.stage = .recovery) ∧ s.host.mbx.busy = false

/-- The value written to MBX_CMD: MSG and LEN (21 R821). -/
def mbxCmd (msg len : Nat) : W64 := BitVec.ofNat 64 (msg + len * 2 ^ 32)

/-- A message of the mailbox done: its effect gives u, its RESULT and output are in MBX_STATUS and the buffer (21 R821). -/
def MbxDone (i : Instr) (s u : State) (result : Nat) (out : Octets) : Prop :=
  exec i s = .next { u with host := { u.host with mbx := ⟨result, false, true, bufPut u.host.mbx.buf 0 out⟩ } }

/-- A reply over a port, and nothing else (17 R679; 19 R751; 21 R819). -/
def Answers (i : Instr) (s : State) (data : Octets) : Prop := exec i s = .next (s.reply data)

/-- A command of the regulator port that passes every check (16 R649, R652, R653): an Ethernet frame for this device whose
payload is a header of VER 1, its message code and LEN, and a body of 160 octets. -/
def RegAccepts (s : State) (msg : Nat) (frame : Octets) : Prop :=
  s.portPowered = true ∧ s.reg.up = true ∧ s.regHears frame = true ∧ isCommand msg (frame.drop 14) = true
    ∧ s.regResult msg (frame.drop 14) = 0

/-- The value in register d after n iterations of a prefixed operation of registers a and e, which held x and y: a source that
is d is the iteration's own, one that is the count register k counts down from z (06 R252 to R254). -/
def repeated (op : Payload → Payload → Payload) (d a e : Reg) (k : Option Reg) (x y z v : Payload) : Nat → Payload
  | 0 => v
  | n + 1 =>
    let r := repeated op d a e k x y z v n
    let src := fun (i : Reg) (p : Payload) => if i = d then r else if some i = k then z - BitVec.ofNat 128 n else p
    op (src a x) (src e y)

/-- The prefixed word's operation and registers are these: opcode, function, the three register fields (05 R196; 06 R252). -/
def PrefixA (w : W32) (op fn : Nat) (d a e : Reg) : Prop :=
  definedWord w = true ∧ fld w 31 24 = op ∧ fldFn w = fn ∧ regFld w 23 = d ∧ regFld w 18 = a ∧ regFld w 13 = e

/-- As PrefixA, for an instruction with an immediate or a displacement. -/
def PrefixB (w : W32) (op : Nat) (d a : Reg) : Prop := definedWord w = true ∧ fld w 31 24 = op ∧ regFld w 23 = d ∧ regFld w 18 = a

/-- Something was sent after what had been sent before. -/
def Sent (s t : State) (e : Emission) : Prop := ∃ more, t.out = s.out ++ e :: more

/-- The boot's environment is ready and its slot passes the checks of the boot ROM, of its packages and of its supervisor (18
R703; 19 R742; 20 R770, R796). -/
def WillBoot (s : State) (e : BootEnv) : Prop :=
  e.refclk = true ∧ e.dieWarm = true ∧ e.hangsAt = none ∧ s.bootable s.bootTarget = true
    ∧ s.packageRefusal (s.slotOf s.bootTarget) = none ∧ (s.slotOf s.bootTarget).supervisorOk = true

/-- State t is s booted (19 R742, R743): the slot, the boot count and the source recorded; P2 where a reason stands, otherwise
P0. -/
def BootedFrom (s t : State) (src : ResetSrc) : Prop :=
  t.upd.active = s.bootTarget ∧ t.svc.bootCount = s.svc.bootCount + 1 ∧ t.svc.source = src ∧ t.bootDone = true
    ∧ t.power.st = (if t.power.reasons = 0 then .p0 else .p2) ∧ t.t.run = s.t.run ∧ t.host.rings = s.host.rings

/-- A frame of update distribution taken in: its KIND and payload, obeying R715 (18 R715). -/
def UpdTaken (kind : Nat) (f : RxFrame) (s u : State) (body : Octets) : Prop :=
  TakenIn 5 f s u body ∧ 32 ≤ body.length ∧ body.head? = some (octet kind) ∧ zeroAt body 2 2 = true

/-- A control message taken in: its CODE and payload (14 R581). -/
def CtlTaken (code : Nat) (f : RxFrame) (s u : State) (body : Octets) : Prop :=
  TakenIn 1 f s u body ∧ body.head? = some (octet code)

/-- An activation message for the open session taken in (18 R721). -/
def ActTaken (code : Nat) (f : RxFrame) (s u : State) (body : Octets) (x : Session) : Prop :=
  CtlTaken code f s u body ∧ body.length = 64 ∧ u.upd.session = some x ∧ slice body 16 48 = x.digest

/-- The fallback carried on or completed: FALLBACK or FELL_BACK is the newest step (18 R720, R729). -/
def FallingBack (t : State) : Prop := t.intentStep = 9 ∨ (t.intentStep = 11 ∧ t.upd.session = none)

end Sys2Proof.Machine
end

