-- ==== Sys2Proof/Certificates/Slice0/Obligations.lean ====
section
/-! DEFINITION. The statements for the provers. -/

open Sys2Proof Sys2Proof.Machine

/-! ### Ledger core: integers, tags, memory, branches -/

/-- ADD, SUB, MUL, MULH of two BIN registers: the result modulo 2^128, and the high half of the signed 256-bit product (06 R232,
R233). Nothing else changes but what completing an instruction changes. ADDI, ADDIS and MOVI: the immediate is sign-extended (06
R232). DIV and REM by a divisor that is not zero: the quotient truncated toward zero, the remainder with the sign of the
dividend, sent to the completion port for the destination register (06 R232 to R234; 05 R205). A DIV or REM whose divisor is
zero takes DZERO, vector 7, with cause 2, and changes nothing else (06 R235). -/
def Obligations.Integers : Prop :=
  (∀ (s : State) (c : CoreId) (b : BankId) (d a e : Reg) (x y : Payload),
      Issues s c b → Holds s c b a ⟨tBIN, x⟩ → Holds s c b e ⟨tBIN, y⟩ → Ready s c b d →
      ∀ p ∈ [(Instr.add c d a e, x.toInt + y.toInt), (Instr.sub c d a e, x.toInt - y.toInt),
          (Instr.mul c d a e, x.toInt * y.toInt), (Instr.mulh c d a e, x.toInt * y.toInt / 2 ^ 128)],
        Completes p.1 s (fun t => MovedOn s (s.setReg c b d ⟨tBIN, BitVec.ofInt 128 p.2⟩) t c b 1))
  ∧ (∀ (s : State) (c : CoreId) (b : BankId) (d a : Reg) (x : Payload) (imm : BitVec 14),
      Issues s c b → Ready s c b d →
        (Holds s c b a ⟨tBIN, x⟩ →
          Completes (.addi c d a imm) s (fun t => MovedOn s (s.setReg c b d ⟨tBIN, BitVec.ofInt 128 (x.toInt + imm.toInt)⟩) t c b 1)
          ∧ Completes (.addis c d a imm) s
              (fun t => MovedOn s (s.setReg c b d ⟨tBIN, BitVec.ofInt 128 (x.toInt + imm.toInt * 65536)⟩) t c b 1))
        ∧ Completes (.movi c d imm) s (fun t => MovedOn s (s.setReg c b d ⟨tBIN, BitVec.ofInt 128 imm.toInt⟩) t c b 1))
  ∧ (∀ (s : State) (c : CoreId) (b : BankId) (d a e : Reg) (x y : Payload),
      Issues s c b → Holds s c b a ⟨tBIN, x⟩ → Holds s c b e ⟨tBIN, y⟩ → Ready s c b d → y ≠ 0 →
      ∀ p ∈ [(Instr.div c d a e, Int.tdiv x.toInt y.toInt), (Instr.rem c d a e, Int.tmod x.toInt y.toInt)],
        Completes p.1 s (fun t =>
          MovedOn s (s.sendPort c ⟨b, some ((s.bank c b).slot b d), ⟨tBIN, BitVec.ofInt 128 p.2⟩, 0, none⟩) t c b 1))
  ∧ (∀ (s : State) (c : CoreId) (b : BankId) (d a e : Reg) (x : Payload),
      Issues s c b → Holds s c b a ⟨tBIN, x⟩ → Holds s c b e ⟨tBIN, 0⟩ → Ready s c b d →
      ∀ i ∈ [Instr.div c d a e, Instr.rem c d a e], exec i s = .next ((s.latch c b 7 2 0 0).endStep c))

/-- The logical instructions on RAW or BIN operands: bit by bit; the result is BIN if every operand is BIN, otherwise RAW (06
R236; 04 R163). ANDI, ORI, XORI with the immediate zero-extended, and POPC, the number of 1 bits, always BIN (06 R236). The
shifts: SLL and SRL by b[6:0] with zeros entering, SRA with bit 127 entering, and their immediate forms (06 R236). -/
def Obligations.LogicAndShifts : Prop :=
  ((∀ (s : State) (c : CoreId) (b : BankId) (d a e : Reg) (ta te : BitVec 4) (x y : Payload),
          Issues s c b → Ready s c b d → (ta = tRAW ∨ ta = tBIN) → (te = tRAW ∨ te = tBIN) →
          Holds s c b a ⟨ta, x⟩ → Holds s c b e ⟨te, y⟩ →
          ∀ p ∈ [(Instr.andR c d a e, fun i : Nat => x.getLsbD i && y.getLsbD i), (Instr.orR c d a e, fun i => x.getLsbD i || y.getLsbD i),
              (Instr.xorR c d a e, fun i => x.getLsbD i ^^ y.getLsbD i), (Instr.andn c d a e, fun i => x.getLsbD i && !y.getLsbD i)],
            ∃ v : Payload, (∀ i, i < 128 → v.getLsbD i = p.2 i)
              ∧ Completes p.1 s (fun t => MovedOn s (s.setReg c b d ⟨if ta = tBIN ∧ te = tBIN then tBIN else tRAW, v⟩) t c b 1))
      ∧ (∀ (s : State) (c : CoreId) (b : BankId) (d a : Reg) (ta : BitVec 4) (x : Payload) (imm : BitVec 14),
          Issues s c b → Ready s c b d → (ta = tRAW ∨ ta = tBIN) → Holds s c b a ⟨ta, x⟩ →
          (∀ p ∈ [(Instr.andi c d a imm, fun i : Nat => x.getLsbD i && imm.getLsbD i), (Instr.ori c d a imm, fun i => x.getLsbD i || imm.getLsbD i),
              (Instr.xori c d a imm, fun i => x.getLsbD i ^^ imm.getLsbD i)],
            ∃ v : Payload, (∀ i, i < 128 → v.getLsbD i = p.2 i) ∧ Completes p.1 s (fun t => MovedOn s (s.setReg c b d ⟨ta, v⟩) t c b 1))
          ∧ Completes (.popc c d a) s (fun t => MovedOn s
              (s.setReg c b d ⟨tBIN, BitVec.ofNat 128 ((List.range 128).countP (fun i => x.getLsbD i))⟩) t c b 1)))
  ∧ (∀ (s : State) (c : CoreId) (b : BankId) (d a e : Reg) (ta te : BitVec 4) (x y : Payload) (n : BitVec 7),
        Issues s c b → Ready s c b d → (ta = tRAW ∨ ta = tBIN) → (te = tRAW ∨ te = tBIN) → Holds s c b a ⟨ta, x⟩ →
        (Holds s c b e ⟨te, y⟩ →
          ∀ p ∈ [(Instr.sll c d a e, x.toNat * 2 ^ (y.toNat % 128)), (Instr.srl c d a e, x.toNat / 2 ^ (y.toNat % 128))],
            Completes p.1 s (fun t => MovedOn s
              (s.setReg c b d ⟨if ta = tBIN ∧ te = tBIN then tBIN else tRAW, BitVec.ofNat 128 p.2⟩) t c b 1))
        ∧ (Holds s c b e ⟨te, y⟩ → Completes (.sra c d a e) s (fun t => MovedOn s
            (s.setReg c b d ⟨if ta = tBIN ∧ te = tBIN then tBIN else tRAW, BitVec.ofInt 128 (x.toInt / 2 ^ (y.toNat % 128))⟩) t c b 1))
        ∧ ∀ p ∈ [(Instr.slli c d a n, BitVec.ofNat 128 (x.toNat * 2 ^ n.toNat)), (Instr.srli c d a n, BitVec.ofNat 128 (x.toNat / 2 ^ n.toNat)),
            (Instr.srai c d a n, BitVec.ofInt 128 (x.toInt / 2 ^ n.toNat))],
          Completes p.1 s (fun t => MovedOn s (s.setReg c b d ⟨ta, p.2⟩) t c b 1))

/-- MOV copies tag and payload of any value that is neither POISON nor of a reserved tag; GTAG gives its tag (06 R232, R256; 04
R159, R825). A relabel keeps the payload. RETAGU in supervisor mode, and RETAG where the payload is legal under the new tag: in
supervisor mode any of the tags, in user mode those R165 allows; a tag from 0xB to 0xE takes RI (06 R256, R257; 04 R165). REFGET
reads base, length, or rights and key of a REF; REFN narrows it: base and length by b, the rights b names taken away, the key kept,
so that the result never reaches an octet or a right the operand did not (06 R256, R258; 04 R136). A register write reaches the
destination register only: every other register of every bank, every control field and every octet of memory stands (05 R168 to
R173). -/
def Obligations.TagInstructions : Prop :=
  (∀ (s : State) (c : CoreId) (b : BankId) (d a : Reg) (v : TVal),
      Issues s c b → Ready s c b d → Holds s c b a v → v.tag.toNat < 0xB →
      Completes (.mov c d a) s (fun t => MovedOn s (s.setReg c b d v) t c b 1)
      ∧ Completes (.gtag c d a) s (fun t => MovedOn s (s.setReg c b d ⟨tBIN, BitVec.ofNat 128 v.tag.toNat⟩) t c b 1))
  ∧ (∀ (s : State) (c : CoreId) (b : BankId) (d a : Reg) (v : TVal) (tag : BitVec 4),
      Issues s c b → Ready s c b d → Holds s c b a v → v.tag.toNat < 0xB → (tag.toNat < 0xB ∨ tag = tPOISON) →
      (Super s c b → Completes (.retagu c d a tag) s (fun t => MovedOn s (s.setReg c b d ⟨tag, v.val⟩) t c b 1))
      ∧ ((Super s c b ∨ tag = v.tag ∨ (v.tag = tRAW ∧ tag ≠ tREF ∧ tag ≠ tPOISON) ∨ (tag = tRAW ∧ v.tag ≠ tREF)) →
          (tag = v.tag ∨ malformed ⟨tag, v.val⟩ = false) →
          Completes (.retag c d a tag) s (fun t => MovedOn s (s.setReg c b d ⟨tag, v.val⟩) t c b 1)))
  ∧ (∀ (s : State) (c : CoreId) (b : BankId) (d a : Reg) (tag : BitVec 4), Issues s c b → 0xB ≤ tag.toNat → tag ≠ tPOISON →
      Traps (.retag c d a tag) s c b 1 0 0 0 ∧ Traps (.retagu c d a tag) s c b 1 0 0 0)
  ∧ (∀ (s : State) (c : CoreId) (b : BankId) (d a e : Reg) (x y : Payload),
      Issues s c b → Ready s c b d → Holds s c b a ⟨tREF, x⟩ → malformed ⟨tREF, x⟩ = false →
      (∀ p ∈ [((0 : Fin 3), x.extractLsb' 0 32), (1, x.extractLsb' 32 32), (2, (x.extractLsb' 64 6).setWidth 32)],
        Completes (.refget c d a p.1) s (fun t => MovedOn s (s.setReg c b d ⟨tBIN, p.2.setWidth 128⟩) t c b 1))
      ∧ (Holds s c b e ⟨tBIN, y⟩ → y.toNat < 2 ^ 66 → bits y 0 32 + bits y 32 32 ≤ refLen x →
        ∃ v : Payload, refLen v = bits y 32 32 % 2 ^ 32 ∧ refBase v = (refBase x + bits y 0 32) % 2 ^ 32 ∧ refKey v = refKey x
          ∧ refWrite v = (refWrite x && !y.getLsbD 64) ∧ refRead v = (refRead x && !y.getLsbD 65)
          ∧ Completes (.refn c d a e) s (fun t => MovedOn s (s.setReg c b d ⟨tREF, v⟩) t c b 1)))
  ∧ (∀ (s : State) (c : CoreId) (b : BankId) (d : Reg) (v : TVal),
       ((s.setReg c b d v).bank c b).reg b d = v
       ∧ (∀ r, (s.bank c b).slot b r ≠ (s.bank c b).slot b d → ((s.setReg c b d v).bank c b).reg b r = (s.bank c b).reg b r)
       ∧ (s.setReg c b d v).bank c b = { s.bank c b with regs := ((s.setReg c b d v).bank c b).regs }
       ∧ (∀ c' b', (c', b') ≠ (c, b) → (s.setReg c b d v).bank c' b' = s.bank c' b')
       ∧ (∀ c' a, (s.setReg c b d v).byte c' a = s.byte c' a)
       ∧ s.setReg c b d v = { s with cores := (s.setReg c b d v).cores })

/-- The loads of 1 to 8 bytes: the bytes at base plus displacement, least significant first, zero- or sign-extended to a BIN, as the
error correction leaves the granules they touch, once the address, protection and tag checks pass (06 R237; 04 R160; 12 R497, R498).
LDG loads a whole aligned granule, tag and payload; LDU8 loads 8 bytes at base and then advances the base (06 R237, R239; 04 R159).
The instruction after a bench load that uses the loaded register is held one cycle, which its bank is charged, and no other is (05
R203; 09 R404). Which accesses by a BIN base are permitted, for bytes within one granule of mapped memory: a load unless the frame
is FREE or fetch-protected under another key, a store only into a DATA frame of a matching key; supervisor mode matches every key
(05 R184, R188, R189, R191). -/
def Obligations.Loads : Prop :=
  (∀ (s : State) (c : CoreId) (b : BankId) (d base : Reg) (v : TVal) (disp : BitVec 14) (errs : Errs) (n addr : Nat),
      Issues s c b → Ready s c b d → Holds s c b base v → IsBase v → n ∈ [1, 2, 4, 8] → Reaches s c b v disp.toInt .load n addr →
      (s.findErrors c errs (granAddrs addr n)).checkGrans c addr n octetTags 4 = .ok () →
      ∀ p ∈ [(Instr.ld1 c d base disp errs, 1, false), (Instr.ld2 c d base disp errs, 2, false), (Instr.ld4 c d base disp errs, 4, false),
          (Instr.ld8 c d base disp errs, 8, false), (Instr.ld1s c d base disp errs, 1, true), (Instr.ld2s c d base disp errs, 2, true),
          (Instr.ld4s c d base disp errs, 4, true), (Instr.ld8s c d base disp errs, 8, true)],
        p.2.1 = n →
        let u := s.findErrors c errs (granAddrs addr n)
        let m := leNat (u.octets c addr n)
        Completes p.1 s (fun t => MovedOn s
          (u.setReg c b d ⟨tBIN, BitVec.ofInt 128 (if p.2.2 then Int.bmod m (2 ^ (8 * n)) else m)⟩) t c b 1
          ∧ (t.core c).loaded = if isBay addr then none else some (b, (s.bank c b).slot b d)))
  ∧ (∀ (s : State) (c : CoreId) (b : BankId) (d a e : Reg) (errs : Errs) (disp : BitVec 14),
      Issues s c b → (s.core c).inFlight b ((s.bank c b).slot b a) = false → (s.core c).loaded = some (b, (s.bank c b).slot b a) →
      ∀ i ∈ [Instr.add c d a e, .sub c d a e, .mov c d a, .andR c d a e, .ld8 c d a disp errs, .ldg c d a disp errs],
        exec i s = .next ((s.charge c b 1).modCore c (fun k => { k with loaded := none })))
  ∧ (∀ (s : State) (c : CoreId) (b : BankId) (d base : Reg) (v : TVal) (disp : BitVec 14) (errs : Errs) (addr : Nat),
      Issues s c b → Ready s c b d → Holds s c b base v →
      (IsBase v → Reaches s c b v disp.toInt .load 16 addr → addr % 16 = 0 →
        (s.findErrors c errs [addr]).checkGrans c addr 16 anyTag 4 = .ok () →
        Completes (.ldg c d base disp errs) s (fun t => MovedOn s
          ((s.findErrors c errs [addr]).setReg c b d ((s.findErrors c errs [addr]).gran c addr)) t c b 1))
      ∧ (v.tag = tBIN → d ≠ base → Reaches s c b v 0 .load 8 addr →
        (s.findErrors c errs (granAddrs addr 8)).checkGrans c addr 8 octetTags 4 = .ok () →
        let u := s.findErrors c errs (granAddrs addr 8)
        Completes (.ldu8 c d base disp errs) s (fun t => MovedOn s
          ((u.setReg c b d ⟨tBIN, BitVec.ofNat 128 (leNat (u.octets c addr 8))⟩).setReg
            c b base ⟨tBIN, v.val + disp.signExtend 128⟩) t c b 1)))
  ∧ (∀ (s : State) (c : CoreId) (b : BankId) (x : Payload) (off : Int) (n addr : Nat) (e : FrameEntry),
       x.toNat < 2 ^ 32 → (x.toNat : Int) + off = addr → addr < 2 ^ 32 → 1 ≤ n → addr % 16 + n ≤ 16 → s.frame c addr = some e →
       (Reaches s c b ⟨tBIN, x⟩ off .load n addr ↔
         e.st ≠ .free ∧ (Super s c b ∨ tswKey (s.bank c b).tsw = e.key ∨ e.fp = false))
       ∧ (Reaches s c b ⟨tBIN, x⟩ off .store n addr ↔
         e.st = .data ∧ (Super s c b ∨ tswKey (s.bank c b).tsw = e.key)))

/-- The stores of 1 to 8 bytes: after ST1, ST2, ST4 and ST8 the bytes from the address on read as the low bytes of the source,
least significant first; their granules are RAW; every other byte reads as before, and nothing else changes but what completing
changes (06 R237; 04 R161). STG stores a register whole, tag and payload, into an aligned granule; STU8 stores 8 bytes at base
and then advances the base, the old value being stored where the two registers are one (06 R237, R239; 12 R500). -/
def Obligations.Stores : Prop :=
  (∀ (s : State) (c : CoreId) (b : BankId) (src base : Reg) (v w : TVal) (disp : BitVec 14) (n addr : Nat),
      s.memWf → Issues s c b → Holds s c b base v → IsBase v → Holds s c b src w → Reaches s c b v disp.toInt .store n addr →
      s.checkStore c addr n = .ok () →
      ∀ p ∈ [(Instr.st1 c src base disp, 1), (Instr.st2 c src base disp, 2), (Instr.st4 c src base disp, 4), (Instr.st8 c src base disp, 8)],
        p.2 = n → (w.tag = tRAW ∨ w.tag = tBIN ∨ (n = 8 ∧ w.tag = tB64 ∧ malformed w = false)) →
        Completes p.1 s (fun t => MovedOn s (s.setOctets c addr (leBytes n w.val.toNat)) t c b 1
          ∧ (∀ i, i < n → t.byte c (addr + i) = w.val.extractLsb' (8 * i) 8)
          ∧ (∀ i, i < n → (t.gran c (addr + i)).tag = tRAW)
          ∧ (∀ a, a < addr ∨ addr + n ≤ a → t.byte c a = s.byte c a)))
  ∧ (∀ (s : State) (c : CoreId) (b : BankId) (src base : Reg) (v w : TVal) (disp : BitVec 14) (addr : Nat),
      s.memWf → Issues s c b → Holds s c b base v → Holds s c b src w →
      (IsBase v → w.tag.toNat < 0xB → Reaches s c b v disp.toInt .store 16 addr → addr % 16 = 0 →
        Completes (.stg c src base disp) s (fun t => MovedOn s (s.setGran c addr w) t c b 1 ∧ t.gran c addr = w
          ∧ (∀ a, a < addr ∨ addr + 16 ≤ a → t.byte c a = s.byte c a)))
      ∧ (v.tag = tBIN → (w.tag = tRAW ∨ w.tag = tBIN ∨ (w.tag = tB64 ∧ malformed w = false)) → Reaches s c b v 0 .store 8 addr → s.checkStore c addr 8 = .ok () →
        Completes (.stu8 c src base disp) s (fun t => MovedOn s
          ((s.setOctets c addr (leBytes 8 w.val.toNat)).setReg c b base ⟨tBIN, v.val + disp.signExtend 128⟩) t c b 1
          ∧ (∀ i, i < 8 → t.byte c (addr + i) = w.val.extractLsb' (8 * i) 8)
          ∧ (∀ a, a < addr ∨ addr + 8 ≤ a → t.byte c a = s.byte c a))))

/-- CB branches on its condition over two RAW or BIN registers: equality, signed and unsigned order, any common 1 bit; a branch not
taken falls through and neither form writes anything (06 R240, R241). BCC branches when the mask bit CC names is 1; BR always; JR to
a register's address, a multiple of 4 below 2^32 (06 R240, R242, R243). CALL and CALLR outside a loop's body advance the window by
one, put the return address into the callee's W15, clear the rest of its private set, results on their way to it among them, and
jump; WVAL rises by 1 (06 R240, R244; 05 R170, R172). RET jumps to W15 and retreats the window by one; no register's contents change
(06 R240, R243; 05 R172). The model's own choices: a result in flight to a cleared register is dropped (log entry 110), and a target
past either end of the 32-bit range wraps (log entry 20). -/
def Obligations.BranchesAndCalls : Prop :=
  ((∀ (s : State) (c : CoreId) (b : BankId) (a e : Reg) (ta te : BitVec 4) (x y : Payload) (disp : BitVec 11),
          Issues s c b → (ta = tRAW ∨ ta = tBIN) → (te = tRAW ∨ te = tBIN) → Holds s c b a ⟨ta, x⟩ → Holds s c b e ⟨te, y⟩ →
          ∀ p ∈ [((0 : Fin 8), decide (x = y)), (1, decide (x ≠ y)), (2, decide (x.toInt < y.toInt)), (3, decide (y.toInt ≤ x.toInt)),
              (4, decide (x.toNat < y.toNat)), (5, decide (y.toNat ≤ x.toNat)), (6, decide (x &&& y ≠ 0)), (7, decide (x &&& y = 0))],
            Completes (.cb c a e p.1 disp) s (fun t =>
              if p.2 then JumpedTo s t c b ((s.bank c b).pc + BitVec.ofInt 32 (4 * disp.toInt)) else MovedOn s s t c b 1))
      ∧ (∀ (s : State) (c : CoreId) (b : BankId) (mask : BitVec 4) (d11 : BitVec 11) (d24 : BitVec 24) (a : Reg) (x : Payload),
          Issues s c b →
          Completes (.bcc c mask d11) s (fun t =>
            if mask.getLsbD (tswCc (s.bank c b).tsw) then JumpedTo s t c b ((s.bank c b).pc + BitVec.ofInt 32 (4 * d11.toInt))
            else MovedOn s s t c b 1)
          ∧ Completes (.br c d24) s (fun t => JumpedTo s t c b ((s.bank c b).pc + BitVec.ofInt 32 (4 * d24.toInt)))
          ∧ (Holds s c b a ⟨tBIN, x⟩ → x.toNat < 2 ^ 32 → x.toNat % 4 = 0 →
              Completes (.jr c a) s (fun t => JumpedTo s t c b (x.setWidth 32)))))
  ∧ ((∀ (s : State) (c : CoreId) (b : BankId) (disp : BitVec 24) (a : Reg) (x : Payload),
          Issues s c b → b ≠ bankT → (s.bank c b).inBody = false → tswWval (s.bank c b).tsw < 5 →
          ∀ p ∈ [(Instr.call c disp, (s.bank c b).pc + BitVec.ofInt 32 (4 * disp.toInt)), (Instr.callr c a, x.setWidth 32)],
            (p.1 = .callr c a → Holds s c b a ⟨tBIN, x⟩ ∧ x.toNat < 2 ^ 32 ∧ x.toNat % 4 = 0) →
            Completes p.1 s (fun t =>
              CompletesFrom (s.modCore c (fun k => (k.dropResults b (privateSlot ((tswCwp (s.bank c b).tsw + 1) % 6))).setBank b (t.bank c b))) t c b
              ∧ (t.bank c b).pc = p.2 ∧ t.bank c b = (fun k w : Bank =>
                  { k with pc := w.pc, regs := w.regs, tsw := w.tsw, cycb := w.cycb, budgetDue := w.budgetDue, budgetTaken := w.budgetTaken })
                    (s.bank c b) (t.bank c b)
              ∧ (∀ i, i < 40 ∨ 46 ≤ i → (t.bank c b).tsw.getLsbD i = (s.bank c b).tsw.getLsbD i)
              ∧ tswCwp (t.bank c b).tsw = (tswCwp (s.bank c b).tsw + 1) % 6 ∧ tswWval (t.bank c b).tsw = tswWval (s.bank c b).tsw + 1
              ∧ (t.bank c b).reg b 23 = ⟨tBIN, ((s.bank c b).pc + 4).setWidth 128⟩
              ∧ (∀ r : Reg, 16 ≤ r.val → r.val < 23 → (t.bank c b).reg b r = TVal.zero)
              ∧ (∀ r : Reg, r.val < 8 → (t.bank c b).reg b r = (s.bank c b).reg b r)
              ∧ (∀ i : Fin 8, (t.bank c b).reg b ⟨8 + i.val, by omega⟩ = (s.bank c b).reg b ⟨24 + i.val, by omega⟩)))
      ∧ (∀ (s : State) (c : CoreId) (b : BankId) (x : Payload),
          Issues s c b → b ≠ bankT → Holds s c b 23 ⟨tBIN, x⟩ → x.toNat < 2 ^ 32 → x.toNat % 4 = 0 →
          1 < tswWval (s.bank c b).tsw →
          Completes (.ret c) s (fun t => JumpedTo (s.modBank c b (fun k => { k with tsw := (t.bank c b).tsw })) t c b (x.setWidth 32)
            ∧ (t.bank c b).regs = (s.bank c b).regs ∧ (∀ i, i < 40 ∨ 46 ≤ i → (t.bank c b).tsw.getLsbD i = (s.bank c b).tsw.getLsbD i)
            ∧ tswCwp (t.bank c b).tsw = (tswCwp (s.bank c b).tsw + 5) % 6 ∧ tswWval (t.bank c b).tsw = tswWval (s.bank c b).tsw - 1)))

/-- LOOP where no loop runs: a count of 0 clears LCNT and jumps past the body; any other count up to 2^32 − 1 starts the loop: LCNT
holds the count, LEND is active with END at the body's last word, LEN its words less 1, MODE and MASK those of TSW (06 R245, R246).
The loop step: an instruction that completes at END without a taken branch, while the loop runs and is not suspended, counts LCNT
down and goes back to the body's start, or past END when LCNT reaches 0 (06 R247). Shown of NOP. RPT repeats each instruction that
may be prefixed: with an immediate count imm + 1 times, with a register count that many times, the count register then 0; each
iteration takes up the registers the one before left, so that LDU8 and STU8 walk (06 R252 to R255). The prefixed word is given by
its fields. -/
def Obligations.LoopsAndRepeats : Prop :=
  ((∀ (s : State) (c : CoreId) (b : BankId) (a : Reg) (len : BitVec 6) (x : Payload),
          Issues s c b → Holds s c b a ⟨tBIN, x⟩ → x.toNat < 2 ^ 32 → (s.bank c b).lend.getLsbD 31 = false →
          (x = 0 → Completes (.loop c a len) s (fun t =>
            JumpedTo (s.modBank c b (fun k => { k with lcnt := 0 })) t c b ((s.bank c b).pc + BitVec.ofNat 32 (4 * (len.toNat + 2)))))
          ∧ (x ≠ 0 → Completes (.loop c a len) s (fun t => CompletesFrom s t c b
              ∧ (t.bank c b).lcnt = x.setWidth 32 ∧ (t.bank c b).pc = (s.bank c b).pc + 4 ∧ (t.bank c b).lend.getLsbD 31 = true
              ∧ (t.bank c b).lend.getLsbD 30 = tswMode (s.bank c b).tsw ∧ (t.bank c b).lend.extractLsb' 26 4 = (s.bank c b).tsw.extractLsb' 55 4
              ∧ ((s.bank c b).pc.toNat % 4 = 0 → (s.bank c b).pc.toNat + 4 * (len.toNat + 1) < 2 ^ 19 →
                lendEnd (t.bank c b).lend = (s.bank c b).pc.toNat + 4 * (len.toNat + 1)
                ∧ lendStart (t.bank c b).lend = (s.bank c b).pc.toNat + 4))))
      ∧ (∀ (s : State) (c : CoreId) (b : BankId),
          Issues s c b → (s.bank c b).loopLive = true → (s.bank c b).pc.toNat = lendEnd (s.bank c b).lend →
          Completes (.nop c) s (fun t => CompletesFrom s t c b ∧ (t.bank c b).lcnt = (s.bank c b).lcnt - 1
            ∧ (if (s.bank c b).lcnt = 1 then (t.bank c b).pc = (s.bank c b).pc + 4 ∧ (t.bank c b).lend.getLsbD 31 = false
              else (t.bank c b).pc = BitVec.ofNat 32 (lendStart (s.bank c b).lend) ∧ (t.bank c b).lend = (s.bank c b).lend))))
  ∧ (∀ (s : State) (c : CoreId) (b : BankId) (d a e k : Reg) (ta te : BitVec 4) (x y z v : Payload) (imm : BitVec 7) (w : W32) (iters : Nat) (errs : Errs),
        IssuesTwo s c b → ¬ ((s.bank c b).inBody = true ∧ lendEnd (s.bank c b).lend < (s.bank c b).pc.toNat + 4) → Ready s c b d →
        Holds s c b a ⟨ta, x⟩ → ((s.bank c b).reg b d).val = v →
        let i14 := w.extractLsb' 0 14
        let i7 := (w.extractLsb' 0 7).toNat
        let once := fun (both bin : Bool) (op : Payload → Payload → Payload) (tag : BitVec 4) =>
          (both = true → (bin = true → ta = tBIN ∧ te = tBIN) → imm.toNat < 64 → Completes (.rpt c false false 0 imm w iters errs) s (fun t =>
            MovedOn s (s.setReg c b d ⟨tag, repeated op d a e none x y z v (imm.toNat + 1)⟩) t c b 2))
          ∧ (k ≠ d → (bin = true → ta = tBIN ∧ te = tBIN) → Holds s c b k ⟨tBIN, z⟩ → 0 < z.toNat → z.toNat < 2 ^ 32 → z.toNat ≤ iters →
            Completes (.rpt c true true k 0 w iters errs) s (fun t =>
              MovedOn s ((s.setReg c b d ⟨tag, repeated op d a e (some k) x y z v z.toNat⟩).setReg c b k ⟨tBIN, 0⟩) t c b 2))
        let plain := (ta = tRAW ∨ ta = tBIN) ∧ (te = tRAW ∨ te = tBIN)
        (plain → Holds s c b e ⟨te, y⟩ →
          ∀ p ∈ [(0x10, 0, true, true, fun m n : Payload => m + n), (0x10, 1, true, true, fun m n => m - n), (0x10, 4, false, true, fun m n => m * n),
              (0x10, 5, false, true, fun m n => BitVec.ofInt 128 (m.toInt * n.toInt / 2 ^ 128)), (0x20, 0, true, false, fun m n => m &&& n),
              (0x20, 1, true, false, fun m n => m ||| n), (0x20, 2, true, false, fun m n => m ^^^ n), (0x20, 3, true, false, fun m n => m &&& ~~~n),
              (0x20, 8, true, false, fun m n => m <<< (n.toNat % 128)), (0x20, 9, true, false, fun m n => m >>> (n.toNat % 128)),
              (0x20, 10, true, false, fun m n => m.sshiftRight (n.toNat % 128))],
            PrefixA w p.1 p.2.1 d a e → once p.2.2.1 p.2.2.2.1 p.2.2.2.2 (if ta = tBIN ∧ te = tBIN then tBIN else tRAW))
        ∧ (e = a → te = ta →
          (ta.toNat < 0xB → PrefixA w 0x10 0x10 d a (regFld w 13) → once true false (fun m _ => m) ta)
          ∧ (plain → PrefixA w 0x20 0xC d a (regFld w 13) →
              once true false (fun m _ => BitVec.ofNat 128 ((List.range 128).countP (fun i => m.getLsbD i))) tBIN)
          ∧ (plain → ∀ p ∈ [(0x11, true, fun m : Payload => m + i14.signExtend 128), (0x21, false, fun m => m <<< i7), (0x22, false, fun m => m >>> i7),
              (0x23, false, fun m => m.sshiftRight i7), (0x24, false, fun m => m &&& i14.setWidth 128), (0x25, false, fun m => m ||| i14.setWidth 128),
              (0x26, false, fun m => m ^^^ i14.setWidth 128)],
            PrefixB w p.1 d a → once true p.2.1 (fun m _ => p.2.2 m) ta)))
  ∧ (∀ (s : State) (c : CoreId) (b : BankId) (d base k : Reg) (v q : TVal) (z : Payload) (w : W32) (iters n addr : Nat) (walk : Nat → Nat),
        s.memWf → IssuesTwo s c b → ¬ ((s.bank c b).inBody = true ∧ lendEnd (s.bank c b).lend < (s.bank c b).pc.toNat + 4) →
        Holds s c b base v → Holds s c b d q → k ≠ d → k ≠ base → Holds s c b k ⟨tBIN, z⟩ → z.toNat < 2 ^ 32 → z.toNat ≤ iters →
        let disp := w.extractLsb' 0 14
        let place := fun i : Nat => v.val + BitVec.ofNat 128 i * disp.signExtend 128
        let gives := fun (u : State) => Completes (.rpt c true true k 0 w iters []) s (fun t => MovedOn s (u.setReg c b k ⟨tBIN, 0⟩) t c b 2)
        (∀ r, z = 0 → repeatable c [] w = some r → k ∉ r.writes → gives s)
        ∧ (z ≠ 0 → IsBase v → d ≠ base → Reaches s c b v disp.toInt .load n addr →
          (∀ p ∈ [(0x30, 1, false), (0x31, 1, true), (0x32, 2, false), (0x33, 2, true), (0x34, 4, false), (0x35, 4, true), (0x36, 8, false), (0x37, 8, true)],
            p.2.1 = n → PrefixB w p.1 d base → s.checkGrans c addr n octetTags 4 = .ok () →
            let m := leNat (s.octets c addr n)
            gives (s.setReg c b d ⟨tBIN, BitVec.ofInt 128 (if p.2.2 then Int.bmod m (2 ^ (8 * n)) else m)⟩))
          ∧ (n = 16 → addr % 16 = 0 → PrefixB w 0x38 d base → s.checkGrans c addr 16 anyTag 4 = .ok () → gives (s.setReg c b d (s.gran c addr))))
        ∧ (z ≠ 0 → IsBase v → Reaches s c b v disp.toInt .store n addr →
          (∀ p ∈ [(0x3A, 1), (0x3B, 2), (0x3C, 4), (0x3D, 8)], p.2 = n → PrefixB w p.1 d base → s.checkStore c addr n = .ok () →
            (q.tag = tRAW ∨ q.tag = tBIN ∨ (n = 8 ∧ q.tag = tB64 ∧ malformed q = false)) → gives (s.setOctets c addr (leBytes n q.val.toNat)))
          ∧ (n = 16 → addr % 16 = 0 → PrefixB w 0x3E d base → q.tag.toNat < 0xB → gives (s.setGran c addr q)))
        ∧ (z ≠ 0 → v.tag = tBIN → d ≠ base →
          (PrefixB w 0x39 d base → (∀ i < z.toNat, Reaches s c b ⟨tBIN, place i⟩ 0 .load 8 (walk i) ∧ s.checkGrans c (walk i) 8 octetTags 4 = .ok ()) →
            gives ((s.setReg c b d ⟨tBIN, BitVec.ofNat 128 (leNat (s.octets c (walk (z.toNat - 1)) 8))⟩).setReg c b base ⟨tBIN, place z.toNat⟩))
          ∧ (PrefixB w 0x3F d base → (q.tag = tRAW ∨ q.tag = tBIN ∨ (q.tag = tB64 ∧ malformed q = false)) →
            (∀ i < z.toNat, Reaches s c b ⟨tBIN, place i⟩ 0 .store 8 (walk i) ∧ s.checkStore c (walk i) 8 = .ok ()) →
            gives (((List.range z.toNat).foldl (fun t i => t.setOctets c (walk i) (leBytes 8 q.val.toNat)) s).setReg c b base ⟨tBIN, place z.toNat⟩))))

/-! ### Ledger core: system instructions -/

/-- IFLUSH, FBAR, FMODE and FRCODE with nothing of the bank in flight: the loop buffer discarded; nothing; the timing mode set; the
frame of an address in bench memory made CODE and the fetch path discarded (05 R192, R193, R214; 06 R262, R265; 07 R313). SVC saves
the next PC in SVCP and TSW with the function number in SVCT, sets MODE and goes to SVCE, suspending a running loop; RSV in
supervisor mode takes PC, its bits [1:0] zero, and TSW back, lifting one suspension (05 R177; 06 R250, R262 to R264). The model's
own choices: SVC takes no loop step at END (log entry 22), and RSV clears the bits [1:0] that SVCP may hold (log entry 110). BRK
completes and enters BREAK, vector 14, from the next PC, its immediate in CAUSE and INFO; a word no table defines takes RI, vector
1; a privileged instruction in user mode takes PRIV, vector 2, and does nothing else (05 R176, R198; 06 R256, R259, R262; 09 R361,
R379; 12 R490). -/
def Obligations.SystemInstructions : Prop :=
  (∀ (s : State) (c : CoreId) (b : BankId) (a : Reg) (n : Nat) (e : FrameEntry) (service : Bool),
      Issues s c b → Drained s c b →
      Completes (.iflush c) s (fun t => MovedOn s (s.modCore c (fun k => { k with loopOwner := none })) t c b 1)
      ∧ Completes (.fbar c) s (fun t => MovedOn s s t c b 1)
      ∧ (Super s c b → Completes (.fmode c service) s (fun t => MovedOn s
          (s.modCore c (fun k => { k with serviceMode := service, loopOwner := if service then k.loopOwner else none })) t c b 1))
      ∧ (Super s c b → Holds s c b a (binNat n) → n < 0x80000 → s.frame c n = some e → e.st ≠ .free →
          Completes (.frcode c a) s (fun t => MovedOn s
            ((s.setFrame c n ⟨e.key, e.fp, .code⟩).modCore c (fun k => { k with loopOwner := none })) t c b 1)))
  ∧ (∀ (s : State) (c : CoreId) (b : BankId) (fn : BitVec 24),
      Issues s c b → Drained s c b →
      (b ≠ bankT → (s.bank c b).lend.toNat % 4 ≠ 3 →
        Completes (.svc c fn) s (fun t => SettledAs (s.modBank c b (fun k => { k with
          svcp := k.pc + 4, svct := k.tsw.extractLsb' 24 40 ++ fn, tsw := k.tsw ||| 0x8000000000000000, pc := (s.core c).svce,
          lend := if k.lend.getLsbD 31 then k.lend + 1 else k.lend })) t c b))
      ∧ (Super s c b → tswLegal ((s.bank c b).svct &&& 0xFFFFFF0000000000) = true →
        Completes (.rsv c) s (fun t => SettledAs (s.modBank c b (fun k => { k with
          pc := k.svcp &&& 0xFFFFFFFC, tsw := k.svct &&& 0xFFFFFF0000000000,
          lend := if k.lend.toNat % 4 = 0 then k.lend else k.lend - 1 })) t c b)))
  ∧ (∀ (s : State) (c : CoreId) (b : BankId) (fn : BitVec 24) (w : W32) (d a e : Reg) (service : Bool) (tag : BitVec 4)
       (errs : Errs), Issues s c b →
       Completes (.brk c fn) s (fun t => ∃ u, MovedOn s s u c b 1 ∧ t = u.latch c b 14 (fn.toNat % 2 ^ 16) 0 (fn.toNat / 2 ^ 16))
       ∧ (definedWord w = false → Traps (.undefinedOpcode c w) s c b 1 0 0 0)
       ∧ (¬ Super s c b → tag.toNat < 0xB → ∀ i ∈ [Instr.rsv c, .rte c errs, .fmode c service, .frcode c a, .mfbw c d a, .mtbw c d a,
           .retagu c d a tag, .gfrm c d a, .sfrm c a e, .fzero c a, .hbms c a e, .hbmg c d a], Traps i s c b 2 0 0 0))

/-- RTE in a task bank takes PC, CHARGE and TSW from the top frame of the TSB, as the error correction leaves it, except that
CWP and WVAL come from the window retreat, and lowers DEPTH by 1; no register's contents change (09 R389 to R391; 12 R497 to
R499). A POISON granule among those it reads takes POISONED, vector 13, with its provenance (12 R499). -/
def Obligations.ReturnFromHandler : Prop :=
  ∀ (s : State) (c : CoreId) (b : BankId) (w : W64) (pc : W32) (charge : Bool) (errs : Errs),
    s.memWf → Issues s c b → b ≠ bankT → Super s c b → Drained s c b →
    let tsb := (s.bank c b).tsbr.toNat
    let u := s.findErrors c errs (tsb :: granAddrs (tsb + 128 + 32 * (s.depth c b - 1)) 32)
    (s.tsbOk c b = true → NoPoison u c tsb 4 → u.depth c b ≠ 0 → NoPoison u c (tsb + 128 + 32 * (u.depth c b - 1)) 32 →
      u.topFrame c b = (w, pc, charge) → tswLegal w = true → tswWval (s.bank c b).tsw ≠ 1 → (tswCwp (s.bank c b).tsw + 5) % 6 = tswCwp w →
      Completes (.rte c errs) s (fun t => (t.bank c b).pc = pc ∧ (t.bank c b).charge = charge ∧ (t.bank c b).regs = (s.bank c b).regs
        ∧ (∀ i, i < 40 ∨ 46 ≤ i → (t.bank c b).tsw.getLsbD i = w.getLsbD i) ∧ tswCwp (t.bank c b).tsw = tswCwp w
        ∧ (t.bank c b).tsw.toNat / 2 ^ 40 % 8 = tswWval (s.bank c b).tsw - 1
        ∧ u.depth c b = t.depth c b + 1 ∧ (∀ a, a ≠ tsb → t.byte c a = u.byte c a)
        ∧ (∀ c', c' ≠ c → t.core c' = u.core c')))
    ∧ (tsb % 16 = 0 → (u.gran c tsb).tag = tPOISON →
        exec (.rte c errs) s = .next ((u.latch c b 13 ((u.gran c tsb).val.toNat % 256) (BitVec.ofNat 32 tsb) 0).endStep c))

/-- WAIT UNTIL, CHAINS, MOVES and SEALS in a task bank fall through where the time has come or the bank has nothing outstanding;
otherwise the bank blocks with its PC on the WAIT and leaves the core. WAIT EVENT blocks at the next instruction (09 R406,
R407). WAIT DISPATCH in a task bank whose job has ended cleanly: the bank is FREE, leaves the core, and the job's completion is
promised with the status, detail, byte count and job word of its TSB, where the WAIT's own 4 cycles are no breach of its core
cycles (09 R405, R409; 12 R497 to R499); in the post the next job of the core's queue is dispatched into it at once (09 R408).
WAIT FREEZE in bank T freezes the bank it serves and ends the service (09 R406, R410). -/
def Obligations.Waits : Prop :=
  (∀ (s : State) (c : CoreId) (b : BankId) (arg : BitVec 20),
      Issues s c b → b ≠ bankT → NoRecord s c b → Quiet s c b → arg ≠ 0 →
      (∀ p ∈ [(Instr.waitUntil c arg, Wait.until (s.t.startClock + 32 * arg.toNat), decide (s.t.startClock + 32 * arg.toNat ≤ s.t.clock)),
          (.waitChains c, .chains, s.chainsIdle c b), (.waitMoves c, .moves, s.movesIdle c b), (.waitSeals c, .seals, s.sealsIdle c b)],
        Completes p.1 s (fun t => if p.2.2 then MovedOn s s t c b 1
          else SettledAs (s.modCore c (fun k => { k.modBank b (fun v => v.blockedOn p.2.1) with running := none })) t c b))
      ∧ Completes (.waitEvent c) s (fun t => ∃ u, MovedOn s s u c b 1
          ∧ t = u.modCore c (fun k => { k.modBank b (fun v => v.blockedOn .event) with running := none })))
  ∧ (∀ (s : State) (c : CoreId) (b : BankId),
      (∀ x ∈ s.chainList, ¬ (x.2.core = c ∧ x.2.bank = b)) → b ≠ 0 → b ≠ bankT →
      (∀ (j : JobRun) (errs : Errs), Issues s c b → Super s c b → NoRecord s c b → (s.bank c b).job = some j → (s.bank c b).budgetOf = none →
        ((s.bank c b).charge = false ∨ 4 ≤ (s.bank c b).cycb.toNat) →
        let tsb := (s.bank c b).tsbr.toNat
        let u := s.findErrors c errs [tsb + 96]
        tsb % 256 = 0 → NoPoison u c (tsb + 96) 12 → fieldAt (u.tsbGet c b 96 1) 0 1 ∈ [0, 0x21] → s.jobBusy j.job.id = false →
        s.host.discardBelow ≤ j.job.id → spanDecided s j.job.span = false → (∀ x ∈ s.host.ended, x.order ≠ j.job.id) →
        let promised := u.host.waiting ++ [{ jobCpl j (fieldAt (u.tsbGet c b 96 1) 0 1) (fieldAt (u.tsbGet c b 98 2) 0 2)
              (fieldAt (u.tsbGet c b 100 4) 0 4) (BitVec.ofNat 32 (fieldAt (u.tsbGet c b 104 4) 0 4)) with byDispatch := true }]
        (s.t.phase ≠ .post ∨ (s.core c).jobQueue = [] →
          Completes (.waitDispatch c errs) s (fun t => (t.bank c b).st = .free ∧ (t.bank c b).job = none ∧ (t.core c).running = none
            ∧ t.host.waiting = promised))
        ∧ (∀ (n : Job) (r : List Job), s.t.phase = .post → (s.core c).jobQueue = n :: r → (∀ x, x ≠ 0 → x ≠ b → x ≠ bankT → (s.bank c x).st ≠ .free) →
          Completes (.waitDispatch c errs) s (fun t => (t.bank c b).st = .ready ∧ (t.bank c b).job = some ⟨n, 0, 0, 0⟩
            ∧ (t.core c).jobQueue = r ∧ (t.core c).running = none ∧ t.host.waiting = promised)))
      ∧ (Issues s c bankT → Super s c bankT → NoRecord s c bankT → (s.core c).served = b → (s.bank c b).job = none →
        Completes (.waitFreeze c) s (fun t => (t.bank c b).st = .frozen ∧ (t.core c).tActive = false ∧ (t.bank c b).heldV = []
          ∧ (t.bank c b).regs = (s.bank c b).regs)))

/-- MFCR reads each control register, zero-extended, in supervisor mode or where user mode may; MTCR in supervisor mode, to FPSF
in user mode too, writes the low bits of a legal value; HDTR also takes the 512 copies of LEVEL, TARGET and WAKE (05 R177 to
R179; 09 R375, R398). MFBW and MTBW in supervisor mode copy a register of the bank and window BWIN names from or to a register;
LTSW loads a legal TSW, in user mode one that keeps MODE, KEY, MASK, CWP and WVAL (05 R175, R176, R180; 06 R259 to R261). -/
def Obligations.ControlRegisters : Prop :=
  (∀ (s : State) (c : CoreId) (b : BankId) (d a : Reg) (v : Payload) (ta : BitVec 4),
      Issues s c b → Drained s c b →
      let k := s.bank c b
      let sp := if b = bankT then (s.core c).served else b
      (Ready s c b d →
        ∀ p ∈ [((0 : Reg), k.pc.setWidth 128), (1, k.tsw.setWidth 128), (2, k.tsbr.setWidth 128), (3, (s.core c).hdtr.setWidth 128),
            (4, (s.core c).svce.setWidth 128), (5, k.svcp.setWidth 128), (6, k.svct.setWidth 128), (7, (s.core c).bwin.setWidth 128),
            (8, (s.bank c sp).splp.setWidth 128), (9, (s.bank c sp).spll.setWidth 128), (10, k.fpsf.setWidth 128),
            (11, k.lcnt.setWidth 128), (12, k.lend.setWidth 128), (13, (s.vposNow c b).setWidth 128), (14, (s.core c).mcver.setWidth 128),
            (15, k.cycb.setWidth 128)],
          (Super s c b ∨ p.1 ∈ [(1 : Reg), 10, 11, 12, 13, 14, 15]) →
          Completes (.mfcr c d p.1) s (fun t => MovedOn s (s.setReg c b d ⟨tBIN, p.2⟩) t c b 1))
      ∧ (∀ errs : Errs, (ta = tRAW ∨ ta = tBIN) → Holds s c b a ⟨ta, v⟩ →
        (∀ p ∈ [((2 : Reg), s.modBank c b (fun k => { k with tsbr := v.setWidth 32 })),
            (4, s.modCore c (fun k => { k with svce := v.setWidth 32 })), (5, s.modBank c b (fun k => { k with svcp := v.setWidth 32 })),
            (6, s.modBank c b (fun k => { k with svct := v.setWidth 64 })), (7, s.modCore c (fun k => { k with bwin := v.setWidth 32 })),
            (8, s.modBank c sp (fun k => { k with splp := v.setWidth 32 })), (9, s.modBank c sp (fun k => { k with spll := v.setWidth 32 })),
            (10, s.modBank c b (fun k => { k with fpsf := v.setWidth 32 })), (11, s.modBank c b (fun k => { k with lcnt := v.setWidth 32 })),
            (12, (s.modBank c b (fun k => { k with lend := v.setWidth 32 })).modCore c (fun k => k.dropLoop b)), (13, s.modBank c b (fun k => { k with vpos := v.setWidth 96 })),
            (15, s.modBank c b (fun k => { k with cycb := v.setWidth 32 }))],
          (Super s c b ∨ p.1 = 10) → crLegal p.1.val v.toNat = true → Completes (.mtcr c p.1 a errs) s (fun t => MovedOn s p.2 t c b 1))
        ∧ (Super s c b → v.toNat % 4096 = 0 → v.toNat + 32 * 576 ≤ 0x80000 →
          let u := s.findErrors c errs ((List.range 512).map (fun i => v.toNat + 32 * (64 + i)))
          let entry := fun i => v.toNat + 32 * (64 + i)
          (u.core c).pend = [] → (∀ i < 512, (u.gran c (entry i)).tag ≠ tPOISON) →
          (∀ i < 512, (u.byte c (entry i + 4)).toNat < 16 ∧ ((u.byte c (entry i + 5)).toNat < 16 ∨ u.byte c (entry i + 5) = 31)
            ∧ (u.byte c (entry i + 6)).toNat < 2) →
          ∃ m : SMap EvCopy, (∀ i < 512, m.get EvCopy.zero i
              = ⟨(u.byte c (entry i + 4)).toNat, (u.byte c (entry i + 5)).toNat, u.byte c (entry i + 6) == 1⟩)
            ∧ Completes (.mtcr c 3 a errs) s (fun t => MovedOn s (u.modCore c (fun k => { k with hdtr := v.setWidth 32, ev := m })) t c b 1))))
  ∧ (∀ (s : State) (c : CoreId) (b w : BankId) (d a code : Reg) (v : TVal) (ta : BitVec 4) (x : W64),
      Issues s c b → (s.core c).bwin.toNat % 32 = w.val → (s.core c).unread w ((s.core c).bwSlot code) = false →
      (Super s c b → Ready s c b d → v.tag.toNat < 0xB → (s.bank c w).regs[(s.core c).bwSlot code] = v →
        Completes (.mfbw c d code) s (fun t => MovedOn s (s.setReg c b d v) t c b 1))
      ∧ (Super s c b → Holds s c b a v → v.tag.toNat < 0xB →
        Completes (.mtbw c code a) s (fun t => MovedOn s
          (s.modBank c w (fun k => { k with regs := k.regs.set ((s.core c).bwSlot code) v })) t c b 1))
      ∧ (Drained s c b → (ta = tRAW ∨ ta = tBIN) → Holds s c b a ⟨ta, x.setWidth 128⟩ → tswLegal x = true →
        (Super s c b ∨ ∀ i, 40 ≤ i ∧ i < 46 ∨ 55 ≤ i → x.getLsbD i = (s.bank c b).tsw.getLsbD i) →
        Completes (.ltsw c a) s (fun t => MovedOn s (s.modBank c b (fun k => { k with tsw := x })) t c b 1)))

/-- In supervisor mode GFRM reads a frame's entry and SFRM sets key, fetch protection and state FREE or DATA; FZERO makes every
granule of a frame RAW zero and no other; HBMS and HBMG do the same for a region of HBM (12 R485, R488 to R492). -/
def Obligations.FrameInstructions : Prop :=
  ∀ (s : State) (c : CoreId) (b : BankId) (d a f : Reg) (n r : Nat) (e h : FrameEntry),
    Issues s c b → Super s c b →
    (let code := fun x : FrameEntry => x.key.toNat * 16 + (if x.fp then 8 else 0) + (if x.st = .data then 1 else if x.st = .code then 2 else 0)
     (Holds s c b a (binNat n) → n < 2 ^ 32 → s.frame c n = some e →
      (Ready s c b d → Completes (.gfrm c d a) s (fun t => MovedOn s (s.setReg c b d (binNat (code e))) t c b 1))
      ∧ (Holds s c b f (binNat (code h)) → h.st ≠ .code → Completes (.sfrm c a f) s (fun t => MovedOn s
          (if e.st = .code then (s.setFrame c n h).modCore c (fun k => { k with loopOwner := none }) else s.setFrame c n h) t c b 1))
      ∧ (e.st ≠ .code → Completes (.fzero c a) s (fun t => MovedOn s (s.zeroFrame c n) t c b 1
          ∧ ∀ x, t.gran c x = if (locOf x).isSome ∧ x / 4096 = n / 4096 then TVal.zero else s.gran c x)))
    ∧ (Holds s c b a (binNat r) → r < s.variant.gib →
      (Holds s c b f (binNat (code h)) → h.st ≠ .code → h.fp = false → Completes (.hbms c a f) s (fun t => MovedOn s
          { s with hbmRegions := s.hbmRegions.set FrameEntry.zero r h } t c b 1))
      ∧ (Ready s c b d → Completes (.hbmg c d a) s (fun t => MovedOn s
          (s.setReg c b d (binNat (code (s.hbmRegions.get FrameEntry.zero r)))) t c b 1))))

/-! ### Ledger core: decimal -/

/-- DADD, DSUB and DMUL give the exact sum, difference and product at the larger scale or the sum of the scales, CC its sign; a
result of more than 33 digits takes DOVF, vector 6, cause 1, and one of a scale above 32 cause 2. DNEG, DABS and DCMP (07 R273,
R275, R277, R278). DRESC brings a DEC exactly to a scale and takes DOVF cause 3 where a nonzero digit would be lost; DRND rounds
once under DRM: to nearest with ties to even or away, toward zero, up, or down; DDIVX gives the exact quotient at the smallest scale
that holds it (05 R174; 07 R275, R278, R279). A payload written for a decimal value reads back as that value and is well formed: DEC
of up to 33 digits and scale 32, DW of up to 66 digits (04 R127, R137 to R142). -/
def Obligations.DecimalArithmetic : Prop :=
  (∀ (s : State) (c : CoreId) (b : BankId) (d a e : Reg) (x y : Payload),
      Issues s c b → Holds s c b a ⟨tDEC, x⟩ → malformed ⟨tDEC, x⟩ = false →
      let X := decOf x
      let Y := decOf y
      let m := max X.scale Y.scale
      (Ready s c b d → Holds s c b e ⟨tDEC, y⟩ → malformed ⟨tDEC, y⟩ = false →
        ∀ p ∈ [(Instr.dadd c d a e, X.v * 10 ^ (m - X.scale) + Y.v * 10 ^ (m - Y.scale), m),
            (.dsub c d a e, X.v * 10 ^ (m - X.scale) - Y.v * 10 ^ (m - Y.scale), m), (.dmul c d a e, X.v * Y.v, X.scale + Y.scale)],
          (p.2.1.natAbs < 10 ^ 33 → p.2.2 ≤ 32 → Completes p.1 s (fun t => MovedOn s
            ((s.setReg c b d (decVal ⟨p.2.1, p.2.2⟩)).setBankCc c b (ccOfInt p.2.1)) t c b 1))
          ∧ (10 ^ 33 ≤ p.2.1.natAbs → Traps p.1 s c b 6 1 0 0)
          ∧ (p.2.1.natAbs < 10 ^ 33 → 32 < p.2.2 → Traps p.1 s c b 6 2 0 0))
      ∧ (Ready s c b d → ∀ p ∈ [(Instr.dneg c d a, -X.v), (.dabs c d a, (X.v.natAbs : Int))],
          Completes p.1 s (fun t => MovedOn s ((s.setReg c b d (decVal ⟨p.2, X.scale⟩)).setBankCc c b (ccOfInt p.2)) t c b 1))
      ∧ (Holds s c b e ⟨tDEC, y⟩ → malformed ⟨tDEC, y⟩ = false →
          Completes (.dcmp c a e) s (fun t => MovedOn s (s.setBankCc c b
            (if X.v * 10 ^ (m - X.scale) = Y.v * 10 ^ (m - Y.scale) then 0
             else if X.v * 10 ^ (m - X.scale) < Y.v * 10 ^ (m - Y.scale) then 1 else 2)) t c b 1)))
  ∧ (∀ (s : State) (c : CoreId) (b : BankId) (d a e : Reg) (x y : Payload) (scale : BitVec 6),
      Issues s c b → Ready s c b d → Holds s c b a ⟨tDEC, x⟩ → malformed ⟨tDEC, x⟩ = false → scale.toNat ≤ 32 →
      let X := decOf x
      let Y := decOf y
      let n := scale.toNat
      let up := fun (z : Int) (k : Nat) (t : State) => MovedOn s ((s.setReg c b d (decVal ⟨z, k⟩)).setBankCc c b (ccOfInt z)) t c b 1
      (X.scale ≤ n → (X.v * 10 ^ (n - X.scale)).natAbs < 10 ^ 33 →
        Completes (.dresc c d a scale) s (up (X.v * 10 ^ (n - X.scale)) n) ∧ Completes (.drnd c d a scale) s (up (X.v * 10 ^ (n - X.scale)) n))
      ∧ (∀ z : Int, n < X.scale → X.v = z * 10 ^ (X.scale - n) → Completes (.dresc c d a scale) s (up z n))
      ∧ (n < X.scale → ¬ (10 ^ (X.scale - n) : Int) ∣ X.v → Traps (.dresc c d a scale) s c b 6 3 0 0)
      ∧ (∀ z : Int, n < X.scale →
          (let r := 10 ^ (X.scale - n)
           match tswDrm (s.bank c b).tsw with
           | 0 => 2 * (X.v - z * r).natAbs ≤ r ∧ (2 * (X.v - z * r).natAbs = r → z % 2 = 0)
           | 1 => 2 * (X.v - z * r).natAbs ≤ r ∧ (2 * (X.v - z * r).natAbs = r → X.v.natAbs < z.natAbs * r)
           | 2 => z = Int.tdiv X.v r
           | 3 => X.v ≤ z * r ∧ z * r < X.v + r
           | 4 => z * r ≤ X.v ∧ X.v < z * r + r
           | _ => False) →
          Completes (.drnd c d a scale) s (up z n))
      ∧ (Holds s c b e ⟨tDEC, y⟩ → malformed ⟨tDEC, y⟩ = false → Y.v ≠ 0 →
          ∀ (q : Int) (k : Nat), k ≤ 32 → X.scale ≤ k + Y.scale → X.v * 10 ^ (k + Y.scale - X.scale) = q * Y.v → q.natAbs < 10 ^ 33 →
            (∀ j, j < k → X.scale ≤ j + Y.scale → ¬ Y.v ∣ X.v * 10 ^ (j + Y.scale - X.scale)) →
            Completes (.ddivx c d a e) s (up q k)))
  ∧ (∀ (x : Dec), x.scale ≤ 32 →
       (x.v.natAbs < 10 ^ 33 → decOf (decPay x) = x ∧ malformed ⟨tDEC, decPay x⟩ = false)
       ∧ (x.v.natAbs < 10 ^ 66 → dwOf (dwPay x).1 (dwPay x).2 = x ∧ malformed ⟨tDWH, (dwPay x).1⟩ = false
           ∧ malformed ⟨tDWL, (dwPay x).2⟩ = false))

/-- DDIVB shares a pool: q is a multiple of the quantum u, q × b + r = a exactly, the magnitude of r is less than |u × b|, and r
has the sign of a, or is zero (07 R281, R282). -/
def Obligations.BreakageDivision : Prop :=
  ∀ (s : State) (c : CoreId) (b : BankId) (d a e : Reg) (x y z : Payload),
    Issues s c b → d.val % 2 = 0 → Ready s c b d → Holds s c b (nextReg d) ⟨tDEC, z⟩ → Holds s c b a ⟨tDEC, x⟩ → Holds s c b e ⟨tDEC, y⟩ →
    malformed ⟨tDEC, x⟩ = false → malformed ⟨tDEC, y⟩ = false → malformed ⟨tDEC, z⟩ = false →
    let P := decOf x
    let V := decOf y
    let U := decOf z
    let big := max P.scale (U.scale + V.scale)
    let pool := P.v * 10 ^ (big - P.scale)
    let share := V.v * U.v * 10 ^ (big - U.scale - V.scale)
    let k := Int.tdiv pool share
    (V.v = 0 → Traps (.ddivb c d a e) s c b 7 1 0 0)
    ∧ (V.v ≠ 0 → U.v ≤ 0 → Traps (.ddivb c d a e) s c b 6 4 0 0)
    ∧ (V.v ≠ 0 → 0 < U.v → (pool - k * share).natAbs < share.natAbs ∧ (pool - k * share = 0 ∨ (pool - k * share).sign = P.v.sign)
      ∧ ((k * U.v).natAbs < 10 ^ 33 → (pool - k * share).natAbs < 10 ^ 33 → big ≤ 32 →
        Completes (.ddivb c d a e) s (fun t => MovedOn s (((s.setReg c b d (decVal ⟨k * U.v, U.scale⟩)).setReg c b (nextReg d)
          (decVal ⟨pool - k * share, big⟩)).setBankCc c b (ccOfInt (pool - k * share))) t c b 1)))

/-- DMULW gives the exact product of two DEC in a DW pair; DADDW and DSUBW add and subtract pairs; DNARW narrows a pair whose value
fits 33 digits to a DEC (07 R278, R280; 04 R140 to R142). -/
def Obligations.DecimalPairs : Prop :=
  ∀ (s : State) (c : CoreId) (b : BankId) (d a e : Reg) (x y xl yl : Payload),
    Issues s c b → Ready s c b d →
    let pair := fun (z : Int) (k : Nat) (t : State) => MovedOn s (((s.setReg c b d ⟨tDWH, (dwPay ⟨z, k⟩).1⟩).setReg c b (nextReg d)
      ⟨tDWL, (dwPay ⟨z, k⟩).2⟩).setBankCc c b (ccOfInt z)) t c b 1
    (d.val % 2 = 0 → Ready s c b (nextReg d) → Holds s c b a ⟨tDEC, x⟩ → Holds s c b e ⟨tDEC, y⟩ → malformed ⟨tDEC, x⟩ = false → malformed ⟨tDEC, y⟩ = false →
      (decOf x).scale + (decOf y).scale ≤ 32 →
      Completes (.dmulw c d a e) s (pair ((decOf x).v * (decOf y).v) ((decOf x).scale + (decOf y).scale)))
    ∧ (a.val % 2 = 0 → Holds s c b a ⟨tDWH, x⟩ → Holds s c b (nextReg a) ⟨tDWL, xl⟩ → malformed ⟨tDWH, x⟩ = false → malformed ⟨tDWL, xl⟩ = false →
      let X := dwOf x xl
      let Y := dwOf y yl
      let m := max X.scale Y.scale
      (d.val % 2 = 0 → e.val % 2 = 0 → Ready s c b (nextReg d) → Holds s c b e ⟨tDWH, y⟩ → Holds s c b (nextReg e) ⟨tDWL, yl⟩ → malformed ⟨tDWH, y⟩ = false →
        malformed ⟨tDWL, yl⟩ = false →
        ∀ p ∈ [(Instr.daddw c d a e, X.v * 10 ^ (m - X.scale) + Y.v * 10 ^ (m - Y.scale)),
            (.dsubw c d a e, X.v * 10 ^ (m - X.scale) - Y.v * 10 ^ (m - Y.scale))],
          p.2.natAbs < 10 ^ 66 → Completes p.1 s (pair p.2 m))
      ∧ (X.v.natAbs < 10 ^ 33 → Completes (.dnarw c d a) s (fun t => MovedOn s
          ((s.setReg c b d (decVal X)).setBankCc c b (ccOfInt X.v)) t c b 1)))

/-- BTD, DTB, DTF and DFTD convert exactly between BIN, DEC and DFF registers (07 R291, R293). PTD and TTD read a packed or
digit-text field of 1 to 64 octets as a DEC at a scale; DTP and DTT write a DEC at a scale into a field, DTT its magnitude;
every other octet stands (07 R291, R292; 04 R149 to R152). These four run vendor routines: an uncorrectable microword raises
MCHECK (13 R520, R531; its ADDR and INFO of 0 are the model's choice, log entry 100). That DTT's CC is the sign of the magnitude
it writes is the model's reading (log entry 23). -/
def Obligations.Conversions : Prop :=
  (∀ (s : State) (c : CoreId) (b : BankId) (d a : Reg) (x : Payload) (scale : BitVec 6),
      Issues s c b → Ready s c b d →
      (Holds s c b a ⟨tBIN, x⟩ → x.toInt.natAbs < 10 ^ 33 → Completes (.btd c d a) s (fun t => MovedOn s
        ((s.setReg c b d (decVal ⟨x.toInt, 0⟩)).setBankCc c b (ccOfInt x.toInt)) t c b 1))
      ∧ (∀ z : Int, Holds s c b a ⟨tDEC, x⟩ → malformed ⟨tDEC, x⟩ = false → (decOf x).v = z * 10 ^ (decOf x).scale →
          Completes (.dtb c d a) s (fun t => MovedOn s ((s.setReg c b d ⟨tBIN, BitVec.ofInt 128 z⟩).setBankCc c b (ccOfInt z)) t c b 1))
      ∧ (Holds s c b a ⟨tDEC, x⟩ → malformed ⟨tDEC, x⟩ = false → Completes (.dtf c d a) s (fun t => MovedOn s
          (s.setReg c b d (dffVal (.fin (x.getLsbD 127) (decOf x).v.natAbs (-(decOf x).scale)))) t c b 1))
      ∧ (∀ (neg : Bool) (k : Nat) (q z : Int), Holds s c b a ⟨tDFF, x⟩ → malformed ⟨tDFF, x⟩ = false → scale.toNat ≤ 32 →
          dffOf ⟨tDFF, x⟩ = .fin neg k q → z.natAbs < 10 ^ 33 →
          (if 0 ≤ q + scale.toNat then z = (if neg then -(k : Int) else k) * 10 ^ (q + scale.toNat).toNat
           else z * 10 ^ (-(q + scale.toNat)).toNat = (if neg then -(k : Int) else k)) →
          Completes (.dftd c d a scale) s (fun t => MovedOn s ((s.setReg c b d (decVal ⟨z, scale.toNat⟩)).setBankCc c b (ccOfInt z)) t c b 1)))
  ∧ (∀ (s : State) (c : CoreId) (b : BankId) (d a e : Reg) (v : TVal) (x : Payload) (scale : BitVec 6) (n addr : Nat) (z : Int) (bw : Option (Fin 16384)),
      s.memWf → Issues s c b → Holds s c b a v → IsBase v → Holds s c b e (binNat n) → 1 ≤ n → n ≤ 64 → scale.toNat ≤ 32 →
      (∀ errs : Errs, let u := s.afterReads c errs [(addr, n)]
        AllRaw u c addr n → Ready s c b d → Covers s c b v 0 .load n addr → z.natAbs < 10 ^ 33 →
        ∀ p ∈ [(Instr.ptd c d a e scale errs bw, packedOf (u.octets c addr n)), (.ttd c d a e scale errs bw, textOf (u.octets c addr n))],
          p.2 = .ok z → Completes p.1 s (UnlessWord bw s c b (fun t => MovedOn s
            ((u.setReg c b d (decVal ⟨z, scale.toNat⟩)).setBankCc c b (ccOfInt z)) t c b 1)))
      ∧ (AllRaw s c addr n → Holds s c b d ⟨tDEC, x⟩ → malformed ⟨tDEC, x⟩ = false → Covers s c b v 0 .store n addr →
        (if (decOf x).scale ≤ scale.toNat then z = (decOf x).v * 10 ^ (scale.toNat - (decOf x).scale)
         else z * 10 ^ ((decOf x).scale - scale.toNat) = (decOf x).v) →
        (z.natAbs < 10 ^ (2 * n - 1) → ∃ o : Octets, o.length = n ∧ packedOf o = .ok z ∧ Completes (.dtp c d a e scale bw) s (UnlessWord bw s c b (fun t =>
          MovedOn s ((s.setOctets c addr o).setBankCc c b (ccOfInt z)) t c b 1 ∧ t.octets c addr n = o
            ∧ ∀ i, i < addr ∨ addr + n ≤ i → t.byte c i = s.byte c i)))
        ∧ (z.natAbs < 10 ^ n → ∃ o : Octets, o.length = n ∧ textOf o = .ok z.natAbs ∧ Completes (.dtt c d a e scale bw) s (UnlessWord bw s c b (fun t =>
          MovedOn s ((s.setOctets c addr o).setBankCc c b (ccOfInt z.natAbs)) t c b 1 ∧ t.octets c addr n = o
            ∧ ∀ i, i < addr ∨ addr + n ≤ i → t.byte c i = s.byte c i)))))

/-- Packed decimal: PADD, PSUB, PMUL, PDIV, PREM and PMOV replace operand 1 by the exact sum, difference, product, truncated
quotient, remainder or operand 2 where its digits fit the field, and set CC to its sign; PCMP only sets CC; a divisor of zero takes
DZERO cause 1; a machine check within one breaks it off with its registers as they were (07 R276, R283 to R287, R290; 04 R149 to
R151). That PCMP, which stores nothing, is broken off as no PARTIAL, with ADDR and INFO 0, is the model's choice (log entry 100). -/
def Obligations.PackedDecimal : Prop :=
  ∀ (s : State) (c : CoreId) (b : BankId) (f : FormF) (v w : TVal) (n1 n2 a1 a2 : Nat) (x y : Int) (m : Meets),
    s.memWf → IssuesTwo s c b → Holds s c b f.base1 v → IsBase v → Holds s c b f.base2 w → IsBase w →
    n1 = f.len1.toNat + 1 → n2 = f.len2.toNat + 1 → n1 ≤ 64 → n2 ≤ 64 →
    let u := s.afterReads c m.errs [(a1, n1), (a2, n2)]
    Covers s c b w f.disp2.toNat .load n2 a2 → AllRaw u c a1 n1 → AllRaw u c a2 n2 → packedOf (u.octets c a2 n2) = .ok y →
    (∀ p ∈ [(Instr.padd c f m, x + y, 64, true), (.psub c f m, x - y, 64, true), (.pmul c f m, x * y, 32, true),
        (.pdiv c f m, Int.tdiv x y, 32, true), (.prem c f m, Int.tmod x y, 32, true), (.pmov c f m, y, 64, false)],
      Covers s c b v f.disp1.toNat .store n1 a1 → n2 ≤ p.2.2.1 →
      (p.2.2.2 = true → Covers s c b v f.disp1.toNat .load n1 a1 ∧ packedOf (u.octets c a1 n1) = .ok x) →
      ((p.1 = .pdiv c f m ∨ p.1 = .prem c f m) → y ≠ 0) → p.2.1.natAbs < 10 ^ (2 * n1 - 1) →
      ∃ o : Octets, o.length = n1 ∧ packedOf o = .ok p.2.1 ∧ Completes p.1 s (UnlessBroken m s u c b true a1 n1 (fun t =>
        MovedOn s ((u.setOctets c a1 o).setBankCc c b (ccOfInt p.2.1)) t c b 2 ∧ t.octets c a1 n1 = o
          ∧ ∀ i, i < a1 ∨ a1 + n1 ≤ i → t.byte c i = u.byte c i)))
    ∧ (Covers s c b v f.disp1.toNat .load n1 a1 → packedOf (u.octets c a1 n1) = .ok x →
      Completes (.pcmp c f m) s (UnlessBroken m s u c b false 0 0 (fun t =>
        MovedOn s (u.setBankCc c b (if x = y then 0 else if x < y then 1 else 2)) t c b 2))
      ∧ (Covers s c b v f.disp1.toNat .store n1 a1 → y = 0 → n2 ≤ 32 → ∀ i ∈ [Instr.pdiv c f m, .prem c f m],
          exec i s = .next ((u.latch c b 7 1 0 0).endStep c)))

/-! ### Ledger core: floats -/

/-- Each DFF instruction on well-formed operands gives the IEEE 754 result under DRM (DFTB under BRM) with its flags, returned
as the exception mode says; in PRECISE a trapping flag takes FPT, vector 8, with the flags as cause (07 R298 to R301, R306,
R307). The DFF operations are exact where the exact result has 33 digits at the preferred exponent: a sum or difference at one
exponent, a product, no flag raised; a NaN operand is passed on quietly, a signalling one with invalid; 0 × ∞ and ∞ − ∞ are
invalid; a finite number by zero raises division by zero (07 R295, R297 to R299). -/
def Obligations.DecimalFloat : Prop :=
  (∀ (s : State) (c : CoreId) (b : BankId) (d a e : Reg) (v w z : TVal) (n : Int),
        let F := [tDFF, tDFI, tDFQ, tDFS]
        let drm := tswDrm (s.bank c b).tsw
        let brm := tswBrm (s.bank c b).tsw
        Issues s c b → Holds s c b d z → Holds s c b a v → Holds s c b e w →
        ∀ p ∈ [(Instr.dfadd c d a e, IsTyped F v ∧ IsTyped F w, dffRes (dfadd drm (dffOf v) (dffOf w))),
            (.dfsub c d a e, IsTyped F v ∧ IsTyped F w, dffRes (dfsub drm (dffOf v) (dffOf w))),
            (.dfmul c d a e, IsTyped F v ∧ IsTyped F w, dffRes (dfmul drm (dffOf v) (dffOf w))),
            (.dfdiv c d a e, IsTyped F v ∧ IsTyped F w, dffRes (dfdiv drm (dffOf v) (dffOf w))),
            (.dfqua c d a e, IsTyped F v ∧ IsTyped F w, dffRes (dfqua drm (dffOf v) (dffOf w))),
            (.dffma c d a e, IsTyped F z ∧ IsTyped F v ∧ IsTyped F w, dffRes (dffma drm (dffOf v) (dffOf w) (dffOf z))),
            (.dfscb c d a e, IsTyped F v ∧ w = ⟨tBIN, BitVec.ofInt 128 n⟩ ∧ -8192 ≤ n ∧ n ≤ 8191, dffRes (dfscb drm (dffOf v) n)),
            (.dfsqrt c d a, IsTyped F v, dffRes (dfsqrt drm (dffOf v))), (.dfneg c d a, IsTyped F v, dffRes ((dffOf v).negate, 0)),
            (.dfabs c d a, IsTyped F v, dffRes ((dffOf v).abs, 0)), (.dftb c d a, IsTyped F v, b64Res (dftb brm (dffOf v))),
            (.btdf c d a, IsTyped [tB64] v, dffRes (btdf drm (b64Of v.val)))],
          p.2.1 →
          (tswFpm (s.bank c b).tsw ≠ 2 ∨ trapping p.2.2.2 = 0 →
            Completes p.1 s (fun t => MovedOn s (s.floatEffect c b d p.2.2.1 p.2.2.2) t c b 1))
          ∧ (tswFpm (s.bank c b).tsw = 2 → trapping p.2.2.2 ≠ 0 → Traps p.1 s c b 8 (trapping p.2.2.2).toNat 0 0))
  ∧ (∀ (drm : Nat) (sg tg : Bool) (k l p : Nat) (q r : Int) (y : Fl), -2079 ≤ q → q ≤ 2016 → k < 10 ^ 33 → l < 10 ^ 33 →
        (0 < k + l → k + l < 10 ^ 33 → dfadd drm (.fin sg k q) (.fin sg l q) = (.fin sg (k + l) q, 0)
          ∧ dfsub drm (.fin sg k q) (.fin (!sg) l q) = (.fin sg (k + l) q, 0))
        ∧ (l < k → dfsub drm (.fin sg k q) (.fin sg l q) = (.fin sg (k - l) q, 0))
        ∧ (0 < k * l → k * l < 10 ^ 33 → -2079 ≤ q + r → q + r ≤ 2016 →
            dfmul drm (.fin sg k q) (.fin tg l r) = (.fin (sg != tg) (k * l) (q + r), 0))
        ∧ (∀ f ∈ [dfadd, dfsub, dfmul, dfdiv], f drm (.snan sg p) y = (.qnan sg p, 0x10) ∧ f drm (.qnan sg p) (.fin tg l r) = (.qnan sg p, 0))
        ∧ dfmul drm (.fin sg 0 q) (.inf tg) = (.qnan false 0, 0x10) ∧ dfsub drm (.inf sg) (.inf sg) = (.qnan false 0, 0x10)
        ∧ (0 < k → dfdiv drm (.fin sg k q) (.fin tg 0 r) = (.inf (sg != tg), 0x08)) ∧ dfdiv drm (.fin sg 0 q) (.fin tg 0 r) = (.qnan false 0, 0x10))

/-- Each B64 instruction gives the IEEE 754 binary64 result under BRM with its flags, returned as the exception mode says; BFNEG
and BFABS change only the sign bit (07 R305 to R307). DFCB and BFCB branch on their condition, a comparison that raises invalid on a
signalling NaN, and on any unordered pair for the four order conditions (07 R303, R304). -/
def Obligations.BinaryFloat : Prop :=
  ∀ (s : State) (c : CoreId) (b : BankId) (d a e : Reg) (v w z : TVal) (n : Int) (cond : Fin 8) (disp : BitVec 11),
    let B := [tB64]
    let F := [tDFF, tDFI, tDFQ, tDFS]
    let brm := tswBrm (s.bank c b).tsw
    let fpm := tswFpm (s.bank c b).tsw
    Issues s c b → Holds s c b a v → Holds s c b e w →
    (Holds s c b d z →
      ∀ p ∈ [(Instr.bfadd c d a e, IsTyped B v ∧ IsTyped B w, b64Res (bfadd brm (b64Of v.val) (b64Of w.val))),
          (.bfsub c d a e, IsTyped B v ∧ IsTyped B w, b64Res (bfsub brm (b64Of v.val) (b64Of w.val))),
          (.bfmul c d a e, IsTyped B v ∧ IsTyped B w, b64Res (bfmul brm (b64Of v.val) (b64Of w.val))),
          (.bfdiv c d a e, IsTyped B v ∧ IsTyped B w, b64Res (bfdiv brm (b64Of v.val) (b64Of w.val))),
          (.bffma c d a e, IsTyped B z ∧ IsTyped B v ∧ IsTyped B w, b64Res (bffma brm (b64Of v.val) (b64Of w.val) (b64Of z.val))),
          (.bfscb c d a e, IsTyped B v ∧ w = ⟨tBIN, BitVec.ofInt 128 n⟩ ∧ -8192 ≤ n ∧ n ≤ 8191, b64Res (bfscb brm (b64Of v.val) n)),
          (.bfsqrt c d a, IsTyped B v, b64Res (bfsqrt brm (b64Of v.val))), (.bfrint c d a, IsTyped B v, b64Res (bfrint brm (b64Of v.val))),
          (.bfneg c d a, IsTyped B v, (⟨tB64, v.val ^^^ 0x8000000000000000⟩, 0)),
          (.bfabs c d a, IsTyped B v, (⟨tB64, v.val &&& 0x7FFFFFFFFFFFFFFF⟩, 0))],
        p.2.1 →
        (fpm ≠ 2 ∨ trapping p.2.2.2 = 0 → Completes p.1 s (fun t => MovedOn s (s.floatEffect c b d p.2.2.1 p.2.2.2) t c b 1))
        ∧ (fpm = 2 → trapping p.2.2.2 ≠ 0 → Traps p.1 s c b 8 (trapping p.2.2.2).toNat 0 0))
    ∧ (∀ p ∈ [(Instr.dfcb c a e cond disp, IsTyped F v ∧ IsTyped F w, dffOf v, dffOf w, cmpFl 10 (dffOf v) (dffOf w)),
          (.bfcb c a e cond disp, IsTyped B v ∧ IsTyped B w, b64Of v.val, b64Of w.val, cmpFl 2 (b64Of v.val) (b64Of w.val))],
        p.2.1 →
        let o := p.2.2.2.2
        let taken := [o = some .eq, o ≠ some .eq, o = some .lt, o = some .gt ∨ o = some .eq, o = some .gt,
          o = some .lt ∨ o = some .eq, o = none, o ≠ none].getD cond.val False
        let invalid := (∃ g k, p.2.2.1 = .snan g k ∨ p.2.2.2.1 = .snan g k) ∨ (o = none ∧ 2 ≤ cond.val ∧ cond.val ≤ 5)
        let target := (s.bank c b).pc + BitVec.ofInt 32 (4 * disp.toInt)
        (¬ invalid → (taken → Completes p.1 s (fun t => JumpedTo s t c b target)) ∧ (¬ taken → Completes p.1 s (fun t => MovedOn s s t c b 1)))
        ∧ (invalid → fpm = 2 → Traps p.1 s c b 8 0x10 0 0)
        ∧ (invalid → fpm ≠ 2 →
            let u := s.modBank c b (fun k => (k.addFlags 0x10).addFpt
              (if fpm = 1 then some ⟨k.pc, 0x10, tswMode k.tsw, BitVec.ofNat 4 (tswMask k.tsw)⟩ else none))
            (taken → Completes p.1 s (fun t => JumpedTo u t c b target)) ∧ (¬ taken → Completes p.1 s (fun t => MovedOn s u t c b 1))))

/-- A DFF result is the exact number rounded once to 33 digits in the direction of DRM, an exact one at the exponent nearest the
preferred, a tiny inexact one at exponent −2079 with underflow, one too large as the direction says with overflow (07 R294 to R297,
R317): so rounded are the exact sum, difference, product and fused product, the quotient and the square root, each with its
preferred exponent (07 R295, R301), and a DFF quantized, scaled, or made from a B64 or into one. DFQUA raises no underflow (07
R315). -/
def Obligations.DecimalRounding : Prop :=
  (∀ (drm : Nat) (neg : Bool) (c n : Nat) (q pref : Int), drm ≤ 4 → 10 ^ (n - 1) ≤ c → c < 10 ^ n → n ≤ 9000 →
      let r := roundDff drm neg c q false pref
      (q + n ≤ 2048 → ∃ m t fl, r = (.fin neg m t, fl) ∧ IsRounding 10 drm neg c 1 q m t fl ∧ m < 10 ^ 33 ∧ -2079 ≤ t ∧ t ≤ 2016
        ∧ (fl = 0 ∨ (fl = 1 ∧ 10 ^ 32 ≤ m ∧ -2046 ≤ q + n) ∨ (fl = 3 ∧ t = -2079 ∧ q + n ≤ -2047))
        ∧ (fl = 0 → ∀ (m' : Nat) (t' : Int), m' < 10 ^ 33 → -2079 ≤ t' → t' ≤ 2016 →
            (∀ a b : Nat, (a : Int) - b = t' - t → m' * 10 ^ a = m * 10 ^ b) → (t - pref).natAbs ≤ (t' - pref).natAbs))
      ∧ (q + n = 2049 → ∃ m fl, IsRounding 10 drm neg c 1 q m 2016 fl ∧ m ≤ 10 ^ 33
        ∧ (m < 10 ^ 33 → r = (.fin neg m 2016, fl) ∧ (fl = 0 ∨ fl = 1)) ∧ (m = 10 ^ 33 → r = dffTooLarge drm neg))
      ∧ (2050 ≤ q + n → r = dffTooLarge drm neg))
  ∧ (∀ (drm brm : Nat) (sg tg : Bool) (j k l : Nat) (q r h n : Int), drm ≤ 4 → brm ≤ 3 →
      let X := Fl.fin sg k q
      let Y := Fl.fin tg l r
      let Z := Fl.fin tg j h
      let e := min q r
      let f := min (q + r) h
      let S := scaled 10 sg k q e + scaled 10 tg l r e
      let T := scaled 10 sg k q e - scaled 10 tg l r e
      let P := scaled 10 (sg != tg) (k * l) (q + r) f + scaled 10 tg j h f
      let near := fun (neg : Bool) (N D : Nat) (x : Int) (res : FlRes) => ∃ m t fl, res = (.fin neg m t, fl) ∧ m < 10 ^ 33
        ∧ (fl = 0 ∨ (fl = 1 ∧ 10 ^ 32 ≤ m)) ∧ IsRounding 10 drm neg N D x m t fl
      (S ≠ 0 → dfadd drm X Y = roundDff drm (decide (S < 0)) S.natAbs e false e)
      ∧ (T ≠ 0 → dfsub drm X Y = roundDff drm (decide (T < 0)) T.natAbs e false e)
      ∧ (0 < k → -2079 ≤ q → q ≤ 2016 → dfsub drm X X = (.fin false 0 q, 0))
      ∧ dfmul drm X Y = roundDff drm (sg != tg) (k * l) (q + r) false (q + r)
      ∧ (P ≠ 0 → dffma drm X Y Z = roundDff drm (decide (P < 0)) P.natAbs f false f)
      ∧ dfscb drm X n = roundDff drm sg k (q + n) false (q + n)
      ∧ (0 < k → k < 10 ^ 33 → 0 < l → l < 10 ^ 33 → -1900 ≤ q - r → q - r ≤ 1900 → near (sg != tg) k l (q - r) (dfdiv drm X Y))
      ∧ (0 < k → k < 10 ^ 33 → -2079 ≤ q → q ≤ 2016 → ∃ m t fl, dfsqrt drm (.fin false k q) = (.fin false m t, fl) ∧ m < 10 ^ 33
          ∧ (fl = 0 ∨ (fl = 1 ∧ 10 ^ 32 ≤ m)) ∧ IsRoot 10 drm k q m t fl)
      ∧ (∀ h' : Int, q = 2 * h' → -1039 ≤ h' → h' ≤ 1008 → ∀ w : Nat, 0 < w → k = w * w → k < 10 ^ 33 →
          dfsqrt drm (.fin false k q) = (.fin false w h', 0))
      ∧ (0 < k → dfsqrt drm (.fin true k q) = (.qnan false 0, 0x10)) ∧ dfsqrt drm (.inf true) = (.qnan false 0, 0x10)
      ∧ dfsqrt drm (.inf false) = (.inf false, 0) ∧ dffma drm X Y (.snan sg j) = (.qnan sg j, 0x10)
      ∧ (k < 10 ^ 33 → r ≤ q → k * 10 ^ (q - r).toNat < 10 ^ 33 → dfqua drm X Y = (.fin sg (k * 10 ^ (q - r).toNat) r, 0))
      ∧ (0 < k → r ≤ q → 10 ^ 33 ≤ k * 10 ^ (q - r).toNat → dfqua drm X Y = (.qnan false 0, 0x10))
      ∧ (k < 10 ^ 33 → q < r → ∃ m, RoundedTo drm sg m k (10 ^ (r - q).toNat)
          ∧ dfqua drm X Y = (.fin sg m r, if k = m * 10 ^ (r - q).toNat then 0 else 1))
      ∧ (0 ≤ q → dftb brm X = roundB64 brm sg (k * 10 ^ q.toNat) 0 false)
      ∧ (0 < k → k < 10 ^ 33 → -2079 ≤ q → q < 0 → 10 ^ (-q).toNat ≤ k * 2 ^ 1022 → ∃ m t fl, dftb brm X = (.fin sg m t, fl)
          ∧ 2 ^ 52 ≤ m ∧ m < 2 ^ 53 ∧ (fl = 0 ∨ fl = 1) ∧ IsRounding 2 (brmMode brm) sg k (10 ^ (-q).toNat) 0 m t fl)
      ∧ (0 ≤ q → btdf drm X = roundDff drm sg (k * 2 ^ q.toNat) 0 false 0)
      ∧ (q < 0 → btdf drm X = roundDff drm sg (k * 5 ^ (-q).toNat) q false 0))

/-- A B64 result is the exact number rounded once to 53 bits in the direction of BRM, below 2^−1022 to a multiple of 2^−1074, where
an inexact one raises underflow if it is tiny after rounding; one too large is as the direction says, with overflow (07 R297, R305,
R317). So rounded are the exact sum, difference, product, fused product and scaled number, the quotient and the square root; BFRINT
rounds to an integer and raises inexact where the value changes; the invalid operations give the default NaN, division of a nonzero
number by 0 an infinity with division by zero, and a NaN operand goes on, a signalling one with invalid (07 R298, R299, R305). -/
def Obligations.BinaryRounding : Prop :=
  (∀ (brm : Nat) (neg : Bool) (c : Nat) (e : Int), brm ≤ 3 → 0 < c →
      let top := e + (Nat.log2 c + 1 : Nat)
      let r := roundB64 brm neg c e false
      let mode := brmMode brm
      (-1021 ≤ top → top ≤ 1023 → ∃ m t fl, r = (.fin neg m t, fl) ∧ IsRounding 2 mode neg c 1 e m t fl ∧ 2 ^ 52 ≤ m ∧ m < 2 ^ 53
        ∧ -1074 ≤ t ∧ t ≤ 971 ∧ (fl = 0 ∨ fl = 1))
      ∧ (top ≤ -1022 → ∃ m fl, r = (.fin neg m (-1074), fl) ∧ IsRounding 2 mode neg c 1 e m (-1074) fl ∧ m ≤ 2 ^ 52
        ∧ (fl = 0 ∨ fl = 3 ∨ (fl = 1 ∧ m = 2 ^ 52)))
      ∧ (top = 1024 → ∃ m fl, IsRounding 2 mode neg c 1 e m 971 fl ∧ m ≤ 2 ^ 53
        ∧ (m < 2 ^ 53 → r = (.fin neg m 971, fl) ∧ (fl = 0 ∨ fl = 1)) ∧ (m = 2 ^ 53 → r = b64TooLarge brm neg))
      ∧ (1025 ≤ top → r = b64TooLarge brm neg))
  ∧ (∀ (brm : Nat) (sg tg : Bool) (j k l p : Nat) (q r h n : Int) (y : Fl), brm ≤ 3 →
      let X := Fl.fin sg k q
      let Y := Fl.fin tg l r
      let Z := Fl.fin tg j h
      let e := min q r
      let f := min (q + r) h
      let S := scaled 2 sg k q e + scaled 2 tg l r e
      let T := scaled 2 sg k q e - scaled 2 tg l r e
      let P := scaled 2 (sg != tg) (k * l) (q + r) f + scaled 2 tg j h f
      let invalid : FlRes := (.qnan false 0, 0x10)
      (S ≠ 0 → bfadd brm X Y = roundB64 brm (decide (S < 0)) S.natAbs e false)
      ∧ (T ≠ 0 → bfsub brm X Y = roundB64 brm (decide (T < 0)) T.natAbs e false)
      ∧ (0 < k → bfsub brm X X = (.fin false 0 0, 0))
      ∧ bfmul brm X Y = roundB64 brm (sg != tg) (k * l) (q + r) false
      ∧ (P ≠ 0 → bffma brm X Y Z = roundB64 brm (decide (P < 0)) P.natAbs f false)
      ∧ (0 < k → bfscb brm X n = roundB64 brm sg k (q + n) false)
      ∧ (0 < k → k < 2 ^ 53 → 0 < l → l < 2 ^ 53 → -960 ≤ q - r → q - r ≤ 900 → ∃ m t fl, bfdiv brm X Y = (.fin (sg != tg) m t, fl)
          ∧ 2 ^ 52 ≤ m ∧ m < 2 ^ 53 ∧ (fl = 0 ∨ fl = 1) ∧ IsRounding 2 (brmMode brm) (sg != tg) k l (q - r) m t fl)
      ∧ (0 < k → k < 2 ^ 53 → -1074 ≤ q → q ≤ 971 → ∃ m t fl, bfsqrt brm (.fin false k q) = (.fin false m t, fl)
          ∧ 2 ^ 52 ≤ m ∧ m < 2 ^ 53 ∧ (fl = 0 ∨ fl = 1) ∧ IsRoot 2 (brmMode brm) k q m t fl)
      ∧ (0 ≤ q → bfrint brm X = (X, 0))
      ∧ (q < 0 → ∃ m, RoundedTo (brmMode brm) sg m k (2 ^ (-q).toNat)
          ∧ bfrint brm X = ((roundB64 brm sg m 0 false).1, if k = m * 2 ^ (-q).toNat then 0 else 1))
      ∧ bfadd brm (.inf sg) (.inf (!sg)) = invalid ∧ bfsub brm (.inf sg) (.inf sg) = invalid ∧ bfmul brm (.inf sg) (.fin tg 0 r) = invalid
      ∧ bfdiv brm (.inf sg) (.inf tg) = invalid ∧ bfdiv brm (.fin sg 0 q) (.fin tg 0 r) = invalid
      ∧ (0 < k → bfsqrt brm (.fin true k q) = invalid ∧ bfdiv brm X (.fin tg 0 r) = (.inf (sg != tg), 0x08))
      ∧ (∀ f ∈ [bfadd, bfsub, bfmul, bfdiv], f brm (.snan sg p) y = (.qnan sg p, 0x10) ∧ f brm (.qnan sg p) Y = (.qnan sg p, 0)))

/-! ### Ledger core: strings, editing, customer instructions -/

/-- The short string forms: MOVS copies 1 to 128 octets as they stood, overlap included; FILS fills with one octet; XLTS replaces
each octet through a table of 256; CMPS sets CC by the first octets that differ; every other octet stands. A machine check within
one breaks it off as PARTIAL with its registers as they were (08 R325 to R329, R349). For CMPS, of which no octet is named, ADDR and
INFO are 0: the model's choice (log entry 100). -/
def Obligations.ShortStrings : Prop :=
  ∀ (s : State) (c : CoreId) (b : BankId) (f : FormF) (v w : TVal) (n a1 a2 : Nat) (m : Meets),
    s.memWf → IssuesTwo s c b → f.len2 = 0 → Holds s c b f.base1 v → IsBase v → Holds s c b f.base2 w → IsBase w → n = f.len1.toNat + 1 →
    let read := s.afterReads c m.errs
    let stores := fun (u : State) (o : Octets) (val : Nat → Byte) => UnlessBroken m s u c b true a1 n (fun t =>
      MovedOn s (u.setOctets c a1 o) t c b 2 ∧ (∀ a, a < a1 ∨ a1 + n ≤ a → t.byte c a = u.byte c a) ∧ ∀ i < n, t.byte c (a1 + i) = val i)
    (let u := read [(a2, n)]
     NoPoison u c a1 n → Covers s c b v f.disp1.toNat .store n a1 → Covers s c b w f.disp2.toNat .load n a2 → AllRaw u c a2 n →
      Completes (.movs c f m) s (stores u (u.octets c a2 n) (fun i => u.byte c (a2 + i))))
    ∧ (let u := read [(a2, 1)]
       NoPoison u c a1 n → Covers s c b v f.disp1.toNat .store n a1 → Covers s c b w f.disp2.toNat .load 1 a2 → AllRaw u c a2 1 →
      Completes (.fils c f m) s (stores u (List.replicate n (u.byte c a2)) (fun _ => u.byte c a2)))
    ∧ (let u := read [(a1, n), (a2, 256)]
       AllRaw u c a1 n → Covers s c b v f.disp1.toNat .load n a1 → Covers s c b v f.disp1.toNat .store n a1 →
      Covers s c b w f.disp2.toNat .load 256 a2 → AllRaw u c a2 256 →
      Completes (.xlts c f m) s (stores u ((List.range n).map (fun i => u.byte c (a2 + (u.byte c (a1 + i)).toNat)))
        (fun i => u.byte c (a2 + (u.byte c (a1 + i)).toNat))))
    ∧ (let u := read [(a1, n), (a2, n)]
       let sets := fun k : Nat => UnlessBroken m s u c b true 0 0 (fun t => MovedOn s (u.setBankCc c b k) t c b 2)
       AllRaw u c a1 n → AllRaw u c a2 n → Covers s c b v f.disp1.toNat .load n a1 → Covers s c b w f.disp2.toNat .load n a2 →
      (u.octets c a1 n = u.octets c a2 n → Completes (.cmps c f m) s (sets 0))
      ∧ ∀ i < n, (∀ j < i, u.byte c (a1 + j) = u.byte c (a2 + j)) → u.byte c (a1 + i) ≠ u.byte c (a2 + i) →
        Completes (.cmps c f m) s (sets (if u.byte c (a1 + i) < u.byte c (a2 + i) then 1 else 2)))

/-- The long string forms, one step of up to 256 octets: MOVL moves and pads, from the end down where the operands overlap
destructively, CMPL compares through the padding, XLTL translates, XSCL and FIND look for a class and for an octet. The address and
length registers move past what was done; the instruction ends with its CC, or stays at its PC at the interruption point; with
nothing to do it ends at once (08 R330 to R347). EDIT edits the field at the front of the pattern: the octets R353 to R357 give,
written over the result; result, pattern and source registers move past what was used; CC is the sign of the source; with pattern
left it stays at its PC (08 R351 to R360). A machine check within a step breaks it off as PARTIAL with its registers as they were
(08 R349). The model's choices: ADDR 0 where no octet is named, for CMPL, XSCL and FIND (log entry 100), and the last step and the
end in one command (log entry 92). -/
def Obligations.LongStrings : Prop :=
  (∀ (s : State) (c : CoreId) (b : BankId) (d a e : Reg) (x1 x2 x3 : TVal) (l1 l2 a1 a2 : Nat) (pad : Byte) (q : Meets),
        Issues s c b → Holds s c b d x1 → IsBase x1 → Holds s c b (nextReg d) (binNat l1) → l1 ≤ 67108864 →
        let n := min 256 l1
        let m := min n l2
        let read := s.afterReads c q.errs
        let now := fun (cc : Option Nat) => UnlessBroken q s s c b true 0 0 (fun t =>
          MovedOn s (match cc with | some k => s.setBankCc c b k | none => s) t c b 1)
        let ends := fun (r : State) (addr len : Nat) (u : State) (cc : Option Nat) (ended : Prop) => UnlessBroken q s r c b true addr len (fun t =>
          (ended → MovedOn s (match cc with | some k => u.setBankCc c b k | none => u) t c b 1) ∧ (¬ ended → SettledAs u t c b))
        (longFields [d, a] [e] = .ok () → Holds s c b a x2 → IsBase x2 → Holds s c b (nextReg a) (binNat l2) → l2 ≤ 67108864 →
          Holds s c b e (binNat pad.toNat) → longAddr x2 l2 .load = .ok () →
          (longAddr x1 l1 .store = .ok () →
            (l1 = 0 → Completes (.movl c d a e q) s (now (some (if l2 = 0 then 0 else 1))))
            ∧ (let u := read [(a2, m)]
               0 < l1 → (l2 = 0 ∨ addrOf x1 ≤ addrOf x2 ∨ addrOf x2 + min l1 l2 ≤ addrOf x1) →
              Covers s c b x1 0 .store n a1 → NoPoison u c a1 n → (0 < m → Covers s c b x2 0 .load m a2 ∧ AllRaw u c a2 m) →
              Completes (.movl c d a e q) s (ends u a1 n
                (setPair (setPair (u.setOctets c a1 (u.octets c a2 m ++ List.replicate (n - m) pad)) c b d (advanceAddr x1 n) (l1 - n))
                  c b a (advanceAddr x2 m) (l2 - m)) (some (if l2 = m then 0 else 1)) (l1 = n)))
            ∧ (0 < l2 → addrOf x2 < addrOf x1 → addrOf x1 < addrOf x2 + min l1 l2 →
              (let k := min 256 (l1 - l2)
               l2 < l1 → Covers s c b x1 (l1 - k : Nat) .store k a1 → NoPoison s c a1 k → Completes (.movl c d a e q) s (ends s a1 k
                (setPair (s.setOctets c a1 (List.replicate k pad)) c b d (shortenAddr x1 k) (l1 - k)) none False))
              ∧ (let u := read [(a2, n)]
                 l1 ≤ l2 → Covers s c b x1 (l1 - n : Nat) .store n a1 → Covers s c b x2 (l1 - n : Nat) .load n a2 → NoPoison u c a1 n →
                AllRaw u c a2 n → Completes (.movl c d a e q) s (ends u a1 n
                  (setPair (setPair (u.setOctets c a1 (u.octets c a2 n)) c b d (shortenAddr x1 n) (l1 - n)) c b a (shortenAddr x2 n) (l2 - n))
                  (some (if l2 = n then 0 else 1)) (l1 = n)))))
          ∧ (longAddr x1 l1 .load = .ok () →
            let k := min 256 (max l1 l2)
            let u := read [(a1, min k l1), (a2, min k l2)]
            let A := fun i => if i < l1 then u.byte c (a1 + i) else pad
            let B := fun i => if i < l2 then u.byte c (a2 + i) else pad
            let moved := fun i => setPair (setPair u c b d (advanceAddr x1 (min i l1)) (l1 - i)) c b a (advanceAddr x2 (min i l2)) (l2 - i)
            (l1 = 0 → l2 = 0 → Completes (.cmpl c d a e q) s (now (some 0)))
            ∧ (0 < k → (0 < l1 → Covers s c b x1 0 .load (min k l1) a1 ∧ AllRaw u c a1 (min k l1)) →
              (0 < l2 → Covers s c b x2 0 .load (min k l2) a2 ∧ AllRaw u c a2 (min k l2)) →
              ((∀ i < k, A i = B i) → Completes (.cmpl c d a e q) s (ends u 0 0 (moved k) (some 0) (max l1 l2 = k)))
              ∧ ∀ i < k, (∀ j < i, A j = B j) → A i ≠ B i →
                Completes (.cmpl c d a e q) s (ends u 0 0 (moved i) (some (if A i < B i then 1 else 2)) True))))
        ∧ (longFields [d] [e] = .ok () → Holds s c b e x3 → IsBase x3 → longAddr x1 l1 .load = .ok () → longAddr x1 l1 .store = .ok () →
          longAddr x3 256 .load = .ok () →
          (l1 = 0 → Completes (.xltl c d e q) s (now none))
          ∧ (let u := read [(a1, n), (a2, 256)]
             0 < l1 → Covers s c b x1 0 .load n a1 → Covers s c b x1 0 .store n a1 → AllRaw u c a1 n → Covers s c b x3 0 .load 256 a2 →
            AllRaw u c a2 256 → Completes (.xltl c d e q) s (ends u a1 n
              (setPair (u.setOctets c a1 ((List.range n).map (fun i => u.byte c (a2 + (u.byte c (a1 + i)).toNat)))) c b d (advanceAddr x1 n)
                (l1 - n)) none (l1 = n))))
        ∧ (longFields [d] [a, e] = .ok () → Holds s c b e x3 → IsBase x3 → Holds s c b a (binNat l2) → l2 < 65536 →
          longAddr x1 l1 .load = .ok () → longAddr x3 256 .load = .ok () →
          (l1 = 0 → Completes (.xscl c d a e q) s (now (some 0)))
          ∧ (let u := read [(a1, n), (a2, 256)]
             0 < l1 → Covers s c b x1 0 .load n a1 → AllRaw u c a1 n → Covers s c b x3 0 .load 256 a2 → AllRaw u c a2 256 →
            let cls := fun i => u.byte c (a2 + (u.byte c (a1 + i)).toNat)
            ((∀ i < n, cls i &&& BitVec.ofNat 8 l2 = 0) → Completes (.xscl c d a e q) s (ends u 0 0
              (setPair u c b d (advanceAddr x1 n) (l1 - n)) (some 0) (l1 = n)))
            ∧ ∀ i < n, (∀ j < i, cls j &&& BitVec.ofNat 8 l2 = 0) → cls i &&& BitVec.ofNat 8 l2 ≠ 0 → Completes (.xscl c d a e q) s (ends u 0 0
              ((setPair u c b d (advanceAddr x1 i) (l1 - i)).setReg c b a (binNat (l2 % 256 + 256 * (cls i).toNat))) (some 2) True)))
        ∧ (longFields [d] [e] = .ok () → Holds s c b e (binNat pad.toNat) → longAddr x1 l1 .load = .ok () →
          (l1 = 0 → Completes (.find c d e q) s (now (some 2)))
          ∧ (let u := read [(a1, n)]
             0 < l1 → Covers s c b x1 0 .load n a1 → AllRaw u c a1 n →
            ((∀ i < n, u.byte c (a1 + i) ≠ pad) → Completes (.find c d e q) s (ends u 0 0 (setPair u c b d (advanceAddr x1 n) (l1 - n)) (some 2) (l1 = n)))
            ∧ ∀ i < n, (∀ j < i, u.byte c (a1 + j) ≠ pad) → u.byte c (a1 + i) = pad → Completes (.find c d e q) s (ends u 0 0
              (setPair u c b d (advanceAddr x1 i) (l1 - i)) (some 0) True))))
  ∧ (∀ (s : State) (c : CoreId) (b : BankId) (d a e : Reg) (xr xp xs xe : TVal) (n p dg ar ap as_ ae : Nat) (k : Ecb) (v : Int) (o : Octets)
        (q : Meets),
        Issues s c b → longFields [d, a] [e] = .ok () → Holds s c b d xr → IsBase xr → Holds s c b (nextReg d) (binNat n) → Holds s c b a xp →
        IsBase xp → Holds s c b (nextReg a) xs → IsBase xs → Holds s c b e xe → IsBase xe → 0 < n → n ≤ 67108864 →
        longAddr xr n .store = .ok () → longAddr xp n .load = .ok () → longAddr xe 64 .load = .ok () →
        p = fieldLength (s.octets c (addrOf xp) (min n 257)) → p ≤ 256 → Covers s c b xp 0 .load p ap →
        dg = ((s.octets c ap p).filter takesDigit).length → dg ≤ 127 →
        let ls := if dg = 0 then 0 else dg / 2 + 1
        let u := s.afterReads c q.errs ((ap, p) :: ((if ls = 0 then [] else [(as_, ls)]) ++ [(ae, 64)]))
        Covers s c b xr 0 .store p ar → Covers s c b xe 0 .load 64 ae → ae % 16 = 0 → NoPoison u c ar p → AllRaw u c ap p → AllRaw u c ae 64 →
        ecbOf (u.octets c ae 64) = some k →
        longAddr xs ls .load = .ok () → (if dg = 0 then v = 0 else Covers s c b xs 0 .load ls as_ ∧ AllRaw u c as_ ls
          ∧ packedOf (u.octets c as_ ls) = .ok v) → v.natAbs < 10 ^ dg →
        editField k (s.octets c ap p) (digitList dg v.natAbs) (decide (v < 0)) (v == 0) = some o →
        let r := ((setPair (u.setOctets c ar o) c b d (advanceAddr xr p) (n - p)).setReg c b a (advanceAddr xp p)).setReg c b (nextReg a)
          (advanceAddr xs ls)
        Completes (.edit c d a e q) s (UnlessBroken q s u c b true ar p (fun t =>
          (n = p → MovedOn s (r.setBankCc c b (ccOfInt v)) t c b 1) ∧ (n ≠ p → SettledAs r t c b))))

/-- A customer instruction runs its routine from the dispatch entry within its declared count; its register writes are held to the
end and CC is set where END says so; a first microword END does nothing; an opcode without an entry takes RI, and one not open to
user mode takes PRIV there; a routine that outruns its count takes RI, and one that reaches an uncorrectable microword raises MCHECK
with PC on the instruction (13 R520, R529, R535 to R539; its ADDR and INFO of 0 are the model's choice, log entry 100). Each
microword does what its kind says: the ALU operations on BIN and DEC with Z and N, IMM, LOAD, TAG, BR on each condition, END; a
routine of one ALU word on a and b and END writes the result to d (13 R522 to R529). That a routine that is broken off is charged
the cycles it used is log entry 100 too. -/
def Obligations.CustomerInstructions : Prop :=
  let alu := fun (op dst sa sb : Nat) => BitVec.ofNat 32 (0x10000000 + op * 0x400000 + dst * 0x20000 + sa * 0x1000 + sb * 0x80)
  let ending := fun (ccw : Bool) (ccv : Nat) => BitVec.ofNat 32 (0xE0000000 + (if ccw then 0x8000000 else 0) + ccv * 0x2000000)
  let binary := fun (p q : Payload) => [(0, p, 1), (1, p + q, 1), (2, p - q, 1), (3, p &&& q, 1), (4, p ||| q, 1), (5, p ^^^ q, 1),
    (6, p <<< (q.toNat % 128), 1), (7, p >>> (q.toNat % 128), 1), (8, p.sshiftRight (q.toNat % 128), 1),
    (9, BitVec.ofNat 128 ((List.range 128).countP (fun i => p.getLsbD i)), 1), (0xA, p * q, 4)]
  (∀ (s u : State) (c : CoreId) (b : BankId) (op : BitVec 4) (d a e : Reg) (x y z : TVal) (fn : BitVec 9) (errs : Errs)
    (badWord : Option (Fin 24576)),
    Issues s c b →
    let i := Instr.customerInstruction c op d a e fn errs badWord
    let q := microEntry s.svc.mcPackage op.toNat
    let bad := fun (w : Nat) => (s.core c).badWords.contains w || badWord.any (fun x => x.val == w)
    let run := microRun c b errs bad (q.cycles + 1) q.cycles q.entry s
      ⟨z, x, y, (s.bank c b).reg b (nextReg d), (s.core c).inFlight b ((s.bank c b).slot b (nextReg d)), fn.toNat, List.replicate 14 TVal.zero,
        none, none, false, false⟩
    (q.entry = 0 → Traps i s c b 1 0 0 0)
    ∧ (q.entry ≠ 0 → q.user = false → ¬ Super s c b → Traps i s c b 2 0 0 0)
    ∧ (q.entry ≠ 0 → (q.user = true ∨ Super s c b) → (q.pair = true → d.val % 2 = 0 ∧ Ready s c b (nextReg d)) →
      Holds s c b a x → Holds s c b e y → Holds s c b d z →
      (∀ (r : Micro) (cc : Option Nat), run = .ok (u, .done r cc) → Completes i s (fun t =>
          let s1 := match r.outD with | some v => u.setReg c b d v | none => u
          let s2 := match r.outD1 with | some v => s1.setReg c b (nextReg d) v | none => s1
          MovedOn s (match cc with | some v => s2.setBankCc c b v | none => s2) t c b 1))
      ∧ ((s.microword c q.entry).toNat / 2 ^ 27 = 28 → 0 < q.cycles → bad q.entry = false → Completes i s (fun t => MovedOn s s t c b 1))
      ∧ (∀ (p r : Payload) (ccw : Bool) (ccv : Nat), x = ⟨tBIN, p⟩ → y = ⟨tBIN, r⟩ → ccv < 3 → ∀ o ∈ binary p r,
          s.microword c q.entry = alu o.1 0 1 2 → s.microword c (q.entry + 1) = ending ccw ccv → bad q.entry = false → bad (q.entry + 1) = false →
          o.2.2 < q.cycles → Completes i s (fun t => MovedOn s
            (if ccw then (s.setReg c b d ⟨tBIN, o.2.1⟩).setBankCc c b ccv else s.setReg c b d ⟨tBIN, o.2.1⟩) t c b 1))
      ∧ (∀ w left : Nat, run = .ok (u, .badWord w left) → Completes i s (fun t =>
          (t.bank c b).pc = (u.bank c b).pc ∧ (t.bank c b).regs = (u.bank c b).regs ∧ w ∈ (t.core c).badWords
          ∧ ((u.core c).mcheck = none → (t.core c).mcheck = some ⟨b, false, 0, 0⟩)))
      ∧ (run = .ok (u, .overrun) → Completes i s (fun t => (t.bank c b).pc = (u.bank c b).pc ∧ (t.bank c b).regs = (u.bank c b).regs
          ∧ ∃ f, (t.core c).entering = some f ∧ f.vector = 1 ∧ f.bank = b))))
  ∧ (∀ (s : State) (c : CoreId) (b : BankId) (errs : Errs) (a : Nat) (m : Micro) (sa sb dst : Nat),
      m.d1Due = false → m.temp.length = 14 → sa < 19 → sb < 19 → 4 ≤ dst → dst ≤ 17 →
      let x := m.read sa tRAW
      let y := m.read sb tRAW
      let step := microStep s c b errs a m
      let does := fun (u : State) (w : W32) (v : TVal) (n : Nat) (f : Bool × Bool) => s.microword c a = w →
        ∃ m' : Micro, step = .ok (some (u, m', some (a + 1), none, n)) ∧ m'.read dst tRAW = v ∧ (∀ r, r ≠ dst → m'.read r tRAW = m.read r tRAW)
          ∧ m'.outD = m.outD ∧ m'.outD1 = m.outD1 ∧ (m'.z, m'.n) = f
      (∀ p q : Payload, x = ⟨tBIN, p⟩ → y = ⟨tBIN, q⟩ → ∀ o ∈ binary p q,
        does s (alu o.1 dst sa sb) ⟨tBIN, o.2.1⟩ o.2.2 (decide (o.2.1 = 0), o.2.1.getLsbD 127))
      ∧ (∀ p q : Payload, x = ⟨tDEC, p⟩ → y = ⟨tDEC, q⟩ → malformed x = false → malformed y = false →
        let X := decOf p
        let Y := decOf q
        let k := max X.scale Y.scale
        (∀ o ∈ [(0x10, X.v * 10 ^ (k - X.scale) + Y.v * 10 ^ (k - Y.scale), k, 3), (0x11, X.v * 10 ^ (k - X.scale) - Y.v * 10 ^ (k - Y.scale), k, 3),
            (0x12, X.v * Y.v, X.scale + Y.scale, 12)],
          o.2.1.natAbs < 10 ^ 33 → o.2.2.1 ≤ 32 →
          does s (alu o.1 dst sa sb) (decVal ⟨o.2.1, o.2.2.1⟩) o.2.2.2 (decide (o.2.1 = 0), decide (o.2.1 < 0)))
        ∧ (s.microword c a = alu 0x13 19 sa sb → step = .ok (some (s,
            { m with z := decide (X.v * 10 ^ (k - X.scale) = Y.v * 10 ^ (k - Y.scale)), n := decide (X.v * 10 ^ (k - X.scale) < Y.v * 10 ^ (k - Y.scale)) },
            some (a + 1), none, 3))))
      ∧ (x.tag.toNat < 0xB → does s (alu 0x18 dst sa sb) (binNat x.tag.toNat) 1 (decide (x.tag = tRAW), false))
      ∧ (∀ (pos : Nat) (value : BitVec 16), pos % 16 = 0 → pos ≤ 112 → (m.read dst tRAW).tag.toNat < 0xB → ∃ v : Payload,
          (∀ i < 128, v.getLsbD i = if pos ≤ i ∧ i < pos + 16 then value.getLsbD (i - pos) else (m.read dst tRAW).val.getLsbD i)
          ∧ does s (BitVec.ofNat 32 (0x20000000 + dst * 0x800000 + pos * 0x10000 + value.toNat)) ⟨tBIN, v⟩ 1 (m.z, m.n))
      ∧ (∀ (size addr : Nat) (sgn : Bool) (disp : BitVec 14), (m.read 16 tRAW).tag = tBIN →
          let load := BitVec.ofNat 32 (0x30000000 + dst * 0x800000 + size * 0x100000 + (if sgn then 0x80000 else 0) + disp.toNat * 32)
          let n := 2 ^ size
          let u := s.findErrors c errs (granAddrs addr n)
          let v := leNat (u.octets c addr n)
          Reaches s c b (m.read 16 tRAW) disp.toInt .load n addr →
          (size < 4 → u.checkGrans c addr n octetTags 4 = .ok () →
            does u load ⟨tBIN, BitVec.ofInt 128 (if sgn then Int.bmod v (2 ^ (8 * n)) else v)⟩
              ((if isBay addr then 24 else 3) + (if addr % 16 + n > 16 then 2 else 0)) (m.z, m.n))
          ∧ (size = 4 → sgn = false → addr % 16 = 0 → u.checkGrans c addr n anyTag 4 = .ok () →
            does u load (u.gran c addr) (if isBay addr then 24 else 3) (m.z, m.n)))
      ∧ (∀ tag : BitVec 4, x.tag.toNat < 0xB →
          let word := fun (reg mode : Nat) => BitVec.ofNat 32 (0x40000000 + reg * 0x800000 + tag.toNat * 0x80000 + mode * 0x40000)
          (s.microword c a = word sa 0 → (x.tag = tag → step = .ok (some (s, m, some (a + 1), none, 1)))
            ∧ (x.tag ≠ tag → ∃ info, step = .error (.fault 3 1 0 info)))
          ∧ ((m.read dst tRAW).tag = tRAW → tag.toNat < 0xB → tag ≠ tREF → malformed ⟨tag, (m.read dst tRAW).val⟩ = false →
            does s (word dst 1) ⟨tag, (m.read dst tRAW).val⟩ 1 (m.z, m.n)))
      ∧ (∀ target < 32768, ∀ p ∈ [(0, 0), (1, if m.z then 1 else 0), (2, if m.n then 1 else 0),
            (3, (if m.n then 2 else 0) + (if m.z then 1 else 0)), (4, if (m.read 17 tRAW).val = 0 then 1 else 0), (5, m.a.tag.toNat), (6, m.b.tag.toNat),
            (7, m.fn % 16), (8, m.fn / 16)],
          s.microword c a = BitVec.ofNat 32 (0x80000000 + p.1 * 0x1000000 + target) → step = .ok (some (s, m, some (target ||| p.2), none, 1)))
      ∧ (∀ (ccw : Bool) (ccv : Nat), ccv < 3 → s.microword c a = ending ccw ccv →
          step = .ok (some (s, m, none, (if ccw then some ccv else none), 1))))

/-! ### Ledger core: requests -/

/-- SCRIBE appends 1 to 512 octets as the next leaf of the span and returns its index, and its bank keeps no place among those that
wait for the buffer; in a job it counts against SCR_REC, for bank 0 against the span's own records; a job at its SCR_REC takes
BUDGET, vector 9, cause 4, and appends nothing (06 R266 to R268, R270; 14 R544, R545, R547, R548). DRAW, SEAL and RCPT in a task
bank queue their request with a handle of the bank's own count; PCMD on the control core posts a ring command, answers 1 where eight
wait and 2 where it is malformed; POST raises a source of another core (06 R271; 09 R372; 16 R633 to R646). The order of the checks
and RCPT's own count are the model's reading (log entry 38). -/
def Obligations.ScribeRequests : Prop :=
  (∀ (s : State) (c : CoreId) (b : BankId) (d a e : Reg) (v : TVal) (n addr : Nat) (errs : Errs),
        Issues s c b → s.queueRoom c b .scribe = true → Ready s c b d → Holds s c b a v → IsBase v → Holds s c b e (binNat n) →
        1 ≤ n → n ≤ 512 → s.checkBay c (mkAccess (s.bank c b) v 0 .load) n = .ok addr → addr % 16 = 0 →
        let u := (s.afterReads c errs [(addr, n)]).leaveScribe c b
        AllRaw u c addr n →
        let put := fun (w : State) (data : Octets) (job : Option Nat) => ({ w with scribe := { w.scribe with
          leaves := w.scribe.leaves ++ [⟨data, c, b, job, false, false⟩]
          bank0 := if b = 0 then w.scribe.bank0 + 1 else w.scribe.bank0 } } : State).setReg c b d (binNat u.scribe.leaves.length)
        ((u.bank c b).job = none → Completes (.scribe c d a e errs) s (fun t =>
          MovedOn s (put u (leafData 4 c.val b.val 0 0 0 (u.octets c addr n)) none) t c b 1))
        ∧ (∀ j : JobRun, (u.bank c b).job = some j →
          (j.scrUsed < j.job.cert.scrRec → Completes (.scribe c d a e errs) s (fun t => MovedOn s
            (put (u.modBank c b (fun k => { k with job := some { j with scrUsed := j.scrUsed + 1 } }))
              (leafData 1 c.val b.val j.job.cert.cls j.job.ring j.job.count.toNat (u.octets c addr n)) (some j.job.id)) t c b 1))
          ∧ (j.job.cert.scrRec ≤ j.scrUsed → Completes (.scribe c d a e errs) s (fun t => t.scribe = u.scribe
            ∧ ∃ x, (t.core c).entering = some x ∧ x.vector = 9 ∧ x.cause = 4 ∧ x.bank = b))))
  ∧ (∀ (s u : State) (c : CoreId) (b : BankId) (d a : Reg) (v : TVal) (addr : Nat) (errs : Errs),
        Issues s c b → Holds s c b a v → Ready s c b d → b ≠ bankT → IsBase v → s.checkBlock c b errs v 64 = .ok (u, addr) →
        let block := u.octets c addr 64
        let op := fieldAt block 0 1
        let n := fieldAt block 4 4
        (s.queueRoom c b .draw = true → drawBad block = false → u.checkOut c b (fieldAt block 24 4) 160 16 = .ok () →
          (∀ j, (u.bank c b).job = some j → j.scrUsed < j.job.cert.scrRec) → Completes (.draw c d a errs) s (fun t => MovedOn s
            (({ (u.modBank c b (fun k => { k with
                  drawSeq := k.drawSeq + 1, job := k.job.map (fun j => { j with scrUsed := j.scrUsed + 1 }) })) with
                ds := { u.ds with draws := u.ds.draws ++ [⟨c, b, (u.bank c b).jobId, BitVec.ofNat 32 addr, block, (u.bank c b).tsw, u.t.span,
                  u.t.clock, [], true⟩] }
                scribe := { u.scribe with bank0 := if b = 0 then u.scribe.bank0 + 1 else u.scribe.bank0 } } : State).setReg c b d
              (binNat (handleOf c b ((u.bank c b).drawSeq + 1) 0).toNat)) t c b 1))
        ∧ (s.queueRoom c b .seal = true → sealBad block = false → (op = 6 ∨ op = 7 → b = 0) →
          (n ≠ 0 → ∃ i, u.checkBay c (mkAccess (u.bank c b) (binNat (fieldAt block 8 4)) 0 .load) n = .ok i) →
          (fieldAt block 20 4 ≠ 0 → ∃ i, u.checkBay c (mkAccess (u.bank c b) (binNat (fieldAt block 16 4)) 0 .load) (fieldAt block 20 4) = .ok i) →
          (sealOutLen op n ≠ 0 → u.checkOut c b (fieldAt block 12 4) (sealOutLen op n) 16 = .ok ()) →
          Completes (.seal c d a errs) s (fun t => MovedOn s
            (({ (u.modBank c b (fun k => { k with sealSeq := k.sealSeq + 1 })) with
                ds := { u.ds with seals := u.ds.seals ++ [⟨c, b, (u.bank c b).jobId, BitVec.ofNat 32 addr, block, (u.bank c b).tsw, u.t.span, u.t.clock,
                  (u.sealKey op (fieldAt block 1 1)).1, (u.sealKey op (fieldAt block 1 1)).2⟩] } } : State).setReg
              c b d (binNat (handleOf c b ((u.bank c b).sealSeq + 1) 0).toNat)) t c b 1)))
  ∧ (∀ (s : State) (c : CoreId) (b : BankId) (d a e : Reg) (v w : TVal) (addr : Nat),
        Issues s c b → Holds s c b a v →
        (∀ (i id : Nat) (l : Leaf), Ready s c b d → b ≠ bankT → v = binNat i → i < 2 ^ 128 → Holds s c b e w → IsBase w →
          s.queueRoom c b .receipt = true → s.checkBay c (mkAccess (s.bank c b) w 0 .store) 32 = .ok addr → addr % 32 = 0 →
          (s.bank c b).jobId = some id → s.scribe.leaves[i]? = some l → l.core = c → l.bank = b → l.job = some id → l.receipted = false →
          Completes (.rcpt c d a e) s (fun t => MovedOn s
            (({ (s.modBank c b (fun k => { k with rcptSeq := k.rcptSeq + 1 })) with
                ds := { s.ds with rcpts := s.ds.rcpts ++ [⟨c, b, some id, BitVec.ofNat 32 addr, s.t.clock, s.t.span, i, leafHash l.data, s.keyOctets 5⟩] }
                scribe := { s.scribe with leaves := s.scribe.leaves.set i { l with receipted := true } } } : State).setReg c b d
              (binNat (handleOf c b ((s.bank c b).rcptSeq + 1) 0).toNat)) t c b 1))
        ∧ (c = s.controlCore → Super s c b → Ready s c b d → (v.tag = tRAW ∨ v.tag = tBIN) →
          (postedOf v.val = none → Completes (.pcmd c d a) s (fun t => MovedOn s (s.setReg c b d (binNat 2)) t c b 1))
          ∧ ∀ p, postedOf v.val = some p →
            (8 ≤ s.host.postQueue.length → Completes (.pcmd c d a) s (fun t => MovedOn s (s.setReg c b d (binNat 1)) t c b 1))
            ∧ (s.host.postQueue.length < 8 → Completes (.pcmd c d a) s (fun t => MovedOn s
              (({ s with host := { s.host with postQueue := s.host.postQueue ++ [p] } }).setReg c b d (binNat 0)) t c b 1)))
        ∧ (∀ (src : Nat) (core : CoreId), v = binNat (src + 65536 * core.val) → 256 ≤ src → src < 512 → (Super s c b ∨ 384 ≤ src) →
          Completes (.post c a) s (fun t => MovedOn s (s.raiseOn core src 0) t c b 1)))

/-- MOVR queues a mover command, VCHAIN a chain whose descriptor passes its checks, each with a handle of the bank's count and its
state 1 written back; a descriptor that fails its checks gives a handle and a chain FAULTED with BAD_DESC and the field; VRESUME
gives a faulted chain back to the queue or, with RESUME 1, ends it (10 R413 to R418, R426, R447; 12 R508 to R512; 06 R826). The
model's readings: VRESUME goes on in the count of chains (log entry 38), MOVR writes the state 1 itself (log entry 39), and a
descriptor is checked at VCHAIN, a resumed chain keeping its place (log entry 35). -/
def Obligations.EngineRequests : Prop :=
  ∀ (s : State) (c : CoreId) (b : BankId) (d a : Reg) (v : TVal) (addr : Nat) (errs : Errs),
    Issues s c b → Ready s c b d → Holds s c b a v →
    (let u := s.afterReads c errs [(addr, 32)]
     let m := movOp (u.octets c addr 32)
     IsBase v → s.queueRoom c b .moves = true → Covers s c b v 0 .load 32 addr → isBay addr = false → addr % 32 = 0 →
      AllRaw u c addr 32 → movBad (u.octets c addr 32) = false → u.checkMov c b m = .ok () →
      (∀ j, (u.bank c b).job = some j → j.movUsed + m.len ≤ j.job.cert.movBytes) →
      Completes (.movr c d a errs) s (fun t =>
        let seq := (u.bank c b).moverSeq + 1
        let x : MovCmd := ⟨c, b, u.freeSlot c b, (u.bank c b).jobId, BitVec.ofNat 32 addr, u.octets c addr 32, (u.bank c b).tsw, false, u.mover.order,
          false, 0⟩
        MovedOn s ((({ (u.modBank c b (fun k => { k with moverSeq := seq, job := k.job.map (fun j =>
              { j with movUsed := j.movUsed + m.len }) })) with mover := ⟨u.mover.cmds ++ [x], u.mover.order + 1⟩ } : State).putMov
          x 1 0 0).setReg c b d (binNat (handleOf c b seq x.slot).toNat)) t c b 1))
    ∧ (∀ u : State, b ≠ bankT → IsBase v → s.queueRoom c b .chains = true → s.checkBlock c b errs v 128 = .ok (u, addr) →
      let seq := (u.bank c b).chainSeq + 1
      let h := handleOf c b seq u.freeEntry
      let x : ChainEnt := ⟨h, c, b, (u.bank c b).jobId, BitVec.ofNat 32 addr, u.octets c addr 128, (u.bank c b).tsw, .queued, false,
        u.lve.nextPlace, 0, 0, [], [], 0, 0, none⟩
      let w : State := { (u.modBank c b (fun k => { k with chainSeq := seq })) with lve := ⟨u.lve.chains, u.lve.nextPlace + 1⟩ }
      (badDesc u x.desc (b == 0) = none → Completes (.vchain c d a errs) s (fun t =>
        MovedOn s ((((w.setChainEnt u.freeEntry (some x)).putChainState x 1).updateVpos x).setReg c b d (binNat h.toNat)) t c b 1))
      ∧ (∀ o, badDesc u x.desc (b == 0) = some o → Completes (.vchain c d a errs) s (fun t =>
        MovedOn s (((w.faultChain u.freeEntry x ⟨0, 1, o, 0, freeAddr u⟩).useFree 1).setReg c b d (binNat h.toNat)) t c b 1)))
    ∧ (∀ (e : Nat) (x : ChainEnt) (w : State), b ≠ bankT → v.tag = tBIN → s.resumable c b v.val = some (e, x) →
      s.checkBlock c b errs (binNat x.addr.toNat) 128 = .ok (w, addr) →
      let u := w.modBank c b (fun k => { k with chainSeq := k.chainSeq + 1 })
      (w.byte c (x.addr.toNat + 68) = 1 → Completes (.vresume c d a errs) s (fun t => MovedOn s ((u.freeChain e x 6).setReg c b d v) t c b 1))
      ∧ (w.byte c (x.addr.toNat + 68) = 0 → (∀ f, x.fault = some f → f.cause ≠ 1) → Completes (.vresume c d a errs) s (fun t =>
        let y := { x with st := .queued, entered := false, place := w.lve.nextPlace }
        MovedOn s (((({ u with lve := ⟨u.lve.chains, u.lve.nextPlace + 1⟩ } : State).setChainEnt e (some y)).putChainState y 1).setReg c b d v) t c b 1)))

/-! ### Between instructions -/

/-- COMPLETION_PORT_WRITE writes the oldest result into its register, unless a window advance or a dispatch has cleared that
register since, adds its flags to FPSF and, in IMPRECISE, leaves its record or joins it to the pending one of the same MODE and MASK
(05 R170, R206, R209; 07 R300, R307 to R309). A full queue that has room makes the bank blocked on it READY, its PC still on the
request; the events that end a WAIT make the blocked bank READY past the WAIT, with the loop step where it ends a loop's body, and
change nothing else: a time reached, chains, mover commands, and draw, seal and receipt requests all ended (06 R247, R262, R269; 09
R401, R406; 10 R417; 12 R512; 16 R648). BANK_SWITCH makes RUNNING the READY bank that outranks every other READY bank, by priority,
then bank 0, then the longest READY, then the number, where the core runs none or one of lower priority, which becomes READY (09
R401 to R403). The model's readings: the release row itself retires the WAIT and moves PC past it (log entry 27), and results enter
in the order of dispatch, those of cleared registers dropped (log entry 110). -/
def Obligations.PortAndWakes : Prop :=
  (∀ (s : State) (c : CoreId) (x : PortEntry) (r : List PortEntry), (s.core c).port = x :: r →
      Completes (.completionPortWrite c) s (fun t =>
        t = (s.modCore c (fun k => { k with port := r })).modBank c x.bank (fun k => { k with
          regs := match x.slot with | some i => k.regs.set i x.val | none => k.regs
          fpsf := k.fpsf ||| x.flags.setWidth 32
          fpt := match x.fpt, k.fpt with
            | none, o => o
            | some n, none => some n
            | some n, some o => if n.mode = o.mode ∧ n.mask = o.mask then some ⟨o.pc, o.flags ||| n.flags, o.mode, o.mask⟩ else some o })))
  ∧ (∀ (s : State) (c : CoreId) (b : BankId) (q : QueueKind) (n : Nat), (s.bank c b).st = .blocked →
      let ready := fun k : Bank => { k with st := .ready, wait := none, readySince := s.t.clock }
      ((s.bank c b).wait = some (.queue q) → s.queueRoom c b q = true → exec (.queueRoom c b) s = .next (s.modBank c b ready))
      ∧ ∀ p ∈ [(Instr.waitUntilReached c b, Wait.until n, decide (n ≤ s.t.clock)), (.waitChainsRelease c b, .chains, s.chainsIdle c b),
          (.waitMovesRelease c b, .moves, s.movesIdle c b), (.waitSealsRelease c b, .seals, s.sealsIdle c b)],
        (s.bank c b).wait = some p.2.1 → p.2.2 = true →
        (((s.bank c b).loopLive = false ∨ (s.bank c b).pc.toNat ≠ lendEnd (s.bank c b).lend) →
          exec p.1 s = .next (s.modBank c b (fun k => ready { k with pc := k.pc + 4 })))
        ∧ ((s.bank c b).loopLive = true → (s.bank c b).pc.toNat = lendEnd (s.bank c b).lend →
          Completes p.1 s (fun t => (t.bank c b).st = .ready ∧ (t.bank c b).wait = none ∧ (t.bank c b).lcnt = (s.bank c b).lcnt - 1
            ∧ (t.bank c b).pc = (if (s.bank c b).lcnt = 1 then (s.bank c b).pc + 4 else BitVec.ofNat 32 (lendStart (s.bank c b).lend)))))
  ∧ (∀ (s : State) (c : CoreId) (b : BankId),
       let k := s.core c
       let above := fun x y : BankId => k.priority y < k.priority x ∨ (k.priority x = k.priority y ∧ (x = 0 ∨ (y ≠ 0 ∧
         ((k.bank x).readySince < (k.bank y).readySince ∨ ((k.bank x).readySince = (k.bank y).readySince ∧ x < y)))))
       k.able = true → k.tActive = false → k.entering = none → b ≠ bankT → (k.bank b).st = .ready →
       (∀ x, x ≠ bankT → x ≠ b → (k.bank x).st = .ready → above b x) →
       (k.running = none → Completes (.bankSwitch c) s (fun t => (t.core c).running = some b ∧ (t.bank c b).st = .running
         ∧ (t.bank c b).regs = (s.bank c b).regs ∧ (t.bank c b).pc = (s.bank c b).pc ∧ ∀ x, x ≠ b → (t.bank c x).st = (s.bank c x).st))
       ∧ (∀ r, k.running = some r → r ≠ b → (k.priority r < k.priority b ∨ (b = 0 ∧ r ≠ 0)) →
         Completes (.bankSwitch c) s (fun t => (t.core c).running = some b ∧ (t.bank c b).st = .running ∧ (t.bank c r).st = .ready
           ∧ (t.bank c r).readySince = s.t.clock ∧ (t.bank c r).regs = (s.bank c r).regs ∧ (t.bank c r).pc = (s.bank c r).pc)))

/-- ENTRY carries a begun fault through in a task bank: the frame at DEPTH gets the old TSW, the saved PC, vector, cause, ADDR, XPC,
INFO, flags and cycle; DEPTH rises by 1; the window advances; PC is the handler of the HDT entry, and MODE, KEY, MASK, FPM, DRM and
BRM come from it (09 R378, R382). TAKEOVER gives a begun entry to a pending event of a higher level, or to a machine check of its
bank (09 R371, R384). -/
def Obligations.ExceptionEntry : Prop :=
  ∀ (s : State) (c : CoreId) (b : BankId) (e : Entering),
    (s.core c).able = true → (s.core c).tActive = false → (s.core c).entering = some e → e.kind = .fault → e.bank = b → b ≠ bankT →
    tswMask (s.bank c b).tsw < 12 →
    let k := s.bank c b
    (∀ errs : Errs,
      let u := s.findErrors c errs [s.hdtAddr c e.vector, s.hdtAddr c e.vector + 16, k.tsbr.toNat]
      let h := u.hdt c e.vector
      let at_ := k.tsbr.toNat + 128 + 32 * u.depth c b
      u.memWf → e.atC7 = false → u.hdtFrameOk c e.vector = true → h.ok e.vector 12 = true → u.tsbOk c b = true → u.depth c b < 4 →
      k.tsbr.toNat % 256 = 0 → (u.hdtAddr c e.vector + 32 ≤ k.tsbr.toNat ∨ k.tsbr.toNat + 256 ≤ u.hdtAddr c e.vector) →
      tswWval k.tsw < 5 → (u.core c).mcheck = none → NoPoison u c k.tsbr.toNat 256 →
      Completes (.entry c false errs) s (fun t =>
        t.octets c at_ 32 = leBytes 8 k.tsw.toNat ++ leBytes 4 e.savedPc.toNat ++ leBytes 2 e.vector ++ leBytes 2 e.cause.toNat
          ++ leBytes 4 e.addr.toNat ++ leBytes 4 e.xpc.toNat ++ leBytes 2 e.info.toNat
          ++ [octet ((if k.charge then 1 else 0) + (if e.isPartial then 2 else 0) + (if e.takenOver then 4 else 0)), 0] ++ leBytes 4 e.spanCyc.toNat
        ∧ t.depth c b = u.depth c b + 1 ∧ (t.core c).entering = none ∧ (t.bank c b).pc = BitVec.ofNat 32 h.handler
        ∧ (t.bank c b).regs = k.advance.regs
        ∧ (∀ i < 64, (t.bank c b).tsw.getLsbD i = (if i < 46 ∨ i = 53 ∨ i = 54 then k.advance.tsw else h.tsw).getLsbD i)
        ∧ (t.bank c b).lastFault = (e.vector, e.cause.toNat)
        ∧ (∀ a, a ≠ k.tsbr.toNat → (a < at_ ∨ at_ + 32 ≤ a) → t.byte c a = u.byte c a)))
    ∧ (∀ (src : Fin 512) (p : Pending), src.val ≠ 4 → (s.core c).pend.find? (fun x => x.src == src.val && x.bank == b) = some p →
      ((s.core c).ev.get EvCopy.zero src.val).wake = false → tswMask k.tsw < sourceLevel (s.core c) src.val →
      12 < sourceLevel (s.core c) src.val →
      let f : Entering := { e with
        kind := .event, vector := 64 + src.val, cause := BitVec.ofNat 16 p.detail, addr := 0, xpc := 0, info := 0, isPartial := false
        takenOver := true }
      Completes (.takeover c src) s (fun t => (t.core c).entering = some f
        ∧ (e.atC7 = false → t = s.modCore c (fun q => { q with entering := some f }))))
    ∧ (∀ m : MCheckPend, (s.core c).mcheck = some m → m.bank = b →
      let f : Entering := { e with
        kind := .mcheck, vector := 68, cause := 4, addr := m.addr, xpc := 0, info := m.octets, isPartial := m.isPartial, takenOver := true }
      Completes (.takeover c 4) s (fun t => (t.core c).entering = some f
        ∧ (e.atC7 = false → t = s.modCore c (fun q => { q with entering := some f }))))

/-- A charged cycle of a job at CYCB 0 is its breach: BUDGET counts as taken from that cycle, and is then held for its bank with
cause 1; 4,096 cycles after a BUDGET was taken the bank is frozen and its job completes with BUDGET_EXCEEDED and the resource;
while P2 is entered an idle core stops (02 R72 to R74; 09 R404, R405; 17 R686). -/
def Obligations.OverrunsAndStops : Prop :=
  ∀ (s : State) (c : CoreId) (b : BankId),
    (∀ n, s.power.reasons ≠ 0 → s.power.since = some n → n < s.t.span →
      (∀ x ∈ s.chainList, x.2.st = .faulted ∨ (x.2.st = .queued ∧ x.2.entered = false)) →
      s.movRunning false = none → (s.core c).entryHolds = false →
      exec (.p2CoreStop c) s = .next (s.modCore c (fun k => { k with p2stopped := true })))
    ∧ ∀ j : JobRun, (s.bank c b).job = some j →
      (∀ n, b ≠ bankT → (s.bank c b).charge = true → (s.bank c b).cycb.toNat < n → (s.bank c b).budgetTaken = none →
        let k := (s.charge c b n).bank c b
        k.cycb = 0 ∧ k.budgetDue = true ∧ k.budgetTaken = some (s.t.clock, 1) ∧ k.regs = (s.bank c b).regs)
      ∧ ((s.bank c b).budgetDue = true → (s.bank c b).heldBudget.contains 1 = false →
        Completes (.budget c b) s (fun t => (t.bank c b).heldBudget = (s.bank c b).heldBudget ++ [1]
          ∧ (t.bank c b).budgetTaken = (s.bank c b).budgetTaken ∧ (t.bank c b).budgetDue = false ∧ (t.bank c b).regs = (s.bank c b).regs))
      ∧ (∀ t0 r, (s.bank c b).budgetTaken = some (t0, r) → t0 + 4096 ≤ s.t.clock → b ≠ 0 →
        (∀ x ∈ s.chainList, ¬ (x.2.core = c ∧ x.2.bank = b)) → (∀ m ∈ s.mover.cmds, ¬ (m.core = c ∧ m.bank = b)) →
        s.jobBusy j.job.id = false → s.host.discardBelow ≤ j.job.id →
        spanDecided s j.job.span = false → (∀ x ∈ s.host.ended, x.order ≠ j.job.id) →
        Completes (.budgetFreeze c b) s (fun t => (t.bank c b).st = .frozen ∧ (t.bank c b).job = none
          ∧ t.host.waiting = s.host.waiting ++ [jobCpl j 0x20 r (s.preparedBytes c b) (s.preparedWord c b)]))

/-! ### Engines -/

/-- The long-vector engine: a chain enters the queue at the next place, the first of the queue starts, and a run ends with the
entry freed, HBM as the run leaves it and its flags in FPSF, or held FAULTED with VFAULT in its bank, or STOPPED with BUDGET
cause 2 held where VEC_CYC is used up (10 R412, R417, R440, R441, R445). The mover: the oldest command of its queue enters and,
where it is first, is RUNNING; at its end, a host access not before the link is in L0, every octet is moved, STATE 3 and
DONE_BYTES are written back and the command leaves; a command that fails at an offset moves the octets before it, but for a
POISON granule that it would no longer cover whole, and gets STATE 4, its ERROR and DONE_BYTES rounded down to 65,536; errors
corrected in the reads are counted (03 R81; 12 R497, R500, R509 to R517). Stated of a command of no job that is alone. A run's
results in bay memory, of integer types: STORE of a stage of two streams, REDUCE and TALLY, every octet outside Z's range as it
was; and each integer, bitset and DEC stage by itself (11 R458, R462 to R464, R470 to R477). The model's choices: the accesses
at the run's end (log entry 35), STATE 2 at the head of the queue and the octets before the offset (log entry 39). -/
def Obligations.ChainsAndMoves : Prop :=
  (∀ (s : State) (e : Nat) (x : ChainEnt) (corr : Nat),
        SMap.wf none s.lve.chains = true → s.chainEnt e = some x →
        (∀ n : Fin 64, e = n.val → x.st = .queued → x.entered = false → (∀ y ∈ s.chainList, y.2.place < s.lve.nextPlace
            ∧ (y.2.entered = true ∨ y.2.st ≠ .queued ∨ x.place ≤ y.2.place) ∧ ¬ (y.2.st = .queued ∧ s.issuedBefore x y.2 = true)) →
          Completes (.chainEnqueue n) s (fun t => t.chainEnt e = some { x with entered := true, place := s.lve.nextPlace }
            ∧ t.lve.nextPlace = s.lve.nextPlace + 1 ∧ ∀ i ≠ e, t.chainEnt i = s.chainEnt i))
        ∧ (s.running = none → s.nextChain = some (e, x) → Completes .chainStart s (fun t =>
            t = (s.setChainEnt e (some { x with st := .running, start := x.pos, since := s.t.clock, fault := none })).putChainState
              { x with st := .running, start := x.pos, since := s.t.clock, fault := none } 2))
        ∧ (s.running = some (e, x) →
          (let r := runChain s x none none
           s.vecCovers x = true → r.fault = none → Completes (.chainDone corr) s (fun t => t.chainEnt e = none ∧ t.hbm = r.s.hbm
            ∧ (corr = 0 → ∀ c a, a ≠ x.addr.toNat + 69 → (a < x.addr.toNat + 88 ∨ x.addr.toNat + 96 ≤ a) → t.byte c a = r.s.byte c a)
            ∧ (t.bank x.core x.bank).fpsf = (r.s.bank x.core x.bank).fpsf ||| r.kept.flags.setWidth 32))
          ∧ (∀ i g f ecc, let r := runChain (s.chainEcc x ecc).1 x (s.chainEcc x ecc).2 none
              s.vecCovers x = true → r.fault = some (i, g, f) → Completes (.chainFaulted ecc corr) s (fun t =>
              ∃ y, t.chainEnt e = some y ∧ y.st = .faulted ∧ y.handle = x.handle ∧ y.fault = some ⟨g, f.cause, f.detail, i, f.addr.getD (freeAddr s)⟩
                ∧ ∃ v, (t.bank x.core x.bank).heldV = (r.s.bank x.core x.bank).heldV ++ [v] ∧ v.handle = x.handle
                  ∧ v.cause = f.cause + 256 * f.detail))
          ∧ (∀ n, s.vecLeft x = some n → n < (progOf x.desc).cost x.start → Completes (.chainStopped corr) s (fun t =>
              t.chainEnt e = none ∧ 2 ∈ (t.bank x.core x.bank).heldBudget))))
  ∧ (∀ (s : State) (x : MovCmd) (slot : Fin 8) (host : Octets) (corr : Nat),
        s.mover.cmds = [x] → x.slot = slot.val → x.job = none →
        let m := movOp x.cmd
        let gone := fun u : State => ({ u with mover := { u.mover with cmds := [] } } : State)
        let fails := fun (u : State) (moved : Octets) (off err : Nat) =>
          Host.Outcome.next (gone ((u.moveBytes x.core m moved (u.movedTo x off)).putMov x 4 err (off / 65536 * 65536)))
        (x.entered = false → exec (.moverEnqueue x.core x.bank slot) s = .next
          (({ s with mover := { s.mover with cmds := [{ x with entered := true, since := s.t.clock }] } }).putMov x 2 0 0))
        ∧ (x.entered = true →
          (s.moveStop x = none → (m.kind = 3 ∨ m.ss ≠ 4 ∨ host.length = m.len) →
            ((m.kind = 3 ∨ m.ss ≠ 4) ∧ m.ds ≠ 4 ∨ s.linkWaits = false) →
            exec (.moverDone x.core x.bank slot host corr) s
              = .next ((gone ((s.moveBytes x.core m host m.len).putMov x 3 0 m.len)).correctedN (corr * m.eccSource)))
          ∧ (let u := s.correctedN (corr * m.eccSource)
             (∀ off err, u.moveStop x = some (off, err) → (m.kind = 3 ∨ m.ss ≠ 4 ∨ off = 0) →
              exec (.moverFail x.core x.bank slot .state corr) s = fails u [] off err)
             ∧ (u.moveStop { x with cut := false } = none → host.length < m.len → ((m.kind ≠ 3 ∧ m.ss = 4) ∨ m.ds = 4) →
              exec (.moverFail x.core x.bank slot (.hostError host) corr) s = fails u host host.length 4))))
  ∧ (∀ (s : State) (x : ChainEnt) (t : Nat) (v w : Nat → Nat),
        let p := progOf x.desc
        let r := runChain s x none none
        let reads := fun (m : State) (base ty i : Nat) => loadAt m x.ctx false ((base + i * esize ty : Nat) : Int) ty
        let plain := fun (q : Stream) => q.form = 1 ∧ q.hbm = false
        let n := p.n
        let A := fun i => intVal t (v i)
        let kept := fun (len : Nat) => r.fault = none ∧ r.pos = n ∧ ∀ c a, (a < p.sz.base ∨ p.sz.base + len * esize t ≤ a) → r.s.byte c a = s.byte c a
        let leaves := fun (i : Nat) (z : Int) => ∃ u, reads r.s p.sz.base t i = .ok (.int u) ∧ intVal t u = z
        isInt t = true → plain p.sa → plain p.sz → p.sa.etype = t → p.sz.etype = t → x.pos = 0 → x.acc = [] → x.pfx = [] →
        (t = eBIN → ∀ q ∈ [p.sa.base, p.sb.base, p.sz.base], q % 16 = 0) → (∀ i < n, reads s p.sa.base t i = .ok (.int (v i))) →
        (p.zkind = 2 → p.narith = 0 → p.bEn = false → p.sz.zin = 1 → storeOk s x.ctx false (p.sz.base : Int) t = .ok p.sz.base →
          (∀ o ∈ [(1, fun a b : Int => a + b, (0 : Int)), (2, min, intVal t (if isSigned t then 2 ^ (ewidth t - 1) - 1 else 2 ^ ewidth t - 1)),
              (3, max, intVal t (if isSigned t then 2 ^ (ewidth t - 1) else 0))],
            let upTo := fun m => (List.range m).foldl (fun a i => o.2.1 a (A i)) o.2.2
            p.zop = o.1 → (∀ m ≤ n, fitsInt t (upTo m) = true) → kept 1 ∧ leaves 0 (upTo n))
          ∧ (∀ o ∈ [(4, fun a b : Nat => a &&& b, 2 ^ ewidth t - 1), (5, fun a b => a ||| b, 0), (6, fun a b => a ^^^ b, 0)],
            p.zop = o.1 → kept 1 ∧ reads r.s p.sz.base t 0 = .ok (.int ((List.range n).foldl (fun a i => o.2.1 a (v i)) o.2.2)))
          ∧ (p.zop = 1 → ∀ m < n, (∀ j ≤ m, fitsInt t ((List.range j).map A).sum = true) → fitsInt t ((List.range (m + 1)).map A).sum = false →
              r.fault = some (m, 6, ⟨5, 1, none⟩) ∧ r.pos = m))
        ∧ (∀ ty, p.bEn = true → plain p.sb → p.sb.etype = ty → (∀ i < n, reads s p.sb.base ty i = .ok (.int (w i))) →
          (∀ old : Nat → Nat, p.zkind = 3 → p.narith = 0 → p.zop = 1 → p.sz.zin = 0x21 → (ty = eBIN ∨ (0x10 ≤ ty ∧ ty ≤ 0x13)) → (∀ i < n, w i < p.sz.aux) →
            (∀ j < p.sz.aux, reads s p.sz.base t j = .ok (.int (old j)) ∧ storeOk s x.ctx false ((p.sz.base + j * esize t : Nat) : Int) t = .ok (p.sz.base + j * esize t)) →
            let total := fun m j => intVal t (old j) + (((List.range m).filter (fun i => w i == j)).map A).sum
            p.sz.aux ≤ 4096 → (∀ m ≤ n, ∀ j < p.sz.aux, fitsInt t (total m j) = true) → kept p.sz.aux ∧ ∀ j < p.sz.aux, leaves j (total n j))
          ∧ (p.zkind = 1 → p.sz.zin = 3 → ty = t →
            (∀ i < n, storeOk s x.ctx false ((p.sz.base + i * esize t : Nat) : Int) t = .ok (p.sz.base + i * esize t)) →
            (∀ q ∈ [p.sa.base, p.sb.base], q + n * esize t ≤ p.sz.base ∨ p.sz.base + n * esize t ≤ q) →
            let W := fun i => intVal t (w i)
            (∀ o ∈ [(0x10, fun a b : Int => a + b), (0x11, fun a b => a - b), (0x12, fun a b => a * b), (0x14, min), (0x15, max)],
              p.stages = [⟨o.1, 1, 2, 0⟩] → p.narith = 1 → kept n ∧ ∀ i < n, leaves i (intVal t (wrapInt t (o.2 (A i) (W i)))))
            ∧ ∀ o ∈ [(0x18, fun a b : Nat => a &&& b), (0x19, fun a b => a ||| b), (0x1A, fun a b => a ^^^ b)],
              p.stages = [⟨o.1, 1, 2, 0⟩] → p.narith = 1 → kept n ∧ ∀ i < n, reads r.s p.sz.base t i = .ok (.int (o.2 (v i) (w i))))))
  ∧ (∀ (t drm brm ktag m n opt : Nat) (k a b : Payload),
        let int := fun (op rt u w : Nat) => stageApply op opt t rt drm brm (.int u) (.int w) ktag k
        let x := intVal t m
        let y := intVal t n
        (isInt t = true → m < 2 ^ ewidth t → n < 2 ^ ewidth t →
          (∀ o ∈ [(0x10, x + y), (0x11, x - y), (0x12, x * y)],
            (opt < 128 → ∃ u, int o.1 t m n = .ok (.int u, 0) ∧ (2 ^ ewidth t : Int) ∣ intVal t u - o.2)
            ∧ (128 ≤ opt → (fitsInt t o.2 = true → ∃ u, int o.1 t m n = .ok (.int u, 0) ∧ intVal t u = o.2)
              ∧ (fitsInt t o.2 = false → int o.1 t m n = .error 6)))
          ∧ (∀ o ∈ [(0x14, min x y), (0x15, max x y)], ∃ u, int o.1 t m n = .ok (.int u, 0) ∧ intVal t u = o.2)
          ∧ (opt < ewidth t → (∃ u, int 0x1C t m n = .ok (.int u, 0) ∧ u = m * 2 ^ opt % 2 ^ ewidth t)
            ∧ ∃ u, int 0x1D t m n = .ok (.int u, 0) ∧ intVal t u = x / 2 ^ opt)
          ∧ int 0x1E eU8 m n = .ok (.int ((List.range (ewidth t)).countP (fun i => m.testBit i)), 0)
          ∧ (isLane t = true → let rt := if esize t = 8 then eBIN else t + 1
            (fitsInt rt (x * y) = true → ∃ u, int 0x13 rt m n = .ok (.int u, 0) ∧ intVal rt u = x * y)
            ∧ (fitsInt rt (x * y) = false → t = 0x13 ∧ int 0x13 rt m n = .error 1))
          ∧ ∀ o ∈ [(0, decide (x = y)), (1, decide (x ≠ y)), (2, decide (x < y)), (3, decide (y ≤ x)), (4, decide (y < x)), (5, decide (x ≤ y))],
            opt = o.1 → int 0x90 eU8 m n = .ok (.int (if o.2 then 1 else 0), 0))
        ∧ (isSet t = true → m < 2 ^ ewidth t → n < 2 ^ ewidth t →
            int 0x20 eU8 m n = .ok (.int ((List.range (ewidth t)).countP (fun i => m.testBit i && n.testBit i)), 0))
        ∧ (malformed ⟨tDEC, a⟩ = false → malformed ⟨tDEC, b⟩ = false →
          let X := decOf a
          let Y := decOf b
          let z := max X.scale Y.scale
          let dec := fun op => stageApply op opt eDEC eDEC drm brm (.val ⟨tDEC, a⟩) (.val ⟨tDEC, b⟩) ktag k
          (∀ o ∈ [(0x40, X.v * 10 ^ (z - X.scale) + Y.v * 10 ^ (z - Y.scale), z), (0x41, X.v * 10 ^ (z - X.scale) - Y.v * 10 ^ (z - Y.scale), z),
              (0x42, X.v * Y.v, X.scale + Y.scale)],
            (o.2.1.natAbs < 10 ^ 33 → o.2.2 ≤ 32 → dec o.1 = .ok (.val (decVal ⟨o.2.1, o.2.2⟩), 0))
            ∧ (10 ^ 33 ≤ o.2.1.natAbs → dec o.1 = .error 1) ∧ (o.2.1.natAbs < 10 ^ 33 → 32 < o.2.2 → dec o.1 = .error 2))
          ∧ dec 0x46 = .ok (.val (decVal ⟨-X.v, X.scale⟩), 0) ∧ dec 0x47 = .ok (.val (decVal ⟨X.v.natAbs, X.scale⟩), 0)
          ∧ (malformed ⟨tDEC, k⟩ = false → let U := decOf k
            let big := max X.scale (U.scale + Y.scale)
            let pool := X.v * 10 ^ (big - X.scale)
            let share := Y.v * U.v * 10 ^ (big - U.scale - Y.scale)
            let q := Int.tdiv pool share
            (Y.v = 0 → dec 0x48 = if opt / 2 % 2 = 0 then .error 4 else .ok (.val (if opt % 2 = 1 then decVal X else decVal ⟨0, U.scale⟩), 0))
            ∧ (Y.v ≠ 0 → 0 < U.v → (q * U.v).natAbs < 10 ^ 33 → (pool - q * share).natAbs < 10 ^ 33 → big ≤ 32 →
              dec 0x48 = .ok (.val (if opt % 2 = 1 then decVal ⟨pool - q * share, big⟩ else decVal ⟨q * U.v, U.scale⟩), 0)))))

/-! ### Spans and steering -/

/-- The phases of a span. SILL_START opens a span: its number is one more than the last, the settings and the span length that
waited take effect, the sums of admission are 0, frozen banks are FREE; after a POWER_SET to P3 has been completed, P3 is entered
instead (02 R30, R36 to R38, R54, R59; 09 R401; 17 R689). POST_START begins the post 15,625 cycles per 250 µs on, PLATE_START the
plate at 453,125, where the guard takes the whole offset in P2, at most 32 cycles per 250 µs otherwise, nothing in FREE, and in
HOLDOVER the last correction again (02 R30, R41, R44, R46). At POST_END no job is left in a bank or a queue (02 R72; 09 R410).
SILL_END counts a refusal on every ring whose head descriptor waits: eight in a row promote the ring, eight more age it; what was
read is dropped, a flush ends with the number flushed, and a doorbell read that has not returned is late (02 R64, R65, R67; 03
R118). The model's choices: a sill with DB_BASE 0 counts refusals too (log entry 56), P3 is entered at a sill (log entry 70), the
whole offset is corrected in P2 (log entry 75), and HOLDOVER repeats the last correction applied (log entry 99). -/
def Obligations.SpanPhases : Prop :=
  (∀ s : State, s.mayOpen = true →
      ((∀ o n, s.power.p3At = some (o, some n) → s.t.span < n) → Completes .sillStart s (fun t =>
        t.t.phase = .sill ∧ t.t.span = max s.t.span s.t.lastStarted + 1 ∧ t.t.lastStarted = t.t.span ∧ t.t.cyc = 0 ∧ t.t.run = true
          ∧ t.t.k = s.t.lenNext.getD s.t.k ∧ t.t.lenNext = none ∧ t.adm.cfg = s.adm.cfgNext
          ∧ t.adm.vAdm = 0 ∧ t.adm.movAdm = 0 ∧ t.adm.scrAdm = 0 ∧ t.adm.r0Mov = 0 ∧ t.adm.r0Scr = 0 ∧ t.adm.r0Decided = 0
          ∧ (∀ c b, (s.bank c b).st = .frozen → (t.bank c b).st = .free)))
      ∧ (∀ o n, s.power.p3At = some (o, some n) → n ≤ s.t.span → Completes .sillStart s (fun t =>
          t.power.st = .p3 ∧ t.t.run = false ∧ t.t.phase = .none)))
  ∧ (∀ s : State, s.t.phase = .sill → Completes .postStart s (fun t =>
      t.t = { s.t with phase := .post, cyc := s.t.k * 15625 }))
  ∧ (∀ s : State, s.t.phase = .post →
      Completes .postEnd s (fun t => t.t.phase = .post ∧ t.t.span = s.t.span ∧ t.t.cyc = s.t.cyc
        ∧ (∀ c, (t.core c).jobQueue = [] ∧ ∀ b ∈ taskBanks, (t.bank c b).job = none))
      ∧ Completes .plateStart s (fun t =>
          let within := fun x : Int => max (-(32 * s.t.k : Int)) (min (32 * s.t.k) x)
          let c : Int := if s.t.syncSt = .free then 0 else if s.t.syncSt = .holdover then within s.t.corr
            else if s.power.st = .p2 then -s.t.offset else within (-s.t.offset)
          t.t = { s.t with
            phase := .plate, cyc := s.t.k * 453125, corr := c
            offset := if s.t.syncSt = .holdover then s.t.offset else s.t.offset + c }))
  ∧ (∀ s : State, s.t.phase = .sill → SMap.wf Ring.absent s.host.rings = true → Completes .sillEnd s (fun t =>
      t.t = s.t ∧ t.host.dbDue = false
        ∧ (∀ r, r ≠ 0 →
            let v := s.ring r
            let refused := v.st = .active ∧ v.fresh = false ∧ v.tail ≠ v.head
            let eighth := refused ∧ v.refusals + 1 ≥ 8
            t.ring r = { v with
              fetched := [], promoted := (t.ring r).promoted, aged := (t.ring r).aged
              refusals := if refused ∧ ¬ (v.promoted = false ∧ eighth) then v.refusals + 1 else 0 }
            ∧ ((t.ring r).promoted = true ↔ v.promoted = true ∨ eighth)
            ∧ ((t.ring r).aged.isSome = true ↔ v.aged.isSome = true ∨ (v.promoted = true ∧ eighth))
            ∧ (v.aged.isSome = true → (t.ring r).aged = v.aged))
        ∧ t.host.flush = none
        ∧ (∀ f : Flush, s.host.flush = some f → f.cpl.journalled = true → s.host.discardBelow ≤ f.cpl.order → spanDecided s f.cpl.span = false →
            t.host.waiting = s.host.waiting ++ [{ f.cpl with detail := f.count, after := [(f.ring, (s.ring f.ring).head, (s.ring f.ring).gen)] }])
        ∧ t.host.lateDb = (if s.host.dbDue = true ∧ s.host.dbBack = false then min (s.host.lateDb + 1) 65535 else s.host.lateDb)))

/-- Steering. A TIMEIN pulse, sampled 14 ns or 28 cycles after it was at the land (20 R786), measures the offset of the latest
boundary; one of 25 ns, 50 cycles, or less three times in a row makes LOCKED, any other ACQUIRE (02 R39, R40, R43); before the first
span it lets the first sill open (19 R743). The loss of TIMEIN, and 16 spans without a SYNC, make HOLDOVER (02 R44; 14 R586). A SYNC
measures what the own boundary lacks of the master's, (arrival − start of SPAN) − T − d, which State holds with the other sign;
DELAY_REQ is answered by a DELAY_RESP in the same step, so that its T, the cycles between the two, is 0 (log entry 48); the first
SYNC after a boot that waits for it sets the span number, where it is greater than the last one started (02 R38; 14 R586; 19 R743);
a DELAY_RESP gives the link's delay, half the round trip less T plus ASYM of the port, 1 ns being 2 cycles, and counts for that port
alone (14 R583 to R585). The model's choices: the first pulse begins the grid, the sign of the offset and its anchor, and the clock
as the sampling point's (log entry 75). -/
def Obligations.Steering : Prop :=
  (∀ s : State, s.onTimein = true →
      (s.svc.stage ≠ .waitTimein → s.t.run = true → Completes .timeinPulse s (fun t =>
        t.t.offset = s.pulseOffset ∧ t.t.lastPulse = some (s.t.clock - 28) ∧ t.t.span = s.t.span ∧ t.t.k = s.t.k ∧ t.t.cyc = s.t.cyc
          ∧ (s.pulseOffset.natAbs > 50 → t.t.inLock = 0 ∧ t.t.syncSt = .acquire)
          ∧ (s.pulseOffset.natAbs ≤ 50 → t.t.inLock = min (s.t.inLock + 1) 3
              ∧ t.t.syncSt = if s.t.inLock ≥ 2 then .locked else .acquire)))
      ∧ (s.svc.stage = .waitTimein → Completes .timeinPulse s (fun t =>
          t.svc.stage = .running ∧ t.t.anchor = some (s.t.clock - 28, 0) ∧ t.t.syncSt = .acquire))
      ∧ (s.t.lastPulse ≠ none → s.syncSource = 1 → Completes .timeinLoss s (fun t =>
          t.t = { s.t with lastPulse := none, inLock := 0, syncSt := .holdover })))
  ∧ (∀ s : State, s.onChain = true → s.t.run = true → s.t.lastSync + 16 ≤ s.t.span → Completes .syncTimeout s (fun t =>
      t.t = { s.t with inLock := 0, syncSt := .holdover }))
  ∧ (∀ (s u : State) (f : RxFrame) (b : Octets), TakenIn 4 f s u b → b.length = 20 →
      (fieldAt b 0 1 = 1 → u.onChain = true → u.upstream = some f.port → u.svc.stage ≠ .waitSync → ∀ d, u.linkDelay f.port = some d →
        Completes (.sync f) s (fun t => t.t.lastSync = max s.t.span 1 ∧ t.chain.depth = fieldAt b 2 1 + 1
          ∧ t.t.offset = -(((s.t.clock : Int) - (s.t.startClock + ((fieldAt b 4 6 : Int) - s.t.span) * (s.t.k * 500000 : Nat))) - fieldAt b 12 8 - d)))
      ∧ (fieldAt b 0 1 = 1 → u.onChain = true → u.upstream = some f.port → u.svc.stage = .waitSync → fieldAt b 4 6 > s.t.lastStarted →
        Completes (.sync f) s (fun t => t.t.span = fieldAt b 4 6 ∧ t.t.lastSync = fieldAt b 4 6 ∧ t.svc.stage = .running))
      ∧ (fieldAt b 0 1 = 2 → Completes (.delayReq f) s (fun t =>
          t = u.sendNear f.port 4 (syncBody u 3 0 0)))
      ∧ (fieldAt b 0 1 = 3 → u.upstream = some f.port → ∀ at_, u.chain.reqSent = some (f.port.val, at_) →
        let half := ((s.t.clock : Int) - (at_ : Int) - (fieldAt b 12 8 : Int)) / 2
        Completes (.delayResp f) s (fun t => t = { u with chain := { u.chain with reqSent := none, upDelay := some (f.port.val, half) } }
          ∧ t.linkDelay f.port = some (half + 2 * u.chain.cfg.asym.getD f.port.val 0)
          ∧ ∀ q, q ≠ f.port → t.linkDelay q = none)))

/-! ### The host interface and admission -/

/-- The reads of a sill. The doorbell array is 4,096 entries of 8 octets, ring r's at offset 8r: SUB_TAIL and CPL_HEAD (03 R88). Its
return gives each ring that is ACTIVE or STOPPED its two counts, where they pass the checks; a ring whose entry fails one is
FAULTED; an ABSENT or FAULTED ring is left alone (03 R90, R91). A descriptor fetch adds the descriptors read, and one that ends in
error faults the ring, also when it returns after the sill or in a later one (02 R66; 03 R82, R93); an array read that ends in error
raises the notice HOST_READ_ERROR, and one of an earlier sill leaves this sill's read outstanding (03 R82). A device command's block
is handed to the oldest command that waits for one; while Bus Master Enable is clear or the link is down the read has failed, and
while the link is out of L0 it waits (03 R81, R82). What a read does that the data link layer was down for is the model's choice
(log entry 108). -/
def Obligations.HostReads : Prop :=
  (∀ (s : State) (a : Octets) (r : Nat), s.deciding = true → s.host.dbReq = true → s.host.dbLate = 0 → s.host.bme = true → s.linkWaits = false →
      a.length = 32768 → SMap.wf Ring.absent s.host.rings = true → Completes (.doorbellArrayReturn (some a)) s (fun t =>
        let v := s.ring r
        let subTail : W32 := BitVec.ofNat 32 (fieldAt a (8 * r) 4)
        let cplHead : W32 := BitVec.ofNat 32 (fieldAt a (8 * r + 4) 4)
        let okTail := (subTail - v.head).toNat ≤ 2 ^ v.ctx.subOrder ∧ (subTail - v.tail).toNat ≤ 2 ^ v.ctx.subOrder
        let okHead := (v.cplWritten - cplHead).toNat ≤ 2 ^ v.ctx.cplOrder ∧ (cplHead - v.cplHead).toNat ≤ 2 ^ v.ctx.cplOrder
        let live := (v.st = .active ∨ v.st = .stopped) ∧ v.fresh = false
        t.host.dbBack = true ∧ t.host.dbReq = false
          ∧ (live → okTail → okHead → t.ring r = { v with tail := subTail, cplHead := cplHead })
          ∧ (live → ¬ (okTail ∧ okHead) → t.ring r = { v with st := .faulted, fetched := [] })
          ∧ (¬ live → t.ring r = v)))
  ∧ (∀ s : State, (s.host.dbReq = true ∨ 0 < s.host.dbLate) → (s.host.dllUp = true → s.host.linkL0 = true) →
      Completes (.doorbellArrayReturn none) s (fun t =>
        t.host.dbReq = (s.host.dbReq && decide (0 < s.host.dbLate)) ∧ t.host.dbLate = s.host.dbLate - 1
          ∧ t.host.dbBack = s.host.dbBack ∧ t.host.notice.getLsbD 1 = true ∧ t.host.rings = s.host.rings))
  ∧ (∀ (s : State) (r : RingId), (s.host.dllUp = true → s.host.linkL0 = true) →
      ((s.ring r.val).st = .active ∨ (s.ring r.val).st = .stopped) →
      SMap.wf Ring.absent s.host.rings = true → (s.ring r.val).fetched.length < (s.ring r.val).waiting →
      (∀ l : List Octets, s.host.dbBack = true → (s.ring r.val).fresh = false → s.deciding = true → s.host.bme = true → l.length ≤ 16 →
        (∀ d ∈ l, d.length = 64) →
        Completes (.descriptorFetchReturn r (some l)) s (fun t =>
          t.ring r.val = { s.ring r.val with fetched := ((s.ring r.val).fetched ++ l).take (s.ring r.val).waiting }
            ∧ ∀ q, q ≠ r.val → t.ring q = s.ring q))
      ∧ Completes (.descriptorFetchReturn r none) s (fun t => t.ring r.val = { s.ring r.val with st := .faulted, fetched := [] }
          ∧ (s.host.ringFault.valid = false → t.host.ringFault = ⟨true, 0, 3, r.val⟩) ∧ ∀ q, q ≠ r.val → t.ring q = s.ring q))
  ∧ (∀ (s : State) (data : Option Octets) (before after : List DevCmd) (d : DevCmd),
      s.adm.devCmds = before ++ d :: after → (∀ x ∈ before, x.waits = false) → d.waits = true → s.linkWaits = false →
      exec (.commandBlockReturn data) s = .next { s with adm := { s.adm with
        devCmds := before ++ { d with block := some (if s.host.bme = true ∧ s.host.dllUp = true then data else none) } :: after } })

/-- Decisions. A descriptor with a field at fault is consumed and completes with BAD_FIELD and its offset; one of a data ring is
refused, and stands, while data admission is paused (02 R60, R62, R68 to R70; 03 R96). A device command of ring 0 is consumed,
journalled, charged one scribe record and taken up; a job whose certificate and capacities allow it joins the queue of the core
chosen, and its class's budgets are added to the sums of the sill (02 R55, R68; 14 R549). The oldest command the supervisor posted
is decided by POSTED_COMMAND: a STOP_RING leaves its ring STOPPED, with FLUSH also before its descriptors are read, a STOP_GROUP the
ACTIVE rings of its group (03 R107, R118, R119). While a STOP_RING flushes, each decision consumes one descriptor of its ring, which
completes with RING_STOPPED, or FROZEN, and the next is one more flushed (03 R117, R118). What makes a posted command wait, and that
of a flush the other decisions do, are the model's choices (log entry 97). -/
def Obligations.Decisions : Prop :=
  (∀ (s : State) (r : Nat) (p : Option Nat) (d : Octets) (l : List Octets),
      s.deciding = true → s.host.dbBack = true → s.host.flush = none → s.postedReady = false → s.ringCmdWaits = false → s.nextRing = some (r, p) →
      (s.ring r).fetched = d :: l → SMap.wf Ring.absent s.host.rings = true → s.host.discardBelow ≤ s.adm.order →
      (r ≠ 0 → s.adm.paused ≠ 0 → Completes .decide s (fun t =>
        t.ring r = { s.ring r with refused := true } ∧ t.host.queue = s.host.queue ∧ t.adm.order = s.adm.order))
      ∧ ((r ≠ 0 → s.adm.paused = 0) → (r = 0 → s.quiesce = false) → s.freeCpl r ≠ 0 →
          (∀ off, s.badField d = some off → Completes .decide s (fun t =>
            t.host.queue = s.host.queue ++ [⟨s.adm.order, r, (s.ring r).head, BitVec.ofNat 32 (fieldAt d 4 4), s.t.span, 0x10, off, 0, 0, 0,
                (d.getD 2 0).getLsbD 0, false, 0, [], false⟩]
              ∧ (t.ring r).head = (s.ring r).head + 1 ∧ t.adm.devCmds = s.adm.devCmds))
          ∧ (s.badField d = none → descClass d < 64 → assigned (descClass d) = true → r = 0 → s.scrLeft true ≥ 1 →
              Completes .decide s (fun t =>
                t.adm.devCmds = s.adm.devCmds ++ [⟨s.adm.order, descClass d, (s.ring 0).head, s.t.span, d, none⟩]
                  ∧ (t.ring 0).head = (s.ring 0).head + 1 ∧ t.adm.order = s.adm.order + 1 ∧ t.adm.scrAdm = s.adm.scrAdm + 1
                  ∧ t.scribe.leaves.length = s.scribe.leaves.length + 1))
          ∧ (∀ (k : Cert) (c : CoreId), s.badField d = none → descClass d ≥ 64 → s.adm.certs.get none (descClass d) = some k →
              s.unfit k = false → (if r = 0 then k.ctrl else k.data) = true → s.place (r == 0) k = some c →
              Completes .decide s (fun t =>
                (t.core c).jobQueue = (s.core c).jobQueue ++ [⟨s.adm.order, r, (s.ring r).head, s.t.span, d, k⟩]
                  ∧ (∀ c', c' ≠ c → t.core c' = s.core c') ∧ (t.ring r).head = (s.ring r).head + 1
                  ∧ t.adm.vAdm = s.adm.vAdm + k.vecCyc ∧ t.adm.movAdm = s.adm.movAdm + k.movBytes
                  ∧ t.adm.scrAdm = s.adm.scrAdm + k.scrRec ∧ t.host.queue = s.host.queue))))
  ∧ (∀ (s : State) (p : PostedCmd) (l : List PostedCmd), s.deciding = true → s.host.dbBack = true → s.postedReady = true → s.host.flush = none →
      s.host.postQueue = p :: l → SMap.wf Ring.absent s.host.rings = true →
      let decided := fun t : State => t.host.postQueue = l ∧ t.host.posted = s.host.posted + 1 ∧ t.adm.order = s.adm.order + 1
      (p.group = false → p.flush = false → (s.ring p.target).st = .active → Completes .postedCommand s (fun t =>
        decided t ∧ t.ring p.target = { s.ring p.target with st := .stopped } ∧ ∀ q, q ≠ p.target → t.ring q = s.ring q))
      ∧ (p.group = true → Completes .postedCommand s (fun t =>
        decided t ∧ ∀ r, t.ring r = if r ≠ 0 ∧ (s.ring r).st = .active ∧ (s.ring r).ctx.group = p.target
          then { s.ring r with st := .stopped } else s.ring r))
      ∧ (p.group = false → p.flush = true → p.target ≠ 0 → ((s.ring p.target).st = .active ∨ (s.ring p.target).st = .stopped) → Completes .postedCommand s (fun t =>
        decided t ∧ t.ring p.target = { s.ring p.target with st := .stopped } ∧ (∀ q, q ≠ p.target → t.ring q = s.ring q)
          ∧ t.host.flush.isSome = (!(s.ring p.target).fresh && (s.ring p.target).waiting != 0 && s.freeCpl p.target != 0
              && (!(s.ring p.target).fetched.isEmpty || (s.host.bme && s.host.dllUp))))))
  ∧ (∀ (s : State) (f : Flush) (d : Octets) (l : List Octets), s.deciding = true → s.host.dbBack = true → s.host.flush = some f →
      (s.ring f.ring).fetched = d :: l → SMap.wf Ring.absent s.host.rings = true → s.host.discardBelow ≤ s.adm.order →
      Completes .decide s (fun t =>
        (t.ring f.ring).head = (s.ring f.ring).head + 1 ∧ (t.ring f.ring).fetched = l ∧ t.adm.order = s.adm.order + 1
          ∧ (∀ q, q ≠ f.ring → t.ring q = s.ring q) ∧ t.adm.devCmds = s.adm.devCmds
          ∧ (∃ more, t.host.queue = s.host.queue ++ ⟨s.adm.order, f.ring, (s.ring f.ring).head, BitVec.ofNat 32 (fieldAt d 4 4), s.t.span,
              if s.reg.frozen = true then 0x30 else 0x31, 0, 0, 0, 0, (d.getD 2 0).getLsbD 0, false, 0, [], false⟩ :: more)
          ∧ t.host.flush = (if (s.ring f.ring).st = .stopped ∧ (s.ring f.ring).fresh = false ∧ (t.ring f.ring).waiting ≠ 0
              ∧ t.freeCpl f.ring ≠ 0 ∧ (l ≠ [] ∨ (s.host.bme = true ∧ s.host.dllUp = true)) then some { f with count := f.count + 1 } else none)))

/-- Completions and interrupts. The completion at the front whose order allows it is written as one entry of 32 octets at
CPL_WRITTEN of its ring, and CPL_WRITTEN goes on; U(r) counts it, and returns to 0 with a message where MOD_COUNT or the descriptor
asks for one, or MOD_TIME has passed (03 R99, R100, R123). A message goes out where MSI-X and Bus Master Enable are set and neither
the function nor the vector is masked, and otherwise leaves the vector's pending bit set, until the bit is set or the vector
unmasked (03 R81, R124); while the link is out of L0 the message waits in it, and goes out in its order when the link is back in L0
(03 R81). Completions that were queued while Bus Master Enable was clear count as late (03 R81). The bit cleared, and a data link
layer that goes down, cut off the host accesses of the mover commands that run; the latter fails the block reads that are
outstanding (03 R81, R82). The host link changes nothing while its port is unpowered (20 R789). The model's choices: MSI-X Enable
and Function Mask change at reset alone (log entry 9), and what the link sends after Bus Master Enable was cleared while it was out
of L0 (log entry 108). -/
def Obligations.CompletionsAndInterrupts : Prop :=
  (∀ (s : State) (c : Cpl) (l : List Cpl), s.linkReady = true → s.host.queue = c :: l → s.afterMet c = true →
      SMap.wf Ring.absent s.host.rings = true → Completes .completionWrite s (fun t =>
        let v := s.ring c.ring
        t.host.queue = l ∧ (t.ring c.ring).cplWritten = v.cplWritten + 1
          ∧ (t.ring c.ring).u = (if v.u + 1 ≥ v.ctx.modCount ∨ c.irq = true then 0 else v.u + 1)
          ∧ (∀ q, q ≠ c.ring → t.ring q = s.ring q)
          ∧ ∃ more, t.out = s.out ++ .hostWrite (v.ctx.cplBase.toNat + 32 * (v.cplWritten.toNat % 2 ^ v.ctx.cplOrder))
              (cplOctets c v.cplWritten v.ctx.cplOrder) :: more))
  ∧ (∀ (c : Cpl) (n : W32) (order : Nat), (cplOctets c n order).length = 32
      ∧ (cplOctets c n order).getD 31 0 = (if n.toNat / 2 ^ order % 2 = 1 then 0 else 1))
  ∧ (∀ (s : State) (r : RingId), SMap.wf Ring.absent s.host.rings = true → SMap.wf MsixEntry.zero s.host.msix = true →
      (s.ring r.val).u > 0 → s.t.clock ≥ (s.ring r.val).t0 + 2000 * (s.ring r.val).ctx.modTime → Completes (.modTimeExpiry r) s (fun t =>
        let vec := (s.ring r.val).ctx.msixVec
        let e := s.host.msix.get MsixEntry.zero vec
        let sends := fun e : MsixEntry => s.host.msixOn = true ∧ s.host.bme = true ∧ s.host.msixMask = false ∧ e.masked = false
        let inL0 := s.host.linkL0 && s.host.dllUp
        t.ring r.val = { s.ring r.val with u := 0 }
          ∧ (sends e → t.host.msix = s.host.msix
              ∧ t.out = s.out ++ (if inL0 then [.msix vec e.addr e.data] else [])
              ∧ t.host.linkq = s.host.linkq ++ (if inL0 then [] else [.msix vec e.addr e.data]))
          ∧ (¬ sends e → t.out = s.out ∧ t.host.linkq = s.host.linkq ∧ t.host.msix.get MsixEntry.zero vec = { e with pending := true })))
  ∧ (∀ (s : State) (v : Fin 2048), SMap.wf MsixEntry.zero s.host.msix = true → Completes (.msixUnmask v) s (fun t =>
      let e := s.host.msix.get MsixEntry.zero v.val
      let inL0 := s.host.linkL0 && s.host.dllUp
      let may := s.host.msixOn && s.host.bme && !s.host.msixMask
      let sent := if e.pending && may then [.msix v.val e.addr e.data] else []
      t.host.msix.get MsixEntry.zero v.val = { e with masked := false, pending := e.pending && !may }
        ∧ t.out = s.out ++ (if inL0 then sent else []) ∧ t.host.linkq = s.host.linkq ++ (if inL0 then [] else sent)))
  ∧ (∀ s : State, SMap.wf MsixEntry.zero s.host.msix = true → Completes .busMasterEnable s (fun t =>
      t.host.bme = true ∧ (s.host.bme = false → ∀ c ∈ s.host.queue, t.cplLate c = true) ∧ ∀ v, let e := s.host.msix.get MsixEntry.zero v
        if s.host.msixOn = true ∧ s.host.msixMask = false ∧ e.pending = true ∧ e.masked = false then
          t.host.msix.get MsixEntry.zero v = { e with pending := false }
            ∧ .msix v e.addr e.data ∈ (if s.host.linkL0 && s.host.dllUp then t.out else t.host.linkq)
        else t.host.msix.get MsixEntry.zero v = e))
  ∧ (∀ s : State, s.host.flush = none →
      exec .busMasterEnableClear s = .next ({ s with host := { s.host with bme := false } }).cutMoves)
  ∧ (∀ (s : State) (l0 : Bool), s.hostPort = true → s.host.flush = none →
      (s.host.bme = true → exec (.hostLinkChange l0 true) s = .next { s with
          out := s.out ++ (if l0 then s.host.linkq else [])
          host := { s.host with linkL0 := l0, dllUp := true, linkq := if l0 then [] else s.host.linkq } })
      ∧ Completes (.hostLinkChange l0 false) s (fun t => t.host = { s.host with linkL0 := l0, dllUp := false }
          ∧ t.mover = s.cutMoves.mover ∧ (∀ d ∈ t.adm.devCmds, d.waits = false) ∧ t.adm.devCmds.length = s.adm.devCmds.length))
  ∧ (∀ (s : State) (service : Bool) (x : MovCmd), s.mover.running service = some x →
      s.cutMoves.mover.running service = some { x with cut := true })
  ∧ (∀ (s : State) (l0 dll : Bool), s.hostPort = false → exec (.hostLinkChange l0 dll) s = .next s)

/-- The ring commands of ring 0. CREATE_RING, START_RING, RESIZE_RING, DELETE_RING, SET_QUOTA and SET_MODERATION change the ring
they name as the table of states allows, and no other; in another state they end with BAD_RING_STATE and the ring's state (03 R87,
R104, R107, R115, R116). STOP_RING and STOP_GROUP leave their rings STOPPED, START_GROUP makes them ACTIVE, with the number of rings
changed in DETAIL; the completion of a stop waits for the earlier ones of its rings (03 R107, R111, R112). SET_MODERATION that lets
the entries not yet signalled reach MOD_COUNT signals them (03 R123). STOP_RING with MODE FLUSH leaves its ring STOPPED at once and
begins a flush, which the decisions after it carry on; where there is nothing to flush it ends with DETAIL 0 (03 R117, R118). NOP
does nothing. The model's choices (log entry 97): a group command that changes no ring is DONE with DETAIL 0, a ring made anew keeps
its unsignalled entries, and one flush waits for another. -/
def Obligations.RingCommands : Prop :=
  (∀ (s : State) (d : DevCmd), s.devCmd 0 = some d → CarriedOut .nopCommand s d (s.dropCmd d) .done)
  ∧ (let absent : State → Nat → Prop := fun s r => (s.ring r).st = .absent
     let toSignal : DevCmd → Ring → Nat := fun d v => if fieldAt d.desc 40 2 ≤ v.u then 0 else v.u
     ChangesRing .createRing 1 absent
        (fun d v => { Ring.absent with st := .active, ctx := ctxOf d.desc, gen := v.gen + 1, fresh := true, u := toSignal d v, t0 := v.t0 })
      ∧ RefusedByRing .createRing 1 absent)
  ∧ (let stopped : State → Nat → Prop := fun s r => (s.ring r).st = .stopped
     ChangesRing .startRing 2 stopped (fun _ v => { v with st := .active, fresh := true }) ∧ RefusedByRing .startRing 2 stopped)
  ∧ (let idle : State → Nat → Prop := fun s r => ((s.ring r).st = .stopped ∨ (s.ring r).st = .faulted) ∧ s.quiet r = true
     let toSignal : DevCmd → Ring → Nat := fun d v => if fieldAt d.desc 40 2 ≤ v.u then 0 else v.u
     ChangesRing .resizeRing 4 idle
        (fun d v => { Ring.absent with st := .stopped, ctx := ctxOf d.desc, gen := v.gen + 1, u := toSignal d v, t0 := v.t0 })
      ∧ RefusedByRing .resizeRing 4 idle
      ∧ ChangesRing .deleteRing 5 idle (fun _ v => { Ring.absent with gen := v.gen + 1, ctx := v.ctx, u := v.u, t0 := v.t0 }) ∧ RefusedByRing .deleteRing 5 idle)
  ∧ (let there : State → Nat → Prop := fun s r => (s.ring r).st ≠ .absent
     ChangesRing .setQuota 6 there (fun d v => { v with ctx := { v.ctx with
          pri := fieldAt d.desc 34 1, group := fieldAt d.desc 35 1, quota := fieldAt d.desc 36 2 } })
      ∧ RefusedByRing .setQuota 6 there
      ∧ ChangesRing .setModeration 7 there (fun d v => { v with u := if fieldAt d.desc 40 2 ≤ v.u then 0 else v.u, ctx := { v.ctx with
          msixVec := fieldAt d.desc 38 2, modCount := fieldAt d.desc 40 2, modTime := fieldAt d.desc 42 2 } })
      ∧ RefusedByRing .setModeration 7 there)
  ∧ (∀ (s : State) (d : DevCmd), s.devCmd 3 = some d → SMap.wf Ring.absent s.host.rings = true → fieldAt d.desc 16 1 = 0 →
      (s.ring (fieldAt d.desc 8 2)).st = .active →
      ∃ u : State, exec .stopRing s = .next (u.complete { cmdCpl d 0 0 0 0 with
            after := [(fieldAt d.desc 8 2, (s.ring (fieldAt d.desc 8 2)).head, (s.ring (fieldAt d.desc 8 2)).gen)] })
        ∧ u.ring (fieldAt d.desc 8 2) = { s.ring (fieldAt d.desc 8 2) with st := .stopped }
        ∧ (∀ q, q ≠ fieldAt d.desc 8 2 → u.ring q = s.ring q) ∧ u.adm = (s.dropCmd d).adm)
  ∧ (∀ (s : State) (d : DevCmd), s.devCmd 3 = some d → SMap.wf Ring.absent s.host.rings = true → fieldAt d.desc 16 1 = 1 →
      let r := fieldAt d.desc 8 2
      let v := s.ring r
      let goesOn := s.deciding = true ∧ s.host.dbBack = true ∧ v.fresh = false ∧ v.waiting ≠ 0 ∧ s.freeCpl r ≠ 0
        ∧ (v.fetched ≠ [] ∨ (s.host.bme = true ∧ s.host.dllUp = true))
      (s.host.flush ≠ none → exec .stopRing s = .next s)
      ∧ ((v.st = .active ∨ v.st = .stopped) → s.host.flush = none → ∃ u : State,
          u.ring r = { v with st := .stopped } ∧ (∀ q, q ≠ r → u.ring q = s.ring q) ∧ u.adm = (s.dropCmd d).adm
            ∧ (goesOn → exec .stopRing s = .next u ∧ u.host.flush = some ⟨r, 0, cmdCpl d 0 0 0 0⟩)
            ∧ (¬ goesOn → exec .stopRing s = .next (u.complete { cmdCpl d 0 0 0 0 with after := [(r, v.head, v.gen)] })
                ∧ u.host.flush = none)))
  ∧ (∀ (s : State) (d : DevCmd), SMap.wf Ring.absent s.host.rings = true →
      let mine : RingSt → Nat → Bool := fun st r => r != 0 && (s.ring r).st == st && (s.ring r).ctx.group == fieldAt d.desc 8 1
      (s.devCmd 8 = some d → ∃ (u : State) (after : List (Nat × W32 × Nat)), exec .stopGroup s = .next (u.complete
            { cmdCpl d 0 ((s.ringNumbers.filter (mine .active)).length) 0 0 with after := after })
          ∧ (∀ r, (mine .active r = true → u.ring r = { s.ring r with st := .stopped } ∧ (r, (s.ring r).head, (s.ring r).gen) ∈ after)
              ∧ (mine .active r = false → u.ring r = s.ring r)))
      ∧ (s.devCmd 9 = some d → ∃ u, CarriedOut .startGroup s d u ⟨0, (s.ringNumbers.filter (mine .stopped)).length, 0, 0⟩
          ∧ (∀ r, (mine .stopped r = true → u.ring r = { s.ring r with st := .active, fresh := true })
              ∧ (mine .stopped r = false → u.ring r = s.ring r))))

/-! ### Device commands -/

/-- LOAD_CERT of a certificate that passes the checks of R49: it takes the place of its class's at the next sill; one of the image
set that waits for activation is staged; one that fails completes with BAD_CERT and its case (02 R49, R50; 18 R730). POWER_SET sets
and clears the P2 reason HOST, asks for P0 or P1 of a PROVISIONED or SEALED device, or for P3, and gives the reasons left in DETAIL
(17 R685 to R689). ENTROPY_RETEST of bits that pass the tests leaves the draw unit READY with their figures; instances that were not
instantiated are, with no reseed counted, and the others stand (16 R628, R629, R631, R657). CART_TIME keeps its UTC (15 R623). The
chain commands outside an activation. CHAIN_CONFIG of a block that obeys R598, before the first span or in P2: with no witness its
configuration is in force at once; with witnesses the latency check of the first one begins under it, 256 ECHO frames each, where
every witness has a route over a MEMBER port and no port carries three witness streams, its own and those of the sources it
witnesses. WITNESS_SET and LATENCY_CHECK begin the same check; an empty WITNESS_SET takes effect at the next span (14 R563, R564,
R590, R597, R598). A list that breaks R563 is refused with SOURCES, 8 (14 R599; which of the reasons, log entry 104). -/
def Obligations.DeviceSettings : Prop :=
  ((∀ (s : State) (d : DevCmd) (o : Octets), Commanded s 16 d o → let c := certOf o; let t := s.dropCmd d
          (∀ n, s.certFault o (s.currentCert c.cls) = some n → CarriedOut .loadCert s d t ⟨0x13, n, 0, 0⟩)
          ∧ (s.certFault o (s.currentCert c.cls) = none →
              (s.installedDigest ≠ some c.imageDigest → CarriedOut .loadCert s d
                { t with adm := { t.adm with certsNext := s.adm.certsNext.filter (fun k => k.cls != c.cls) ++ [c] } } .done)
              ∧ (s.installedDigest = some c.imageDigest → CarriedOut .loadCert s d
                  { t with upd := { t.upd with staged := s.upd.staged.filter (fun k => k.cls != c.cls) ++ [c] } } .done)))
      ∧ (∀ (s : State) (d : DevCmd), s.devCmd 48 = some d →
          (∀ p ∈ [(0, PowerSt.p0), (1, PowerSt.p1)], fieldAt d.desc 8 1 = p.1 → s.inService = true → ∃ u,
            CarriedOut .powerSet s d u ⟨0, (s.power.reasons &&& 0xE).toNat, 0, 0⟩ ∧ u.power.next = some p.2
              ∧ u.power.reasons = s.power.reasons &&& 0xE)
          ∧ (fieldAt d.desc 8 1 = 2 → ∃ u, CarriedOut .powerSet s d u ⟨0, (s.power.reasons ||| 1).toNat, 0, 0⟩
              ∧ u.power = { s.power with reasons := s.power.reasons ||| 1, since := if s.power.reasons = 0 then some s.t.span else s.power.since })
          ∧ (fieldAt d.desc 8 1 = 3 → s.activating = false → s.power.st = .p2 → ∃ u,
              CarriedOut .powerSet s d u ⟨0, s.power.reasons.toNat, 0, 0⟩ ∧ u.power = { s.power with p3At := some (d.order, none) }))
      ∧ (∀ (s : State) (d : DevCmd) (raw : List Bool) (m : EntropyMon) (h : W32), s.devCmd 45 = some d →
          feed EntropyMon.start s.ds.health raw = (m, h, none) →
          ∃ u, CarriedOut (.entropyRetest raw) s d u .done ∧ u.ds.st = .ready ∧ u.ds.health = h ∧ u.ds.mon = m ∧ u.ds.draws = s.ds.draws
            ∧ (s.ds.inst = none → u.ds.inst.isSome = true ∧ u.ds.service.isSome = true ∧ u.ds.reseeds = 0)
            ∧ (s.ds.inst ≠ none → u.ds.inst = s.ds.inst ∧ u.ds.reseeds = s.ds.reseeds))
      ∧ (∀ (s : State) (d : DevCmd), s.devCmd 43 = some d →
          ∃ u, CarriedOut .cartTime s d u .done ∧ u.cart.utc = some (BitVec.ofNat 64 (fieldAt d.desc 8 8)) ∧ u.cart.mount = s.cart.mount))
  ∧ ((∀ (s : State) (d : DevCmd) (o : Octets), Commanded s 32 d o → s.chain.latency = none → s.activating = false →
          (s.t.run = false ∨ s.power.st = .p2) →
          (badWitnesses (cfgOf o).device (cfgOf o).witness = true →
            exec .chainConfig s = .next ((s.dropCmd d).complete (cmdCpl d stCHAIN 0xFFFF 0 8)))
          ∧ (badWitnesses (cfgOf o).device (cfgOf o).witness = false → cfgBad o = false →
          ((cfgOf o).witness = [] → ∃ u, CarriedOut .chainConfig s d u .done ∧ u.chain.cfg = cfgOf o ∧ u.chain.latency = none)
          ∧ (∀ w r, (cfgOf o).witness = w :: r → s.unrouted (cfgOf o) (w :: r) = none → s.overPaired (cfgOf o) (w :: r) = none →
              Completes .chainConfig s (fun t => t.chain.cfg = s.chain.cfg
                ∧ t.chain.latency = some ⟨some d, cfgOf o, w :: r, (cfgOf o).quorum, 256, w, r, s.t.clock, 0, 0⟩))))
      ∧ (∀ (s : State) (d : DevCmd), s.devCmd 33 = some d → s.chain.latency = none → s.activating = false →
          let ws := ((slice d.desc 8 3).map BitVec.toNat).filter (fun x => x != 0)
          badWitnesses s.chain.cfg.device ws = false →
          (ws = [] → ∃ u, CarriedOut .witnessSet s d u .done ∧ u.chain.cfgNext = some ([], fieldAt d.desc 11 1) ∧ u.chain.cfg = s.chain.cfg)
          ∧ (∀ w r, ws = w :: r → s.unrouted s.chain.cfg ws = none → s.overPaired s.chain.cfg ws = none →
              Completes .witnessSet s (fun t => t.chain.cfgNext = s.chain.cfgNext
                ∧ t.chain.latency = some ⟨some d, s.chain.cfg, ws, fieldAt d.desc 11 1, 256, w, r, s.t.clock, 0, 0⟩)))
      ∧ (∀ (s : State) (d : DevCmd) (w : Nat) (r : List Nat), s.devCmd 34 = some d → s.chain.latency = none → s.chain.cfg.witness = w :: r →
          s.unrouted s.chain.cfg (w :: r) = none → s.overPaired s.chain.cfg (w :: r) = none →
          Completes .latencyCheck s (fun t =>
            t.chain.latency = some ⟨some d, s.chain.cfg, w :: r, s.chain.cfg.quorum, 256, w, r, s.t.clock, 0, 0⟩)))

/-- The commands that write to host memory, while Bus Master Enable is set and the link is up and in L0: JOURNAL_READ at most LEN
octets of a sealed segment, with its length in RES_BYTES; LEAF_PROOF a header, a leaf and its path, where they lie within the
window; CART_STATUS, DRAW_STATUS and LIFECYCLE_STATUS their blocks of 64, 32 and 64 octets; CART_READ the LBAs asked for, below
their zones' write pointers (14 R597; 15 R623, R624; 16 R657; 17 R695, R697; 21 R813). CART_EJECT with no append outstanding appends
an EJECT record, closes the open data zone, brings the port's lands down and leaves the mount SAFE; with one outstanding the mount
is EJECTING (15 R610, R623, R625; 20 R791). That RES_BYTES of JOURNAL_READ is the segment's whole length, and how the model fills
what R624 leaves open, are log entry 65. -/
def Obligations.DeviceReads : Prop :=
  (∀ (s : State) (d : DevCmd), s.host.bme = true → s.host.dllUp = true → s.host.linkL0 = true → let t := s.dropCmd d
      (∀ g, s.devCmd 35 = some d → s.sealedSegment (fieldAt d.desc 14 1) (fieldAt d.desc 8 6) = some g →
        CarriedOut .journalRead s d (t.emit (.hostWrite (fieldAt d.desc 16 8) (g.octets.take (fieldAt d.desc 24 4)))) ⟨0, 0, g.octets.length, 0⟩)
      ∧ (∀ g x, s.devCmd 36 = some d → s.sealedSegment s.chain.cfg.device (fieldAt d.desc 8 6) = some g →
          g.leaves[fieldAt d.desc 14 3]? = some x →
            let path := merklePath 17 (fieldAt d.desc 14 3) ((g.leaves.map (fun y => y.2.getD [])).map leafHash)
            let proof := g.header.getD [] ++ x.2.getD [] ++ path.flatten
            s.inCtrlWindow (fieldAt d.desc 24 8) proof.length = true →
            CarriedOut .leafProof s d (t.emit (.hostWrite (fieldAt d.desc 24 8) proof)) .done)
      ∧ (∀ p ∈ [(Instr.cartStatus, 40, cartStatusOctets s, 64),
          (Instr.drawStatus, 44, [octet s.ds.st.code] ++ zeros 7 ++ leBytes 8 s.ds.reseeds ++ leBytes 8 s.ds.done ++ leBytes 4 s.ds.health.toNat ++ zeros 4, 32),
          (Instr.lifecycleStatus, 53, statusBlock s, 64)],
          s.devCmd p.2.1 = some d → CarriedOut p.1 s d (t.emit (.hostWrite (fieldAt d.desc 8 8) p.2.2.1)) .done ∧ p.2.2.1.length = p.2.2.2)
      ∧ (∀ data, s.devCmd 42 = some d → (s.cart.mount = .bound ∨ s.cart.mount = .archive ∨ s.cart.mount = .ejecting) →
          s.lbasWritten (fieldAt d.desc 8 8) (fieldAt d.desc 16 4) = true →
          CarriedOut (.cartRead data) s d (t.emit (.hostWrite (fieldAt d.desc 24 8) (padTo (4096 * fieldAt d.desc 16 4) data))) .done))
  ∧ (∀ (s : State) (d : DevCmd), s.devCmd 41 = some d → (s.cart.mount = .bound ∨ s.cart.mount = .archive) →
      (s.cart.unit = none → ∃ u x, CarriedOut .cartEject s d u .done
        ∧ u.cart = { s.cart with mount := .safe, labels := s.cart.labels + 1, zoneOpen := false } ∧ x.length = 4096
        ∧ u.out = s.out ++ .cartAppend 0 x :: ((if s.cart.zoneOpen = true then [.cartClose (1 + s.cart.lbas / zoneLbas)] else [])
            ++ [.cartLand .cperstN false, .cartLand .crefclk false, .cartLand .cpwren false]))
      ∧ (s.cart.unit.isSome = true → exec .cartEject s = .next { s with cart := { s.cart with mount := .ejecting } }))

/-! ### Lifecycle, keys, field update -/

/-- The lifecycle commands whose block passes every check of R671, R673 and R696. LIFECYCLE_SEAL of a PROVISIONED device with
its keys takes effect when the span of its record is sealed (17 R671, R672). KEY_LOAD puts the key into slot 13 at once and into
any other slot at the next sill (17 R666). DEBUG_CLOSE ends the debug level with its halts and breakpoints (17 R682, R695).
RETIRE makes the device RETIRED, with no key, every core held and every chain port down (17 R673). A block that fails ends its
command with the code of R696. Tamper. The lid switch latches in every state (17 R674). A sample that finds the lid open for the
first time makes a PROVISIONED or SEALED device TAMPERED: the keys of slots 2 to 5 and of 16 to 63 and the private keys of 64 to
95 are gone, the cores are held, P2 holds with reason LIFECYCLE (17 R675, R676); one that finds nothing leaves the lifecycle and
the keys (17 R675). -/
def Obligations.LifecycleAndTamper : Prop :=
  ((∀ (s : State) (d : DevCmd) (o : Octets), Commanded s 49 d o → s.sec.life = .provisioned → s.key 5 ≠ none → s.key 13 ≠ none →
          (s.authBad o 1 = none → CarriedOut .lifecycleSeal s d { s.dropCmd d with sec := { s.sec with sealAt := some d.span } } .done)
          ∧ (∀ n, s.authBad o 1 = some n → CarriedOut .lifecycleSeal s d (s.dropCmd d) (.refused n)))
      ∧ (∀ (s : State) (d : DevCmd) (o : Octets), Commanded s 50 d o →
          (∀ n, s.keyOf o = .error n → CarriedOut .keyLoad s d (s.dropCmd d) (.refused n))
          ∧ (∀ k, s.keyOf o = .ok k → let slot := fieldAt o 2 1
              let sec := { s.sec with slotSerial := s.sec.slotSerial.set 0 slot (fieldAt o 8 8) }
              (slot ≠ 13 → CarriedOut .keyLoad s d
                { s.dropCmd d with sec := { sec with keysNext := s.sec.keysNext ++ [(slot, k, fieldAt o 8 8)] } } .done)
              ∧ (slot = 13 → SMap.wf none s.sec.slots = true → ∃ u, CarriedOut .keyLoad s d u .done ∧ u.key 13 = k
                  ∧ ∀ n, n ≠ 13 → u.key n = s.key n)))
      ∧ (∀ (s : State) (d : DevCmd), s.devCmd 51 = some d → ∃ u, CarriedOut .debugClose s d u .done
          ∧ u.sec = { s.sec with dbgLevel := 0, dbgLeft := 0, dbgSince := 0, breaks := [] }
          ∧ ∀ c, u.core c = { s.core c with haltReq := false, halted := false, step := false })
      ∧ (∀ (s : State) (d : DevCmd) (o : Octets), Commanded s 52 d o →
          (∀ n, s.retireBad o = some n → CarriedOut .retire s d (s.dropCmd d) (.refused n))
          ∧ (s.retireBad o = none → ∃ u, CarriedOut .retire s d u .done ∧ u.sec.life = .retired ∧ u.sec.slots = [] ∧ u.t.run = false
              ∧ (∀ c, (u.core c).held = true) ∧ ∀ p, (u.port p).st = .down)))
  ∧ ((∀ s : State, exec .lidSwitch s = .next { s with sec := { s.sec with lidLatched := true } })
      ∧ (∀ (s : State) (lid : Bool) (ohms : Nat), s.power.st ≠ .p4 →
          ((s.sec.lidLatched = true ∨ lid = true) → s.sec.lidSeen = false → (s.sec.life = .provisioned ∨ s.sec.life = .sealed) →
            (s.power.st = .p0 ∨ s.power.st = .p1 ∨ s.power.st = .p2) → SMap.wf none s.sec.slots = true →
            Completes (.tamperSample lid ohms) s (fun t => t.sec.life = .tampered ∧ t.sec.lidLatched = true ∧ t.sec.lidSeen = true
              ∧ (∀ n, (2 ≤ n ∧ n ≤ 5) ∨ (16 ≤ n ∧ n ≤ 63) → t.key n = none) ∧ (∀ n k, 64 ≤ n → n ≤ 95 → t.key n = some k → k.typ ≠ .priv)
              ∧ (∀ n, 8 ≤ n → n ≤ 13 → t.key n = s.key n) ∧ (∀ c, (t.core c).held = true) ∧ (∀ p, (t.port p).sendKey = [] ∧ (t.port p).recvKey = [])
              ∧ t.t.run = false ∧ t.power.st = .p2 ∧ t.power.reasons.getLsbD 3 = true))
          ∧ (s.sec.lidLatched = false → lid = false → (s.sec.loopArmed = false ∨ (500 ≤ ohms ∧ ohms ≤ 20000)) →
              Completes (.tamperSample lid ohms) s (fun t => t = { s with sec := { s.sec with
                loopOhms := if s.sec.loopArmed then ohms else 0, badReads := 0 } }))))

/-- Staging by the host, while Bus Master Enable is set and the link is up and in L0. UPD_OPEN with no session open: a manifest that
passes the checks of R712 opens one in STAGING, another is refused with the result of the first check it fails, and either way the
status block is written at REPLY (18 R699, R712). UPD_PIECE of records that are whole, not held and open under the session's key:
each is held, and DETAIL is their number; of one record that does not open, the failure is counted and the command refused with
PIECE (18 R699, R710). UPD_STATUS writes the 128 octets of the status block (18 R718); UPD_ABORT by the opener ends the session
outside an activation, and is refused within one (18 R713). Update distribution. A frame of a manifest or of a piece record that
goes on where the frames before it ended is kept, and with the last one a manifest that passes the checks opens a session for its
neighbour, a piece that is whole, not held and opens under the key is held (18 R710, R712, R715, R716). A WANT of the open session
is answered with every piece it names that is held; its sender has answered the manifest and, once that was sent, taken the
session; a BUSY has it answered (18 R716). ABORT from the opener and 30 days of spans without a piece end the session outside an
activation (18 R713). Every 4,096 spans the manifest is sent again to every MEMBER neighbour that has not answered it, and what is
missing is asked for (18 R716). With every piece held, a set whose parts all have their digests is installed, VALID, in the
inactive slot; of one in which some have not, the pieces of those parts are dropped (18 R714). -/
def Obligations.Staging : Prop :=
  ((∀ (s : State) (d : DevCmd) (o : Octets), Commanded s 24 d o → s.host.bme = true → s.host.dllUp = true → s.host.linkL0 = true →
          (s.inService = true ∨ s.sec.life = .blank) → s.upd.session = none →
          (∀ x, s.checkManifest o 0 = .ok x → ∃ u y, CarriedOut .updOpen s d u .done ∧ u.upd.session = some y ∧ y.st = .staging ∧ y.opener = 0
            ∧ y.digest = x.digest ∧ y.key = x.key ∧ y.payload = x.payload ∧ y.pieces = []
            ∧ .hostWrite (fieldAt d.desc 24 8) (updStatusBlock u) ∈ u.out)
          ∧ (∀ n, s.checkManifest o 0 = .error n →
              CarriedOut .updOpen s d ((s.dropCmd d).emit (.hostWrite (fieldAt d.desc 24 8) (updStatusBlock s))) (.refused n)))
      ∧ (∀ (s : State) (d : DevCmd) (o : Octets) (x : Session), Commanded s 25 d o → s.upd.session = some x → x.st = .staging →
          SMap.wf none x.pieces = true →
          let rs := pieceRecords (fieldAt d.desc 16 1) o
          let key := fun r : Octets => 65536 * fieldAt r 4 1 + fieldAt r 8 4
          let fits := fun r : Octets => slice r 16 16 = x.digest.take 16 ∧ x.headerOk r = true ∧ x.holds (key r) = false
          ((∀ r ∈ rs, fits r ∧ x.openPiece (key r) (r.drop 32) ≠ none) → (rs.map key).Nodup → ∃ u y,
            CarriedOut .updPiece s d u ⟨0, rs.length, 0, 0⟩ ∧ u.upd.session = some y ∧ y.failures = x.failures
              ∧ y.pieces = rs.foldl (fun m r => m.set none (key r) (some (r.drop 32))) x.pieces ∧ (rs ≠ [] → y.idle = 0))
          ∧ (∀ r, rs = [r] → fits r → x.openPiece (key r) (r.drop 32) = none →
              CarriedOut .updPiece s d ((s.dropCmd d).setSession { x with failures := x.failures + 1 }) (.refused 17)))
      ∧ (∀ (s : State) (d : DevCmd), s.devCmd 26 = some d → s.host.bme = true → s.host.dllUp = true → s.host.linkL0 = true →
          CarriedOut .updStatus s d ((s.dropCmd d).emit (.hostWrite (fieldAt d.desc 8 8) (updStatusBlock s))) .done
            ∧ (updStatusBlock s).length = 128)
      ∧ (∀ (s : State) (d : DevCmd) (x : Session), s.devCmd 27 = some d → s.sessionOf (slice d.desc 16 16) = some x → x.opener = 0 →
          (s.activating = false → ∃ u, CarriedOut .updAbort s d u .done ∧ u.upd.session = none ∧ u.upd.staged = [])
          ∧ (s.activating = true → CarriedOut .updAbort s d (s.dropCmd d) (.refused 19))))
  ∧ ((∀ (s u : State) (f : RxFrame) (b o : Octets), SMap.wf none u.upd.rxBuf = true → b.drop 32 ≠ [] →
          let key := fun kind : Nat => 4 * f.port.val + kind
          let goesOn := fun kind : Nat => (fieldAt b 8 4 = 0 ∧ o = [])
            ∨ (0 < o.length ∧ fieldAt b 8 4 = o.length ∧ u.upd.rxBuf.get none (key kind) = some (o, fieldAt b 12 4))
          let whole := o ++ b.drop 32
          let kept := fun (kind : Nat) (t : State) =>
            t.upd.rxBuf.get none (key kind) = some (whole, fieldAt b 12 4) ∧ t.upd.session = u.upd.session
          (UpdTaken 1 f s u b → goesOn 1 → fieldAt b 12 4 ≤ 16384 →
            (whole.length < fieldAt b 12 4 → Completes (.manifestFrame f) s (kept 1))
            ∧ (∀ x, whole.length = fieldAt b 12 4 → u.upd.session = none → u.inService = true →
                u.checkManifest whole (u.port f.port).peer = .ok x → Completes (.manifestFrame f) s (fun t => ∃ y,
                  t.upd.session = some y ∧ y.digest = x.digest ∧ y.key = x.key ∧ y.opener = (u.port f.port).peer ∧ y.st = .staging
                    ∧ y.pieces = [])))
          ∧ (UpdTaken 2 f s u b → goesOn 2 → fieldAt b 12 4 ≤ 65584 →
            (whole.length < fieldAt b 12 4 → Completes (.pieceFrame f) s (kept 2))
            ∧ (∀ x, whole.length = fieldAt b 12 4 → u.sessionOf (slice whole 16 16) = some x → x.st = .staging → x.headerOk whole = true →
                let k := 65536 * fieldAt whole 4 1 + fieldAt whole 8 4
                x.holds k = false → x.openPiece k (whole.drop 32) ≠ none → Completes (.pieceFrame f) s (fun t => ∃ y,
                  t.upd.session = some y ∧ y.pieces = x.pieces.set none k (some (whole.drop 32)) ∧ y.idle = 0))))
      ∧ (∀ (s u : State) (f : RxFrame) (b : Octets) (x : Session), UpdTaken 3 f s u b → u.sessionOf (slice b 16 16) = some x →
          let noted := fun l : List Nat => if l.contains f.port.val then l else l ++ [f.port.val]
          let y := { x with answered := noted x.answered, opened := if x.sentAt = none then x.opened else noted x.opened }
          let named := (List.range (min 16 (fieldAt b 8 4))).map (fun i => 65536 * fieldAt b 1 1 + fieldAt b 4 4 + i)
          exec (.want f) s = .next ((named.filter x.holds).foldl
            (fun v k => v.sendPieces f.port 2 (k / 65536) (k % 65536) x.digest (x.record k)) (u.setSession y)))
      ∧ (∀ (s u : State) (f : RxFrame) (b : Octets) (x : Session), UpdTaken 4 f s u b → u.openSession = some x →
          Completes (.busy f) s (fun t => ∃ y, t.upd.session = some y ∧ f.port.val ∈ y.answered ∧ y.opened = x.opened ∧ y.pieces = x.pieces))
      ∧ (∀ (s u : State) (f : RxFrame) (b : Octets) (x : Session), UpdTaken 5 f s u b → u.sessionOf (slice b 16 16) = some x →
          x.opener = (u.port f.port).peer → x.opener ≠ 0 → u.activating = false →
          Completes (.abortFrame f) s (fun t => t.upd.session = none ∧ t.upd.staged = []))
      ∧ (∀ (s : State) (x : Session), s.upd.session = some x → x.st ≠ .ended →
          (x.idleTime ≥ 10368000000 → s.activating = false → Completes .sessionExpiry s (fun t => t.upd.session = none ∧ t.upd.staged = []))
          ∧ ((∀ n, x.sentAt = some n → n + 4096 ≤ s.t.span) → payloadChain x.payload = true →
              let y := { x with wanted := [], sentAt := some s.t.span }
              exec .manifestResend s = .next (((((s.memberPorts.filter (fun p => !x.answered.contains p.val)).foldl
                (fun t p => t.sendPieces p 1 0 0 x.digest x.manifest) (s.setSession y))).setSession y).sendWants y))
          ∧ (x.st = .staging → x.missing = [] → s.powered = true → (s.bootDone = true ∨ s.svc.stage = .recovery) →
              (x.badParts = [] → Completes .updateInstall s (fun t => t.upd.session = some { x with st := .installed, slot := s.installSlot }
                ∧ (t.slotOf s.installSlot).st = .valid ∧ (t.slotOf s.installSlot).version = payloadVersion x.payload
                ∧ (t.slotOf s.installSlot).digest = imageDigest (s.newParts x) ∧ (t.slotOf s.installSlot).parts = s.newParts x
                ∧ (t.slotOf s.installSlot).table = partsOctets (s.newParts x)
                ∧ t.slotOf (1 - s.installSlot) = s.slotOf (1 - s.installSlot) ∧ t.intentStep = 1))
              ∧ (x.badParts ≠ [] → Completes .updateInstall s (fun t => t.upd.session = some { x with
                  slot := s.installSlot, pieces := x.pieces.filter (fun p => !x.badParts.contains (p.1 / 65536)) }
                ∧ (t.slotOf s.installSlot).st = .installing ∧ t.intentStep = s.intentStep)))))

/-- Activation by the host. UPD_ACTIVATE at the coordinator of an INSTALLED session writes PREPARED with S, LEAD spans after the
span of its consumption (18 R699, R722). UPD_VERDICT while the soak runs reports acceptance, or FAIL_OPERATOR, which holds the
participant in P2 (18 R726). UPD_RESOLVE of a block that passes the checks of R733 applies the decision that was missed: COMMIT and
ABORT write their steps, KEEP ends in CONVERTED, FALLBACK in FALLBACK or FELL_BACK (18 R720, R728, R729, R733). Probation. After
PROB_SPANS spans a participant reports OK (18 R726); the coordinator keeps the reports, decides FALLBACK in the span in which a
failure arrives, and at the deadline decides KEEP where every device of the activation, those listed or this one alone, reported OK,
otherwise FALLBACK (18 R727, R735). A participant that reported OK and hears nothing for 120 s holds in P2 (18 R727). None of it in
TAMPERED (17 R678). That what still waits for a route outlives the activation is log entry 88. -/
def Obligations.ActivationAtHost : Prop :=
  ((∀ (s : State) (d : DevCmd) (x : Session), s.devCmd 28 = some d → s.sessionOf (slice d.desc 16 16) = some x → s.isCoord = true →
          x.st = .installed → s.activating = false →
          ∃ u q, CarriedOut .updActivate s d u .done
            ∧ u.newestIntent = some ⟨2, 1, q, d.span + fieldAt d.desc 8 2, s.upd.active, 0, x.digest⟩
            ∧ u.upd.act = { Activ.none with lastSent := s.t.span, unsent := s.upd.act.unsent } ∧ u.upd.session = some x)
      ∧ (∀ (s : State) (d : DevCmd) (x : Session), s.devCmd 29 = some d → s.activationOf (slice d.desc 16 16) = some x → s.isCoord = false →
          s.upd.act.soaking = true → s.upd.act.reported = none →
          ∃ u, CarriedOut .updVerdict s d u .done ∧ u.intentStep = 7 ∧ u.upd.act.soaking = false ∧ u.upd.act.reportSpan = s.t.span
            ∧ u.upd.act.reported = some (if fieldAt d.desc 8 1 = 1 then 0 else 5)
            ∧ (fieldAt d.desc 8 1 ≠ 1 → u.power.reasons.getLsbD 1 = true))
      ∧ (∀ (s : State) (d : DevCmd) (o : Octets) (x : Session), Commanded s 30 d o → s.resolveBad o = none → s.upd.session = some x →
          ∃ u, CarriedOut .updResolve s d u .done
            ∧ (fieldAt o 2 1 = 1 → u.intentStep = 3) ∧ (fieldAt o 2 1 = 2 → u.intentStep = 4)
            ∧ (fieldAt o 2 1 = 3 → u.intentStep = 10 ∧ u.upd.session = none)
            ∧ (fieldAt o 2 1 = 4 → u.intentStep = 9 ∨ (u.intentStep = 11 ∧ u.upd.session = none))))
  ∧ ((∀ (s : State) (x : Session), s.upd.session = some x → s.actsOnIntents = true →
          (s.upd.act.soaking = true → s.upd.act.soak ≥ payloadProb x.payload → s.isCoord = false → s.upd.act.reported = none →
            Completes .soakEnd s (fun t => t.intentStep = 7 ∧ t.upd.act.reported = some 0 ∧ t.upd.act.soaking = false
              ∧ t.upd.act.reportSpan = s.t.span ∧ t.power = s.power))
          ∧ (s.isCoord = true → inProbation s.actStep = true → s.t.span ≥ s.switchSpan x + payloadProb x.payload + 240000 / s.t.k →
              Completes .reportDeadline s (fun t =>
                if ∀ d ∈ s.listed x, (d, 0) ∈ s.upd.act.reports then t.intentStep = 10 ∧ t.upd.session = none else FallingBack t)))
      ∧ (∀ (s u : State) (f : RxFrame) (b : Octets) (x : Session), ActTaken 20 f s u b x → u.isCoord = true → inProbation u.actStep = true →
          f.hdr.src.toNat ∈ u.participants x → (∀ p ∈ u.upd.act.reports, p.1 ≠ f.hdr.src.toNat) →
          (fieldAt b 1 1 = 0 → (∃ d ∈ u.listed x, d ≠ f.hdr.src.toNat ∧ (d, 0) ∉ u.upd.act.reports) → Completes (.report f) s (fun t =>
              t.upd.act.reports = u.upd.act.reports ++ [(f.hdr.src.toNat, 0)] ∧ t.upd.intents = u.upd.intents))
          ∧ (fieldAt b 1 1 ≠ 0 → Completes (.report f) s FallingBack))
      ∧ (∀ s : State, s.awaiting = true → s.actsOnIntents = true → s.upd.act.reported = some 0 → s.t.span ≥ s.upd.act.reportSpan + 480000 / s.t.k →
          s.power.reasons.getLsbD 1 = false → Completes .confirmTimeout s (fun t => t.power.reasons = s.power.reasons ||| 2 ∧ t.upd = s.upd)))

/-! ### Setup registers and the mailbox -/

/-- Writes of the setup registers. One that is not 8 octets wide is refused with WIDTH, one of 8 octets that is not aligned with
RESERVED, each recorded in SETUP_STATUS, and changes no setting (21 R801, R802, R806; RESERVED because no register is assigned to
such an offset). A write of SPAN_CFG within its ranges stores SYNC, and LEN before the first span or in P2 with the defaults of the
new length (02 R33, R34; 21 R809, R810); one of ADM_CFG within its ranges is stored for the next sill and reads back as written (21
R812). CTRL_RING: EN set creates ring 0 with its counts 0, EN cleared takes a quiet ring 0 away, RESET brings a FAULTED and quiet
one back; entries not yet signalled are signalled still (03 R111, R123; 21 R814). A write of HOST_NOTICE clears the notices it
names, and with the last one vector 0's pending bit (21 R816; 03 R124; log entry 9). -/
def Obligations.SetupWrites : Prop :=
  (∀ (s : State) (off : BitVec 20) (w : Nat) (v : W64), s.powered = true → (off.toNat < 0x80000 ∨ 0x88100 ≤ off.toNat) →
      (w ≠ 8 ∨ off.toNat % 8 ≠ 0) → Completes (.setupWrite off w v) s (fun t =>
        t.host.setup = ⟨true, min (s.host.setup.count + 1) 65535, if w ≠ 8 then 4 else 1, off.toNat⟩ ∧ t.t = s.t ∧ t.adm = s.adm ∧ t.host.ctrl = s.host.ctrl
          ∧ t.host.rings = s.host.rings))
  ∧ (∀ (s : State) (v : W64), s.powered = true → reservedBits v [(0, 6)] = false →
      let left := s.host.notice &&& ~~~ (v.setWidth 6)
      let e := s.host.msix.get MsixEntry.zero 0
      exec (.setupWrite 0x500 8 v) s = .next { s with host := { s.host with
        notice := left
        msix := if left = 0 ∧ e.pending = true then s.host.msix.set MsixEntry.zero 0 { e with pending := false } else s.host.msix } })
  ∧ (∀ (s : State) (v : W64), s.powered = true → reservedBits v [(0, 6), (8, 2)] = false → 1 ≤ getField v 0 6 → getField v 0 6 ≤ 40 →
      (getField v 0 6 = s.t.lenNext.getD s.t.k ∨ s.t.run = false ∨ s.power.st = .p2) → Completes (.spanCfgWrite 8 v) s (fun t =>
        t.t = { s.t with syncNext := some (getField v 8 2)
                         lenNext := if getField v 0 6 = s.t.lenNext.getD s.t.k then s.t.lenNext else some (getField v 0 6) }
          ∧ t.setupReg 0x100 = v ∧ t.adm.cfg = s.adm.cfg
          ∧ (getField v 0 6 ≠ s.t.lenNext.getD s.t.k → t.adm.cfgNext.coreRsv = getField v 0 6 * 12500
              ∧ t.adm.cfgNext.vecCap = getField v 0 6 * 425000 ∧ t.adm.cfgNext.movCap = getField v 0 6 * 6800000 ∧ t.adm.cfgNext.r0Core = 0)))
  ∧ (∀ (s : State) (n : Fin 3) (v : W64), s.powered = true → let k := s.t.lenNext.getD s.t.k
      (n = 0 → reservedBits v [(0, 25), (32, 25)] = false ∧ k * 8192 ≤ getField v 0 25 ∧ getField v 0 25 ≤ k * 125000 ∧ getField v 32 25 ≤ k * 437500) →
      (n = 1 → reservedBits v [(0, 30), (32, 25)] = false ∧ getField v 0 30 ≤ k * 7000000 ∧ getField v 32 25 ≤ 16777216
        ∧ getField v 32 25 ≤ getField v 0 30) →
      (n = 2 → reservedBits v [(0, 9), (16, 9), (32, 23), (56, 6)] = false ∧ 1 ≤ getField v 0 9 ∧ getField v 0 9 ≤ 256 ∧ 1 ≤ getField v 16 9
        ∧ getField v 16 9 ≤ 256 ∧ getField v 32 23 ≤ k * 200000) →
      Completes (.admCfgWrite n 8 v) s (fun t => t.setupReg (0x200 + 8 * n.val) = v ∧ t.adm.cfg = s.adm.cfg ∧ t.host = s.host ∧ t.t = s.t))
  ∧ (∀ s : State, s.powered = true → SMap.wf Ring.absent s.host.rings = true →
      let v := s.ring 0
      let renewed : Ring := { Ring.absent with
        st := .active, ctx := s.host.ctrl.ctx, gen := v.gen + 1, fresh := true, t0 := v.t0
        u := if s.host.ctrl.ctx.modCount ≤ v.u then 0 else v.u }
      (s.host.ctrl.en = false → s.host.ctrl.ready = true → Completes (.ctrlRingEnable 8 1) s (fun t =>
        t.host.ctrl.en = true ∧ t.ring 0 = renewed ∧ t.host.posted = 0 ∧ ∀ r, r ≠ 0 → t.ring r = s.ring r))
      ∧ (s.host.ctrl.en = true → s.quiet 0 = true → exec (.ctrlRingDisable 8 0) s
          = .next { s with host := { s.host with ctrl := { s.host.ctrl with en := false } } })
      ∧ (s.host.ctrl.en = true → (s.ring 0).st = .faulted → s.quiet 0 = true → Completes (.ctrlRingReset 8 3) s (fun t =>
          t.host.ctrl = s.host.ctrl ∧ t.ring 0 = renewed ∧ t.host.posted = 0 ∧ ∀ r, r ≠ 0 → t.ring r = s.ring r)))

/-- The windows. PROGRESS_LATCH returns the first 8 octets of a slot and latches all of it; TR_ENTRY_READ latches the committed
entry of least SEQ from TR_SEEK on, 128 octets, and moves TR_SEEK past it (19 R759; 21 R819, R823). The messages of the service
mailbox: PROVISION of a bundle that passes every check makes a BLANK device PROVISIONED with a span key and a device draw key of
its own and the roots it was given (17 R667 to R670); RETIRE as the command; STATUS and UPD_STATUS give their blocks; MANIFEST and
PIECE stage an image set in BLANK and in ROM recovery (17 R697; 18 R718, R734, R735; 21 R821, R822). While a boot holds or hangs a
message is refused with STATE (21 R802; that it is so is the model's choice, log entry 53). -/
def Obligations.WindowsAndMailbox : Prop :=
  (∀ (s : State) (slot : Fin 5), s.powered = true → Completes (.progressLatch slot) s (fun t =>
      t.host.progress = s.host.progress.set slot.val (progressOctets s slot.val)
        ∧ t.out = s.out ++ [.reply ((progressOctets s slot.val).take 8)] ∧ (progressOctets s slot.val).length = 16))
  ∧ (∀ s : State, s.powered = true → Completes .trEntryRead s (fun t =>
      t.out = s.out ++ [.reply (t.host.trLatched.take 8)]
        ∧ (∀ e, trFrom s s.host.trSeek = some e → t.host.trLatched = e.data ∧ t.host.trSeek = BitVec.ofNat 64 (e.seq + 1)
            ∧ e ∈ s.svc.tr ∧ e.seq ≥ s.host.trSeek.toNat ∧ ∀ x ∈ s.svc.tr, x.seq ≥ s.host.trSeek.toNat → e.seq ≤ x.seq)
        ∧ (trFrom s s.host.trSeek = none → t.host.trLatched = zeros 128 ∧ t.host.trSeek = s.host.trSeek)))
  ∧ (∀ (s : State) (n : Nat) (root chain : Octets), MbxReady s → n ≤ 131072 → s.sec.life = .blank → SMap.wf none s.sec.slots = true →
      s.bundleKeys (s.mbxInput n) = .ok (root, chain) → ∃ u, MbxDone (.provision 8 (mbxCmd 1 n)) s u 0 []
        ∧ u.sec.life = .provisioned ∧ u.key 8 = some ⟨.pub, 0, 0, keyIdOf root, root⟩ ∧ u.key 11 = some ⟨.pub, 0, 0, keyIdOf chain, chain⟩
        ∧ u.key 3 ≠ none ∧ u.key 4 ≠ none ∧ u.sec.loopArmed = true ∧ u.power.st = .p2 ∧ u.power.reasons.getLsbD 0 = true
        ∧ u.sec.devCert = (bundleCerts (s.mbxInput n)).2.2)
  ∧ (∀ (s : State) (n : Nat), MbxReady s → n ≤ 131072 → s.retireBad (s.mbxInput n) = none →
      ∃ u, MbxDone (.mailboxRetire 8 (mbxCmd 2 n)) s u 0 [] ∧ u.sec.life = .retired ∧ u.sec.slots = [])
  ∧ (∀ (s : State) (n : Nat), MbxReady s → n ≤ 131072 →
      MbxDone (.mailboxStatus 8 (mbxCmd 3 n)) s s 0 (statusBlock s)
      ∧ (s.mailboxUpdates = true → MbxDone (.mailboxUpdStatus 8 (mbxCmd 6 n)) s s 0 (updStatusBlock s)
          ∧ (∀ x, (s.inService = true ∨ s.sec.life = .blank) → s.upd.session = none → s.checkManifest (s.mbxInput n) 0 = .ok x →
              ∃ u y, MbxDone (.mailboxManifest 8 (mbxCmd 4 n)) s u 0 [] ∧ u.upd.session = some y ∧ y.digest = x.digest ∧ y.st = .staging)
          ∧ (∀ x, let r := s.mbxInput n
              let key := 65536 * fieldAt r 4 1 + fieldAt r 8 4
              s.sessionOf (slice r 16 16) = some x → x.st = .staging → x.headerOk r = true → x.holds key = false →
              x.openPiece key (r.drop 32) ≠ none → ∃ u y, MbxDone (.mailboxPiece 8 (mbxCmd 5 n)) s u 0 []
                ∧ u.upd.session = some y ∧ y.pieces = x.pieces.set none key (some (r.drop 32)))))
  ∧ (∀ (s : State) (n : Nat), s.powered = true → s.bootDone = false → s.svc.stage ≠ .recovery → n ≤ 131072 →
      ∀ i ∈ [Instr.provision 8 (mbxCmd 1 n), .mailboxRetire 8 (mbxCmd 2 n), .mailboxStatus 8 (mbxCmd 3 n), .mailboxManifest 8 (mbxCmd 4 n),
          .mailboxPiece 8 (mbxCmd 5 n), .mailboxUpdStatus 8 (mbxCmd 6 n)], Completes i s (fun t =>
        t.host.setup = ⟨true, min (s.host.setup.count + 1) 65535, 3, 0x10000⟩ ∧ t.host.mbx = s.host.mbx ∧ t.sec = s.sec ∧ t.upd = s.upd))

/-! ### Debug port, SMBus, regulator port -/

/-- The debug port. An accepted token grants its level for its time and a refused one counts; either way the challenge is renewed
(17 R680, R681), with octets of the service instance where it is instantiated (16 R631; log entry 106). The level ends when its time
is over and while TRST_N is held, with its halts and breakpoints (17 R682). A halt is requested in D2 of a PROVISIONED device and
released at once (17 R683). An access of a granted level reads or writes what it names; one above the level does nothing (17 R679).
A setup register is read in 4 or 8 aligned octets (21 R801). What a trace and the scans show, and in which form, is the model's
choice (log entry 54). -/
def Obligations.DebugPort : Prop :=
  (∀ (s : State) (k : Octets), k.length = 224 → s.power.st ≠ .p4 → s.sec.trstLow = false →
      (s.tokenBad k = false → Completes (.debugToken k) s (fun t =>
        t.sec = { s.sec with dbgLevel := fieldAt k 2 1, dbgLeft := fieldAt k 4 4, dbgSince := s.t.clock, challenge := s.nonce32.1 }))
      ∧ (s.tokenBad k = true → Completes (.debugToken k) s (fun t =>
          t.sec = { s.sec with refusals := min (s.sec.refusals + 1) 255, challenge := s.nonce32.1 })))
  ∧ (∀ s : State, s.power.st ≠ .p4 → exec .challengeRenewal s
      = .next { s.nonce32.2 with sec := { s.sec with challenge := s.nonce32.1 } })
  ∧ (∀ s : State, s.sec.dbgLevel ≠ 0 → s.t.clock ≥ s.sec.dbgSince + 2000000000 * s.sec.dbgLeft → Completes .debugExpiry s (fun t =>
      t.sec = { s.sec with dbgLevel := 0, dbgLeft := 0, dbgSince := 0, breaks := [] }
        ∧ ∀ c, t.core c = { s.core c with haltReq := false, halted := false, step := false }))
  ∧ (∀ s : State, exec (.trstN false) s = .next { s with sec := { s.sec with trstLow := false } }
      ∧ Completes (.trstN true) s (fun t =>
        t.sec = { s.sec with trstLow := true, dbgLevel := 0, dbgLeft := 0, dbgSince := 0, breaks := [] }
          ∧ ∀ c, (t.core c).halted = false ∧ (t.core c).haltReq = false))
  ∧ (∀ (s : State) (c : CoreId),
      (s.mayHalt = true → Completes (.debugHalt c) s (fun t =>
        t.core c = { s.core c with haltReq := true } ∧ ∀ c', c' ≠ c → t.core c' = s.core c'))
      ∧ (s.debugCap ≥ 2 → Completes (.debugHaltRelease c) s (fun t =>
          t.core c = { s.core c with haltReq := false, halted := false, step := false } ∧ ∀ c', c' ≠ c → t.core c' = s.core c')))
  ∧ (∀ s : State, s.power.st ≠ .p4 → s.sec.trstLow = false →
      Answers (.debugAccess .challenge) s s.sec.challenge
      ∧ (∀ op, s.debugCap < debugLevelOf op → exec (.debugAccess op) s = .next s)
      ∧ (∀ (off : BitVec 20) (w : Nat), s.debugCap ≥ 1 → (w = 4 ∨ w = 8) → off.toNat % w = 0 →
          Answers (.debugAccess (.readSetup off w)) s (slice (leBytes 8 (s.setupReg (off.toNat / 8 * 8)).toNat) (off.toNat % 8) w))
      ∧ (∀ c : CoreId, s.debugCap ≥ 1 → Answers (.debugAccess (.trace c)) s (s.traceOctets c))
      ∧ (s.debugCap ≥ 3 → Answers (.debugAccess .scanLve) s s.lve.scan ∧ Answers (.debugAccess .scanMover) s s.mover.scan
          ∧ ∀ c : CoreId, (s.core c).quietForDebug = true → Answers (.debugAccess (.scanCore c)) s (s.core c).scan)
      ∧ (∀ (c : CoreId) (g : Nat), s.debugCap ≥ 2 → (s.core c).quietForDebug = true → g < 32768 →
          Answers (.debugAccess (.readBench c g)) s (tvalOctets (s.gran c (16 * g))))
      ∧ (∀ (c : CoreId) (addr : W32), s.debugCap ≥ 2 → Completes (.debugAccess (.setBreak c addr)) s (fun t =>
          (c, addr) ∈ t.sec.breaks ∧ t.cores = s.cores ∧ t.out = s.out))
      ∧ (∀ (c : CoreId) (addr : W32), s.debugCap ≥ 2 →
          exec (.debugAccess (.clearBreak c addr)) s = .next { s with sec := { s.sec with breaks := s.sec.breaks.erase (c, addr) } })
      ∧ (∀ c : CoreId, s.debugCap ≥ 2 → (s.core c).halted = true → Completes (.debugAccess (.step c)) s (fun t =>
          t.core c = { s.core c with step := true } ∧ ∀ c', c' ≠ c → t.core c' = s.core c'))
      ∧ (∀ g : Nat, s.debugCap ≥ 2 → isBay (0x10000000 + 16 * g) = true →
          Answers (.debugAccess (.readBay g)) s (tvalOctets (s.gran 0 (0x10000000 + 16 * g))))
      ∧ (∀ (c : CoreId) (a : Nat), s.debugCap ≥ 3 → a < 24576 →
          Answers (.debugAccess (.readMicro c a)) s (leBytes 4 (s.microword c a).toNat))
      ∧ (∀ (g : Nat) (tag : BitVec 4) (v : Payload), s.debugCap ≥ 3 → isBay (0x10000000 + 16 * g) = true → s.memWf →
          Completes (.debugAccess (.writeBay g tag v)) s (fun t =>
            (∀ c, t.gran c (0x10000000 + 16 * g) = ⟨tag, v⟩)
              ∧ ∀ c a, a / 16 ≠ (0x10000000 + 16 * g) / 16 → t.gran c a = s.gran c a)))

/-- The management port, answered in P0 to P3: each read gives the block of its command, and those of the sensors read as zero
in P3 (19 R749, R751, R752, R759). A write with a valid PEC has its effect: an alert cleared, the seek point set, a re-level
asked for, and WAKE in P3 with VIN48 present resets the blocks and starts a boot, which holds while REFCLK or a warm die is
missing; without one it is refused with a NACK (19 R737, R741, R746, R751; 20 R770, R796). Days not yet projected are a free
value (log entry 52). -/
def Obligations.ManagementPort : Prop :=
  (∀ s : State, s.power.st ≠ .p4 →
      (∀ p ∈ [(Instr.smbStatus, [octet s.sec.life.code, octet s.power.st.code, octet s.power.reasons.toNat, octet s.sec.dbgLevel]
            ++ leBytes 4 s.svc.bootCount),
          (Instr.smbAlertRead, leBytes 4 s.svc.alerts.toNat), (Instr.smbVcore, leBytes 2 s.svc.vcore ++ leBytes 2 860),
          (Instr.smbAge, leBytes 4 (s.svc.seconds / 3600) ++ leBytes 4 (s.svc.days.getD (Config.freeValue 59 s.freeCtr))
            ++ leBytes 4 (if s.svc.due then 0 else cdiv (s.svc.lastRelevel + 3600000 - s.svc.seconds) 3600)),
          (Instr.smbRelevelProg, leBytes 12 (relevelProg s)),
          (Instr.trInfo, leBytes 8 (trNewest s) ++ leBytes 8 (trOldest s) ++ leBytes 4 (trPinCount s) ++ leBytes 4 s.svc.trLost)],
        Answers p.1 s p.2)
      ∧ (∀ (a b : W16) (x y : W32), ∀ p ∈ [(Instr.smbTemp a b, leBytes 2 a.toNat ++ leBytes 2 b.toNat),
            (Instr.smbPower x y, leBytes 4 x.toNat ++ leBytes 4 y.toNat), (Instr.smbMargin, leBytes 2 s.svc.margin ++ leBytes 2 s.svc.lowest)],
          Answers p.1 s (if s.power.st = .p3 then List.replicate p.2.length 0 else p.2))
      ∧ Completes .trRead s (fun t => ∃ o, t.out = s.out ++ [.reply o]
          ∧ (∀ e, trFrom s s.svc.smbSeek = some e → o = e.data ∧ t.svc = { s.svc with smbSeek := BitVec.ofNat 64 (e.seq + 1) })
          ∧ (trFrom s s.svc.smbSeek = none → o = zeros 128 ∧ t.svc = s.svc)))
  ∧ (∀ s : State, s.power.st ≠ .p4 →
      (∀ (v : W32), exec (.smbAlertWrite v true) s = .next { s with svc := { s.svc with alerts := s.svc.alerts &&& ~~~ (v.setWidth 7) } })
      ∧ (∀ (v : W64), exec (.trSeek v true) s = .next { s with svc := { s.svc with smbSeek := v } })
      ∧ exec (.relevel true) s = .next { s with svc := { s.svc with requested := true } }
      ∧ (∀ (v : W32) (w : W64) (e : BootEnv), ∀ i ∈ [Instr.smbAlertWrite v false, Instr.trSeek w false, Instr.relevel false, Instr.wake false e],
          exec i s = .next (s.emit .nack)))
  ∧ (∀ (s : State) (e : BootEnv), s.power.st = .p3 → s.power.vin48 = true →
      ((e.refclk = false ∨ e.dieWarm = false) → Completes (.wake true e) s (fun t => t.svc.stage = .waitEnv ∧ t.power.st = .p2))
      ∧ (let s' := s.resetBlocks.tamperSample e.lidOpen e.ohms true
         WillBoot s' e → Completes (.wake true e) s (fun t => BootedFrom s' t .vin48)))

/-- The regulator port. A command in a frame for this device that passes the checks has its CSEQ stored and is acknowledged with
result 0 before its effect; one that fails a check is acknowledged with it and changes nothing else (16 R649, R650, R652, R653).
FREEZE sets FROZEN and pauses data admission at once, RESUME clears FROZEN (16 R654; 01 R27). ATTEST_NOW sends a report and replays
the trouble record; a heartbeat and a periodic report are one frame each; with the link's return the messages that waited, the
trouble record and a report are sent (16 R650, R651, R654). -/
def Obligations.RegulatorPort : Prop :=
  (∀ (s : State) (frame : Octets), let body := frame.drop 38
      let acked := fun t : State => t.reg.lastCseq = fieldAt body 8 8
        ∧ Sent s t (.regFrame (regEth s) (regPayload s 1 ([body.getD 0 0, 0, 0, 0] ++ slice body 8 8)))
      (RegAccepts s 16 frame → Completes (.freeze frame) s (fun t =>
        t.reg.frozen = true ∧ t.adm.paused = s.adm.paused ||| 1 ∧ acked t))
      ∧ (RegAccepts s 17 frame → Completes (.resume frame) s (fun t =>
          t.reg.frozen = false ∧ t.adm.paused = s.adm.paused ∧ acked t))
      ∧ (RegAccepts s 18 frame → Completes (.attestNow frame) s (fun t =>
          t.reg.frozen = s.reg.frozen ∧ acked t ∧ t.reg.seqOut = s.reg.seqOut + 2 + s.svc.tr.length))
      ∧ (∀ p ∈ [(16, Instr.freeze frame), (17, Instr.resume frame), (18, Instr.attestNow frame)],
          s.portPowered = true → s.reg.up = true → s.regHears frame = true → isCommand p.1 (frame.drop 14) = true →
          s.regResult p.1 (frame.drop 14) ≠ 0 → exec p.2 s = .next (s.regAck body (s.regResult p.1 (frame.drop 14)))))
  ∧ (∀ s : State, s.portPowered = true → s.reg.up = true →
      Completes .heartbeat s (fun t => t.reg.seqOut = s.reg.seqOut + 1 ∧ t.reg.since = [] ∧ t.reg.first = s.reg.seqOut + 2
        ∧ ∃ b sig, t.out = s.out ++ [.regFrame (regEth s) (regPayload s 7 (b ++ sig))] ∧ b = heartbeatBody s ∧ sig = s.sign 1 b)
      ∧ Completes .periodicAttestReport s (fun t => t.reg.seqOut = s.reg.seqOut + 1
          ∧ ∃ p, t.out = s.out ++ [.regFrame (regEth s) p] ∧ fieldAt p 1 1 = 6))
  ∧ (∀ s : State, s.portPowered = true → s.reg.up = false → Completes .regLinkUp s (fun t =>
      t.reg.up = true ∧ t.reg.held = [] ∧ t.reg.seqOut = s.reg.seqOut + (s.reg.held.filter s.stillHeld).length + s.svc.tr.length + 1))
  ∧ (∀ s : State, exec .regLinkDown s = .next { s with reg := { s.reg with up := false } })

/-! ### The scribe and the chain -/

/-- The journal's own rows. LEAF_WRITE puts the next leaf into the open segment, marks it written and sends it to the witnesses (14
R546, R557, R564); with no leaf to write it changes nothing. WITNESS_DEADLINE decides every own sealed span of the spans before: one
that was not decided is QUORUM_SHORT, and its completions no longer wait (14 R567, R568). While a span is QUORUM_SHORT, or a witness
has asked, BACKFILL sends each witness that has a route the next sealed span of its stream, in span order, and the stream goes on
behind it: its leaves, then its header, with FLAGS.RESENT (14 R566, R571, R596). -/
def Obligations.JournalRows : Prop :=
  (∀ s : State,
      (∀ (g : Segment) (i : Nat) (l : Leaf) (q : List Leaf), s.ownOpen = some g → markWritten 0 s.scribe.leaves = some (i, l, q) →
        SMap.wf none g.leaves = true → l.written = false ∧ s.scribe.leaves[i]? = some l ∧ q = s.scribe.leaves.set i { l with written := true }
          ∧ Completes .leafWrite s (fun t => ∃ u : State, t = (u.toWitnesses (recordEntry s.t.span i 1 l.data)).journalCheck
              ∧ u = { s with scribe := { s.scribe with leaves := q, segments := u.scribe.segments } }
              ∧ ∃ g' ∈ u.scribe.segments, g'.own = true ∧ g'.span = s.t.span ∧ g'.leaves.get none i = some l.data
                  ∧ g'.blocks = g.blocks + (l.data.length + 63) / 64))
      ∧ (markWritten 0 s.scribe.leaves = none → exec .leafWrite s = .next s))
  ∧ (∀ s : State, (s.t.phase = .post ∨ s.t.phase = .plate) → Completes .witnessDeadline s (fun t =>
      (∀ g ∈ t.scribe.segments, g.own = true → g.header ≠ none → g.span < s.t.span → g.decided = true)
        ∧ (∀ g ∈ s.scribe.segments, g.own = true → g.header ≠ none → g.decided = false → g.span < s.t.span → g.span ≠ 0 →
            t.chain.shortSpan ≠ 0 ∧ (∀ c ∈ t.host.waiting, c.span ≠ g.span)
              ∧ ∃ x ∈ t.scribe.segments, x.own = true ∧ x.span = g.span ∧ x.short = true)))
  ∧ (∀ (s : State) (w n : Nat) (g : Segment) (h : Octets) (l : List Segment), s.backfillFrom w = some n → s.route w ≠ none →
      s.sealedFrom n = g :: l → g.header = some h → SMap.wf 0 s.chain.backfill = true →
      (s.chain.cfg.witness = [w] →
        let leaves := g.leaves.foldl (fun v p => v.sendTo w 2 1 (recordEntry g.span p.1 1 (p.2.getD []))) s
        let u := leaves.sendTo w 2 1 (recordEntry g.span 0 2 h)
        exec .backfill s = .next { u with chain := { u.chain with backfill := u.chain.backfill.set 0 w (g.span + 1) } })
      ∧ (w ∈ s.chain.cfg.witness → s.chain.cfg.witness.Nodup → Completes .backfill s (fun t =>
          t.chain.backfill.get 0 w = g.span + 1 ∧ t.scribe = s.scribe ∧ t.chain.shortSpan = s.chain.shortSpan)))

/-- The messages between source and witness, as a port takes them in. A leaf of a span this device witnesses is kept (14 R565); a
header that passes every check makes its source's last held (14 R565); a valid acknowledgement of a sealed span counts for its
witness (14 R567, R570); NAK and CATCHUP are answered from the hot journal (14 R566, R596); ECHO is returned unchanged (14 R581).
The latency check. A round trip within k × 440,625 − 16,000 cycles goes on with the next of 256 ECHO frames, the largest so far
kept; a larger one ends the check of a command with CHAIN_FAULT, reason 1 and the port (14 R590, R597). Every 4,096 spans the check
is made for the witness list (14 R590). The model's readings: COUNT as the result where fewer leaves are held, and what a refused
span drops (log entry 64); when the periodic check comes (log entry 104). -/
def Obligations.WitnessMessages : Prop :=
  ((∀ (s u : State) (f : RxFrame) (b : Octets) (span leaf : Nat) (data : Octets) (g : Segment), TakenIn 2 f s u b →
          u.servesSource f.hdr.src.toNat = true → recordEntries 256 b = [(span, leaf, 1, data)] →
          u.witnessed f.hdr.src.toNat span = some g → g.header = none → g.waiting = [] → SMap.wf none g.leaves = true →
          g.leaves.get none leaf = none → Completes (.witnessRecord f) s (fun t =>
            ∃ x ∈ t.scribe.segments, x.own = false ∧ x.source = f.hdr.src.toNat ∧ x.span = span ∧ x.leaves.get none leaf = some data))
      ∧ (∀ (s u : State) (f : RxFrame) (b h : Octets) (span leaf : Nat) (g : Segment), TakenIn 2 f s u b →
          u.servesSource f.hdr.src.toNat = true → recordEntries 256 b = [(span, leaf, 2, h)] → h.length = 288 →
          u.witnessed f.hdr.src.toNat span = some g → g.header = none → fieldAt h 16 4 ≤ g.leaves.length → u.headerResult g h = 0 →
          SMap.wf none u.chain.srcHeld = true → Completes (.witnessRecord f) s (fun t =>
            t.chain.srcHeld.get none f.hdr.src.toNat = some h))
      ∧ (∀ (s u : State) (f : RxFrame) (b : Octets) (g : Segment), TakenIn 3 f s u b → b.length = 160 →
          u.scribe.segments.find? (fun g => g.own && g.header.isSome && g.span == fieldAt b 0 6) = some g →
          fieldAt b 6 1 = u.chain.cfg.device → fieldAt b 7 1 = 0 → f.hdr.src.toNat ∈ u.chain.cfg.witness → slice b 16 32 = sha256 (g.header.getD []) →
          (∀ k, u.chain.peers.get none f.hdr.src.toNat = some k → sigOk k.1 (slice b 0 64) (slice b 64 96) = true) →
          u.chain.peers.get none f.hdr.src.toNat ≠ none → Completes (.witnessAcknowledgement f) s (fun t =>
            ∃ x ∈ t.scribe.segments, x.own = true ∧ x.span = fieldAt b 0 6 ∧ f.hdr.src.toNat ∈ x.acked))
      ∧ (∀ (s u : State) (f : RxFrame) (b : Octets) (g : Segment), CtlTaken 3 f s u b → fieldAt b 1 1 = u.chain.cfg.device →
          u.scribe.segments.find? (fun g => g.own && g.span == fieldAt b 4 6) = some g → Completes (.nak f) s (fun t =>
            t = (g.leaves.filter (fun p => fieldAt b 10 3 ≤ p.1 && p.1 ≤ fieldAt b 13 3)).foldl
              (fun v p => v.sendTo f.hdr.src.toNat 2 1 (recordEntry g.span p.1 1 (p.2.getD []))) u))
      ∧ (∀ (s u : State) (f : RxFrame) (b : Octets), CtlTaken 4 f s u b → fieldAt b 1 1 = u.chain.cfg.device →
          f.hdr.src.toNat ∈ u.chain.cfg.witness → SMap.wf 0 u.chain.backfill = true → SMap.wf 0 u.chain.resend = true →
          Completes (.catchup f) s (fun t => t.chain.backfill.get 0 f.hdr.src.toNat = max 1 (fieldAt b 4 6)
            ∧ t.chain.resend.get 0 f.hdr.src.toNat = max 1 (fieldAt b 4 6)))
      ∧ (∀ (s u : State) (f : RxFrame) (b : Octets), CtlTaken 1 f s u b →
          Completes (.echo f) s (fun t => t = u.sendTo f.hdr.src.toNat 1 0 (2 :: b.drop 1))))
  ∧ ((∀ (s u : State) (f : RxFrame) (b : Octets) (l : LatCheck), CtlTaken 2 f s u b → u.chain.latency = some l → f.hdr.src.toNat = l.current →
          fieldAt b 4 4 = l.left →
          (u.t.clock - l.sentAt ≤ u.t.k * 440625 - 16000 → l.left > 1 → Completes (.echoReply f) s (fun t => ∃ x,
            t.chain.latency = some x ∧ x.left = l.left - 1 ∧ x.current = l.current ∧ x.todo = l.todo ∧ x.sentAt = s.t.clock
              ∧ x.worst = max l.worst (u.t.clock - l.sentAt)))
          ∧ (∀ d, u.t.clock - l.sentAt > u.t.k * 440625 - 16000 → l.order = some d → Completes (.echoReply f) s (fun t =>
              t = ({ u with chain := { u.chain with latency := none } } : State).complete (cmdCpl d 0x40 f.port.val 0 1) ∧ t.chain.latency = none)))
      ∧ (∀ (s : State) (w : Nat) (r : List Nat), s.chain.latency = none → s.chain.cfg.witness = w :: r →
          s.unrouted s.chain.cfg (w :: r) = none → s.overPaired s.chain.cfg (w :: r) = none → s.chain.checkAt ≤ s.t.span →
          Completes .periodicLatencyCheck s (fun t => t.chain.checkAt = s.t.span + 4096 ∧ t.chain.latency = some ⟨none, s.chain.cfg, w :: r, s.chain.cfg.quorum, 256, w, r, s.t.clock, 0, 0⟩)))

/-- The chain ports. A link that goes down takes its port down; one that comes up on an enabled port, and a refused port's new try
256 spans on, leads through TRAINING to ATTESTING (14 R591, R593, R594), where the service instance gives the HELLO's nonce and key;
without it the port stays TRAINING (16 R629, R631; log entry 106). While no valid HELLO is held it is sent again (14 R592). A HELLO
with a zero tag and a SEQ above the last of its lane (14 R577) that attests its sender makes the port MEMBER, with the link keys of
both directions; one of another chain or span length is refused with reason 3, one of this device's own identifier with 4, one that
does not attest with 5, and tried again 256 spans on (14 R591 to R594, R599). One with another tag, or with a SEQ not above it, is
discarded (14 R577). A paused lane keeps its frames, and they go out in order when it is released (14 R575). A frame's DA before the
HELLO that tells it is free (log entry 104). -/
def Obligations.ChainPorts : Prop :=
  (∀ (s : State) (p : Port),
      let begun := fun t : State => (t.port p).helloOk = (if s.ds.service = none then (s.port p).helloOk else false)
        ∧ (t.port p).st = (if s.ds.service = none then .training else .attesting)
      Completes (.portLinkChange p false) s (fun t => (t.port p).st = .down ∧ (t.port p).linkUp = false)
      ∧ (s.portEnabled p = true → ((s.port p).st = .down ∨ (s.port p).st = .refused) →
          Completes (.portLinkChange p true) s (fun t => begun t ∧ (t.port p).linkUp = true))
      ∧ ((s.port p).st = .refused → (s.port p).linkUp = true → s.t.span ≥ (s.port p).retryAt → Completes (.portRetry p) s begun)
      ∧ ((s.port p).st = .attesting → (s.port p).helloOk = false → (s.port p).paused.getD 3 false = false →
          Completes (.helloResend p) s (fun t => ∃ eth h b tag, t.out = s.out ++ [.frame p eth h b tag] ∧ h.cls = 6
            ∧ (t.port p).st = .attesting)))
  ∧ (∀ (s : State) (f : RxFrame) (h : Hello), f.hdr.cls = 6 → (s.port f.port).st = .attesting → s.frameGood f = true → f.hdr.ver = 1 →
      f.tag = zeros 16 → (s.port f.port).seqLane.getD 3 0 < f.hdr.seq.toNat → helloOf f.body = some h →
      let refused := fun n : Nat => Completes (.hello f) s (fun t =>
        (t.port f.port).st = .refused ∧ (t.port f.port).reason = n ∧ (t.port f.port).retryAt = s.t.span + 256)
      let fits := f.hdr.chainId = s.chain.cfg.chainId ∧ f.hdr.spanLen.toNat = s.t.k
      (∀ z, fits → f.hdr.src.toNat ≠ s.chain.cfg.device → s.helloGood h = true →
        ecdh (s.port f.port).ephPriv h.ephPub = some z → Completes (.hello f) s (fun t =>
          let me := s.chain.cfg.device
          let peer := f.hdr.src.toNat
          let mine := (s.port f.port).nonce
          let key := linkKey z (if me < peer then mine else h.nonce) (if me < peer then h.nonce else mine)
          (t.port f.port).st = .member ∧ (t.port f.port).peer = peer ∧ (t.port f.port).helloOk = true ∧ (t.port f.port).reason = 0
            ∧ (t.port f.port).sendKey = key me peer ∧ (t.port f.port).recvKey = key peer me))
      ∧ (¬ fits → refused 3)
      ∧ (fits → f.hdr.src.toNat = s.chain.cfg.device → refused 4)
      ∧ (fits → f.hdr.src.toNat ≠ s.chain.cfg.device → s.helloGood h = false → refused 5))
  ∧ (∀ (s : State) (f : RxFrame), f.hdr.cls = 6 → (s.port f.port).st = .attesting →
      (f.tag ≠ zeros 16 ∨ f.hdr.seq.toNat ≤ (s.port f.port).seqLane.getD 3 0) →
      exec (.hello f) s = .next (s.modPort f.port (fun q => { q with discards := q.discards + 1 })))
  ∧ (∀ (s : State) (p : Port) (lane : Lane), lane ≠ .control →
      let mine := (s.port p).txq.filter (fun x => laneOf x.cls x.body == laneNum lane)
      exec (.pauseFrame p lane true) s
          = .next (s.modPort p (fun q => { q with paused := (s.port p).paused.set (laneNum lane) true }))
      ∧ (∃ u : State, exec (.pauseFrame p lane false) s = .next (mine.foldl (fun v x => v.sendOn p x) u)
          ∧ u.port p = { s.port p with
              paused := (s.port p).paused.set (laneNum lane) false
              txq := (s.port p).txq.filter (fun x => laneOf x.cls x.body != laneNum lane) }
          ∧ u.out = s.out ∧ ∀ q, q ≠ p → u.port q = s.port q)
      ∧ ((s.port p).st = .member → Completes (.pauseFrame p lane false) s (fun t => t.out.length = s.out.length + mine.length
          ∧ ∀ x ∈ (t.port p).txq, laneOf x.cls x.body ≠ laneNum lane)))

/-! ### Field update over the chain -/

/-- The coordinator and its participants before the switch. A participant with the INSTALLED session writes PREPARED and answers
READY; READY and REFUSE are noted by the coordinator, which sends PREPARE again every 8 spans to those that have not answered (18
R722). At S − 32 it writes COMMIT with S if every participant is READY, otherwise ABORT, and sends the decision (18 R722). A CONFIRM
of the coordinator that could be decided at the present step is applied, FALLBACK also by one that is PREPARED (18 R721, R724, R728,
R729). QUERY is answered with the decision recorded, and sent every 64 spans while one is waited for (18 R721). From S − 2 a device
with COMMIT holds the UPDATE reason, and restarts after the seal of S; a participant with PREPARED waits in P2 (18 R722, R724). In
TAMPERED nothing of it is done (17 R678). That the answers and reports of one activation do not outlive it while what waits for a
route does is log entry 88. -/
def Obligations.Activation : Prop :=
  (∀ (s u : State) (f : RxFrame) (b : Octets) (x : Session), CtlTaken 16 f s u b → b.length = 64 → u.upd.session = some x →
      x.digest = slice b 16 48 → x.st = .installed → u.activating = false → u.isCoord = false →
      Completes (.prepare f) s (fun t => ∃ v : State, t = v.sendTo f.hdr.src.toNat 1 0 (actBody 17 0 0 x.digest)
        ∧ (∃ q, v.newestIntent = some ⟨2, 2, q, fieldAt b 4 6, u.upd.active, 0, x.digest⟩)
        ∧ v.upd.act = { Activ.none with lastSent := s.t.span, unsent := u.upd.act.unsent } ∧ v.out = u.out))
  ∧ (∀ (s u : State) (f : RxFrame) (b : Octets) (x : Session), u.isCoord = true → u.actStep = 2 → f.hdr.src.toNat ∈ u.participants x →
      (ActTaken 17 f s u b x → Completes (.ready f) s (fun t => (f.hdr.src.toNat, true) ∈ t.upd.act.answers
          ∧ (f.hdr.src.toNat, false) ∉ t.upd.act.answers))
      ∧ (ActTaken 18 f s u b x → Completes (.refuse f) s (fun t => (f.hdr.src.toNat, false) ∈ t.upd.act.answers
          ∧ (f.hdr.src.toNat, true) ∉ t.upd.act.answers)))
  ∧ (∀ (s : State) (x : Session) (i : Intent), s.upd.session = some x → s.stepOf x = some i → s.actsOnIntents = true →
      (i.step = 2 → s.isCoord = true →
        (s.t.span ≥ s.upd.act.lastSent + 8 → exec .prepareResend s = .next
          ((((s.participants x).filter (fun d => !(s.upd.act.answers.map Prod.fst).contains d)).foldl
            (fun t d => t.sendTo d 1 0 (actBody 16 0 i.span x.digest)) s).modAct (fun a => { a with lastSent := s.t.span })))
        ∧ (s.t.span + 32 ≥ i.span → Completes .activationDecide s (fun t =>
            if (∀ d ∈ s.participants x, (d, true) ∈ s.upd.act.answers) then
              ∃ v : State, t = v.sendConfirm x 1 i.span ∧ ∃ q, v.newestIntent = some ⟨3, 1, q, i.span, s.upd.active, 0, x.digest⟩
            else ∃ v : State, t = (v.sendConfirm x 2 0).modAct Activ.over
              ∧ ∃ q, v.newestIntent = some ⟨4, 1, q, 0, s.upd.active, 0, x.digest⟩)))
      ∧ (s.t.span + 2 ≥ i.span →
          (i.step = 3 → s.upd.act.restartAt = none → Completes .updateHold s (fun t =>
            t.power.reasons.getLsbD 1 = true ∧ t.upd.act.restartAt = some (max i.span (s.t.span + 2))))
          ∧ (i.step = 2 → s.isCoord = false → Completes .updateHold s (fun t =>
            t.power.reasons.getLsbD 1 = true ∧ t.upd = s.upd)))
      ∧ (i.step = 3 → s.sealedFor = true → ∀ e, WillBoot (s.switched x i.span).resetBlocks e →
          Completes (.activationRestart e) s (fun t => BootedFrom (s.switched x i.span).resetBlocks t .activation
            ∧ (∃ j ∈ t.upd.intents, j.step = 5 ∧ j.digest = x.digest) ∧ t.t.run = false)))
  ∧ (∀ (s u : State) (f : RxFrame) (b : Octets) (x : Session) (i : Intent), ActTaken 19 f s u b x → u.stepOf x = some i →
      f.hdr.src.toNat = payloadCoord x.payload → u.isCoord = false → couldDecide i (fieldAt b 1 1) = true →
      Completes (.confirm f) s (fun t => (fieldAt b 1 1 = 1 → t.intentStep = 3) ∧ (fieldAt b 1 1 = 2 → t.intentStep = 4)
        ∧ (fieldAt b 1 1 = 3 → t.intentStep = 10 ∧ t.upd.session = none ∧ t.upd.gen = u.upd.gen + 1)
        ∧ (fieldAt b 1 1 = 4 → FallingBack t)))
  ∧ (∀ (i : Intent), couldDecide i 4 = true ↔ i.step = 2 ∨ i.step = 3 ∨ i.step = 5 ∨ i.step = 6 ∨ i.step = 7)
  ∧ (∀ (s u : State) (f : RxFrame) (b : Octets) (p : Nat × Nat), CtlTaken 21 f s u b → b.length = 64 → u.decisionFor (slice b 16 48) = some p →
      exec (.query f) s = .next (u.sendTo f.hdr.src.toNat 1 0 (actBody 19 p.1 p.2 (slice b 16 48))))
  ∧ (∀ (s : State) (x : Session), s.upd.session = some x → s.awaiting = true → s.actsOnIntents = true → s.t.span ≥ s.upd.act.lastSent + 64 →
      exec .queryTimer s = .next ((s.sendTo (payloadCoord x.payload) 1 0 (actBody 21 0 0 x.digest)).modAct
        (fun a => { a with lastSent := s.t.span })))

/-! ### Cartridge, draws, seals, memory care, tamper, resets -/

/-- The cartridge. With the port running and a nonce of the service instance to authenticate it, a cartridge that comes, or that a
reset has left ATTESTING, is mounted as the checks and the label records it carries decide, and a BOUND one gets its record (15 R610
to R612; 16 R631), after the port's lands are up and the requests of its authentication sent (15 R611; 20 R791; the layout of those
requests is log entry 105); its units' SEQ counts from 1, or goes on from the last unit's (15 R606); otherwise it is ATTESTING.
While BOUND with no append outstanding, a drain unit that is due, of 4,096 octets, is appended to the open zone; its acknowledgement
moves the drain on, and ends a CART_EJECT that waited for it (14 R600, R601; 15 R606 to R608, R625). A cartridge taken out leaves
the port ABSENT with nothing outstanding (15 R622). The draw unit and the seal engine. The bits of the source, which pass the tests,
reseed the instance of the first draw, and the draw ends with the numbers its words select in the result area and an evidence
record; while the unit has no instance it ends without numbers (16 R629, R630, R632, R637 to R642). A failed health test makes the
unit FAILED with no instance and ends every draw waiting (16 R629). A receipt is written at its address and a seal request is
carried out (14 R556; 16 R644, R646): SHA-256 writes the digest of its input. Each unit serves the cores in rotation (16 R644, R647;
that the rotation begins with core 0, and which request counts as there, is log entry 112). -/
def Obligations.CartridgeAndDraws : Prop :=
  ((∀ (s : State) (k : CartInfo), (s.cart.mount = .absent ∨ s.cart.mount = .attesting) →
          ((s.cartOn = false ∨ s.ds.service = none) →
            exec (.cartInsert k) s = .next { s with cart := { s.cart with mount := .attesting } })
          ∧ (∀ nonce u, s.cartOn = true → s.serviceOctets 32 = some (nonce, u) → Completes (.cartInsert k) s (fun t =>
              let m := s.mountOf (cartAuth nonce k) k
              t.cart.mount = m.1 ∧ t.cart.leafCert = leafOf k ∧ t.cart.serial = Config.x509Serial (leafOf k) ∧ t.cart.unit = none
                ∧ t.cart.lbas = k.dataLbas ∧ t.ds.service = u.ds.service
                ∧ t.cart.nextSeq = (if k.dataLbas = 0 then 1 else fieldAt k.lastUnit 8 8 + 1)
                ∧ ∃ more, t.out = s.out ++ [.cartLand .cpwren true, .cartLand .crefclk true, .cartLand .cperstN true]
                    ++ (cartRequests nonce k).map .cartSpdm ++ more
                  ∧ (∀ n, m = (.bound, some n) → t.cart.labels = k.labels.length + 1
                      ∧ ∃ x rest, more = .cartAppend 0 x :: rest ∧ x.length = 4096)
                  ∧ (m.1 ≠ .bound → t.cart.labels = k.labels.length))))
      ∧ (∀ (s : State) (u : DrainUnit), s.cartOn = true → s.cart.mount = .bound → s.cart.unit = none → s.nextUnit = some u →
          (unitOctets s u).length = 4096 ∧ Completes .drainUnitWrite s (fun t =>
            Sent s t (.cartAppend (1 + s.cart.lbas / 262144) (unitOctets s u)) ∧ t.cart.unit = some u ∧ t.cart.lbas = s.cart.lbas + 1
              ∧ t.cart.nextSeq = s.cart.nextSeq + 1 ∧ t.cart.mount = (if s.cart.lbas + 1 ≥ 3906207744 then .archive else .bound)
              ∧ t.cart.nextPos = s.cart.nextPos
              ∧ t.cart.late = (if u.kind = 1 then s.cart.late.filter (fun x => x.1 < u.pos) else s.cart.late)
              ∧ t.cart.reach = (if u.kind = 1 then max s.cart.reach (u.pos + u.count) else s.cart.reach)))
      ∧ (∀ (s : State) (u : DrainUnit), s.cart.unit = some u →
          let nextPos := if u.kind = 1 then max s.cart.nextPos (u.pos + u.count) else s.cart.nextPos
          let segments := s.scribe.segments.map (fun g => if g.header.isSome then { g with drained := min g.blocks (nextPos - g.start) } else g)
          (s.cart.mount ≠ .ejecting → Completes .drainUnitAck s (fun t => t.scribe.segments = segments ∧ t.cart = { s.cart with
            unit := none, nextPos := nextPos
            late := if u.kind = 2 then s.cart.late.filter (fun x => x.1 != u.pos) else s.cart.late }))
          ∧ (∀ d, s.cart.mount = .ejecting → s.devCmd 41 = some d → Completes .drainUnitAck s (fun t => t.scribe.segments = segments
              ∧ t.cart.mount = .safe ∧ t.cart.unit = none ∧ t.cart.nextPos = nextPos
              ∧ ∃ v : State, t = v.complete (cmdCpl d 0 0 0 0) ∧ ∃ x, Sent s v (.cartAppend 0 x))))
      ∧ (∀ s : State, s.cart.mount ≠ .absent → Completes .cartRemove s (fun t =>
          t.cart = { s.cart with mount := .absent, unit := none, boundDev := 0, zoneOpen := false })))
  ∧ ((∀ (s : State) (r : EngReq) (l : List EngReq) (raw : List Bool), s.ds.draws = r :: l →
          (∀ d m h status nums rejects, s.ds.inst = some d → s.ds.st ≠ .failed → 2048 ≤ raw.length →
            feed s.ds.mon s.ds.health raw = (m, h, none) →
            let n := raw.length / 2
            drawFrom (d.reseed (entropyInput (raw.take n) (raw.drop n))) r.block = some (status, nums, rejects) →
            let out := fieldAt r.block 24 4
            Completes (.drawDone raw) s (fun t => t.ds.draws = l ∧ t.ds.done = s.ds.done + 1 ∧ t.ds.reseeds = s.ds.reseeds + 1
              ∧ t.ds.st = s.ds.st ∧ t.ds.mon = m ∧ t.ds.health = h
              ∧ t.scribe.leaves.length + t.scribe.carried.length = s.scribe.leaves.length + s.scribe.carried.length + 1
              ∧ (s.memWf → (∀ b, (s.bank r.core b).st ≠ .blocked) → out + 160 ≤ 0x80000 → EngineMay s r.core out 160 → (r.addr.toNat + 3 < out ∨ out + 160 ≤ r.addr.toNat + 3) →
                  t.octets r.core out 128 = numbersOctets (if status = 1 then nums else []))))
          ∧ (s.ds.inst = none → Completes (.drawDone raw) s (fun t => t.ds.draws = l ∧ t.ds.done = s.ds.done + 1
              ∧ t.ds.reseeds = s.ds.reseeds ∧ t.ds.st = s.ds.st)))
      ∧ (∀ (low m : Nat) (distinct : Bool) (words : List W32) (n : Nat) (nums : List Nat) (rejects : Nat),
          select low m distinct words n 0 0 [] = some (1, nums, rejects) →
          nums.length = n ∧ (∀ x ∈ nums, low ≤ x ∧ x < low + m) ∧ (distinct = true → nums.Nodup))
      ∧ (∀ (s : State) (raw : List Bool) (m : EntropyMon) (h : W32) (test : Nat), s.ds.st ≠ .failed →
          feed s.ds.mon s.ds.health raw = (m, h, some test) → Completes (.entropyFail raw) s (fun t =>
            t.ds.st = .failed ∧ t.ds.health = h ∧ t.ds.inst = none ∧ t.ds.service = none ∧ t.ds.draws = []
              ∧ t.ds.done = s.ds.done + s.ds.draws.length))
      ∧ (∀ (s : State) (c : CoreId) (b : BankId) (t0 : Nat) (r : RcptReq), s.nextReceipt = some (t0, r) → r.core = c → r.bank = b →
          Completes (.receiptDone c b) s (fun t => t.ds.rcpts = s.ds.rcpts.erase r ∧ t.ds.rcptFree = t0 + 2 ∧ t.ds.rcptLast = c
            ∧ (s.memWf → r.addr.toNat + 32 ≤ 0x80000 →
                (EngineMay s c r.addr.toNat 32 → t.octets c r.addr.toNat 32 = receiptOctets s r)
                ∧ (∀ a, (a < r.addr.toNat ∨ r.addr.toNat + 32 ≤ a) → t.byte c a = s.byte c a))))
      ∧ (∀ (s : State) (t0 : Nat) (r : RcptReq), s.nextReceipt = some (t0, r) →
          r ∈ s.ds.rcpts ∧ r.at_ ≤ t0 ∧ s.ds.rcptFree ≤ t0
            ∧ ∀ y ∈ s.ds.rcpts, y.at_ ≤ t0 → (r.core.val + 63 - s.ds.rcptLast.val) % 64 ≤ (y.core.val + 63 - s.ds.rcptLast.val) % 64)
      ∧ (∀ (s : State) (t0 : Nat) (r : EngReq), s.nextBulk = some (t0, r) →
          r ∈ s.ds.seals ∧ fieldAt r.block 0 1 ≤ 5 ∧ r.at_ ≤ t0 ∧ s.ds.sealFree ≤ t0
            ∧ (∀ y ∈ s.ds.seals, fieldAt y.block 0 1 ≤ 5 → y.at_ ≤ t0 →
                (r.core.val + 63 - s.ds.sealLast.val) % 64 ≤ (y.core.val + 63 - s.ds.sealLast.val) % 64)
            ∧ (s.ds.seals.find? (fun y => y.core == r.core && y.bank == r.bank) = some r → s.sealServed r.core r.bank = some r))
      ∧ (∀ (s : State) (c : CoreId) (b : BankId) (r : EngReq) (errs : Errs), s.sealServed c b = some r →
          (fieldAt r.block 0 1 ≠ 4 ∨ r.keyOk = false ∨ s.ds.service ≠ none) →
          Completes (.sealDone c b errs) s (fun t => t.ds.seals = s.ds.seals.erase r ∧ t.ds.draws = s.ds.draws
            ∧ (let out := fieldAt r.block 12 4
               let inp := fieldAt r.block 8 4
               errs = [] → s.memWf → r.keyOk = true → s.rawInput c inp (fieldAt r.block 4 4) = true →
               s.rawInput c (fieldAt r.block 16 4) (fieldAt r.block 20 4) = true → fieldAt r.block 0 1 = 1 → out + 32 ≤ 0x80000 →
               EngineMay s c out 32 → (out + 32 ≤ r.addr.toNat ∨ r.addr.toNat + 48 ≤ out) →
               t.octets c out 32 = sha256 (s.octets c inp (fieldAt r.block 4 4))))))

/-- Memory care and ageing. A scrub of a granule counts a corrected error and turns an uncorrectable one into POISON of its origin
(12 R497, R498, R503); a pass over persistent memory counts its errors and ends SCRUB_PROG (12 R502, R504). The monitors' least
slack is the margin; one below 30 ps makes a re-level due, one below 20 ps in P0 or P1 raises VCORE by 5 mV at once, never above 860
mV (19 R745, R747). A due re-level in a span wholly in P2 steps VCORE until the margin is 40 ps (19 R746, R748); one due for 720
hours raises its alert, as does a hot case (19 R746, R752). What the days to the ceiling are before the first projection is log
entry 52. -/
def Obligations.MemoryCareAndAgeing : Prop :=
  (∀ (s : State) (c : CoreId) (g : Nat), s.powered = true → g < 32768 →
      exec (.scrub (.bench c g) .clean) s = .next s
      ∧ Completes (.scrub (.bench c g) .corrected) s (fun t => t.svc.memCorr = s.svc.memCorr + 1
          ∧ t.svc.corrCount = if s.svc.corrCount + 1 ≥ s.svc.corrThr then 0 else s.svc.corrCount + 1)
      ∧ Completes (.scrub (.bench c g) .uncorrectable) s (fun t => t = (s.setGran c (16 * g) ⟨tPOISON, 1⟩).poisoned (16 * g) 1 1
          ∧ t.svc.memPoisoned = min (s.svc.memPoisoned + 1) (2 ^ 32 - 1))
      ∧ (64 * g < s.hbmBytes → Completes (.scrub (.hbm g) .uncorrectable) s (fun t => t.hbm = ([0, 16, 32, 48].foldl
          (fun u k => u.setHbmGran (64 * g + k) ⟨tPOISON, 3⟩) s).hbm ∧ t.svc.memPoisoned = min (s.svc.memPoisoned + 4) (2 ^ 32 - 1))))
  ∧ (∀ (s : State) (n : Nat) (bad : List Nat), s.powered = true → s.bootDone = true → (∀ o ∈ bad, o < 2 ^ 32) →
      Completes (.pscrubPass n bad) s (fun t => t.svc.scrubPos = 65536 ∧ t.svc.memCorr = s.svc.memCorr + BitVec.ofNat 32 n))
  ∧ (∀ (s : State) (l : List Nat) (m : Nat), s.powered = true → s.bootDone = true → l.length = 256 → m ∈ l → (∀ x ∈ l, m ≤ x) →
      Completes (.monitorRead l) s (fun t => t.svc.margin = m ∧ l.getD t.svc.lowest 0 = m
        ∧ t.svc.seconds = (if s.power.st = .p0 ∨ s.power.st = .p1 then s.svc.seconds + 1 else s.svc.seconds)
        ∧ (m < 30 → t.svc.due = true) ∧ (m ≥ 20 → s.svc.flooring = false → t.svc.vcore = s.svc.vcore)
        ∧ (m < 20 → (s.power.st = .p0 ∨ s.power.st = .p1) → s.svc.vcore < 860 → t.svc.vcore = min (s.svc.vcore + 5) 860)))
  ∧ (∀ (s : State) (l : List Nat), (s.svc.due = true ∨ s.svc.requested = true) → s.p2Whole = true → l.length = 256 →
      (∀ x ∈ l, 40 ≤ x) → s.svc.margin < 40 → s.svc.vcore < 860 → Completes (.relevelRun [l]) s (fun t =>
        t.svc.vcore = min (s.svc.vcore + 5) 860 ∧ t.svc.due = false ∧ t.svc.requested = false ∧ t.svc.releveling = false
          ∧ t.svc.lastRelevel = s.svc.seconds ∧ Sent s t (.releveled (min (s.svc.vcore + 5) 860))))
  ∧ (∀ s : State, s.powered = true →
      (s.svc.due = true → s.svc.dueFor ≥ 2592000 → s.svc.overdueSaid = false → Completes .relevelOverdue s (fun t =>
        t.svc.overdueSaid = true ∧ t.svc.alerts.getLsbD 2 = true ∧ t.svc.due = true))
      ∧ exec .thermalAlert s = .next { s with svc := { s.svc with alerts := s.svc.alerts ||| 0x10 } })

/-- Supplies and resets. Power on without VIN48 leads from P4 to P3; with it, also where it rose in P4, and VIN48's rise in P3, the
module boots as after a VIN48 power-on, as it does after MRST_N of 1 µs, the host reset and a source that ends a hold (19 R736,
R737, R740 to R742; 20 R766, R770, R796; 21 R808). A boot that hangs in its last slot ends in ROM recovery, in P2 with its pause (19
R744; 17 R691). A boot that holds for REFCLK goes on holding when it is lost again (20 R770). The loss of VIN48, of REFCLK and a
thermal shutdown lead to P3, the loss of VAUX to P4; the span in progress, the rings and the completions that wait are lost, the
keys and the last span number are not (17 R690; 19 R737; 20 R767, R770, R796). PERST_N resets the host interface and MEM_STATUS
alone, and the link trains anew (19 R737, R738; 20 R789; 21 R804). The model's choices: that the row of PERST_N is a whole pulse
(log entry 108), and what a boot that hangs has done (log entry 74). -/
def Obligations.ResetsAndSupplies : Prop :=
  (∀ (s : State) (e : BootEnv), s.power.st = .p4 →
      (e.vin48 = false → s.power.vin48 = false → Completes (.vauxPowerOn e) s (fun t => t.power.st = .p3 ∧ t.power.vaux = true ∧ t.power.vin48 = false ∧ t.reg.up = false))
      ∧ ((e.vin48 = true ∨ s.power.vin48 = true) → (e.refclk = false ∨ e.dieWarm = false) →
          Completes (.vauxPowerOn e) s (fun t => t.svc.stage = .waitEnv ∧ t.svc.source = .vin48))
      ∧ ((e.vin48 = true ∨ s.power.vin48 = true) → e.lidOpen = false → s.sec.lidLatched = false → s.sec.loopArmed = false → WillBoot s e →
          Completes (.vauxPowerOn e) s (fun t => BootedFrom s t .vin48)))
  ∧ (∀ (s : State) (e : BootEnv), s.power.st = .p3 → s.power.vin48 = false →
      ((e.refclk = false ∨ e.dieWarm = false) → Completes (.vin48PowerOn e) s (fun t => t.svc.stage = .waitEnv ∧ t.power.vin48 = true))
      ∧ (let s' := s.resetBlocks.tamperSample e.lidOpen e.ohms true
         WillBoot s' e → Completes (.vin48PowerOn e) s (fun t => BootedFrom s' t .vin48)))
  ∧ (∀ (s : State) (e : BootEnv), s.powered = true → s.svc.stage ≠ .waitEnv → WillBoot s.resetBlocks e →
      (∀ n, 1000 ≤ n → Completes (.mrstN n e) s (fun t => BootedFrom s.resetBlocks t .mrst ∧ t.t.run = false ∧ t.host.rings = []
          ∧ t.t.lastStarted = s.t.lastStarted))
      ∧ Completes (.devReset 8 0x5653525400000001 e) s (fun t => BootedFrom s.resetBlocks t .host ∧ t.t.run = false ∧ t.host.rings = []
          ∧ t.t.lastStarted = s.t.lastStarted))
  ∧ (∀ (s : State) (e : BootEnv), s.svc.stage = .waitEnv →
      (WillBoot s { e with refclk := true } → Completes (.refclkValid e) s (fun t => BootedFrom s t s.svc.source))
      ∧ (WillBoot s { e with dieWarm := true } → Completes (.dieSensorAbove0c e) s (fun t => BootedFrom s t s.svc.source)))
  ∧ (∀ (s : State) (e : BootEnv), s.activating = false →
      (s.svc.stage = .hung true ∨ (s.svc.stage = .hung false ∧ s.onProbation = false ∧ s.hasFallback s.upd.active = false)) → Completes (.bootTimeout e) s (fun t =>
      t.svc.stage = .recovery ∧ t.power.st = .p2 ∧ t.adm.paused.getLsbD 4 = true ∧ (∀ c, (t.core c).held = true) ∧ ∀ p, (t.port p).st = .down))
  ∧ (∀ s : State, s.svc.stage = .waitEnv → exec .refclkLoss s = .next { s with power := { s.power with refclk := false } })
  ∧ (∀ s : State, s.powered = true →
      (∀ i ∈ (if s.svc.stage = .waitEnv then [Instr.vin48Loss, Instr.thermalShutdown] else [Instr.vin48Loss, Instr.refclkLoss, Instr.thermalShutdown]), Completes i s (fun t =>
        t.power.st = .p3 ∧ t.t.run = false ∧ t.host.rings = [] ∧ t.host.waiting = [] ∧ t.host.queue = [] ∧ t.t.lastStarted = s.t.lastStarted
          ∧ t.sec.slots = s.sec.slots ∧ t.sec.life = s.sec.life ∧ t.pmem = s.pmem ∧ ∀ c, (t.core c).held = true))
      ∧ Completes .vauxLoss s (fun t => t.power.st = .p4 ∧ t.power.vaux = false ∧ t.power.lossAt = some s.power.st.code ∧ t.reg.up = false
          ∧ t.t.run = false ∧ t.sec.slots = s.sec.slots ∧ t.pmem = s.pmem)
      ∧ Completes .perstN s (fun t => t.host.rings = [] ∧ t.host.bme = false ∧ t.host.queue = [] ∧ t.host.discardBelow = s.adm.order
          ∧ t.host.linkL0 = false ∧ t.host.dllUp = false ∧ t.svc.memCorr = 0 ∧ t.svc.memPoisoned = 0
          ∧ t.sec.dbgLevel = 0 ∧ t.t = s.t ∧ t.scribe = s.scribe ∧ ∀ d ∈ t.adm.devCmds, d.waits = false))

/-! ### The machine -/

/-- A step takes the command at the front of the queue and runs it with the queue's rest. On an empty queue one core clock cycle
passes: the clock and, while spans run, the cycle within the span go on by one, and a latency check whose ECHO is overdue fails with
CHAIN_FAULT (14 R590, R599; the cycle is the model's choice, log entry 1). -/
def Obligations.StepRunsFront : Prop :=
  (∀ (s : State) (c : Instr) (rest : List Instr), step { s with pending := c :: rest } = exec c { s with pending := rest })
  ∧ (∀ s : State, s.pending = [] → s.movRunning false = none → s.movRunning true = none →
      let u : State := { s with t := { s.t with clock := s.t.clock + 1, cyc := if s.t.run then s.t.cyc + 1 else s.t.cyc } }
      (s.chain.latency = none → step s = .next u)
      ∧ (∀ (l : LatCheck) (d : DevCmd), s.chain.latency = some l → l.order = some d → s.t.clock + 1 > l.sentAt + (s.t.k * 440625 - 16000) →
          ∃ port reason, step s = .next (({ u with chain := { u.chain with latency := none } } : State).complete (cmdCpl d 0x40 port 0 reason))))

/-- No command stops the machine: a well-formed command answers a next state from every state, and a step consumes the front of the
queue and nothing else of it. -/
def Obligations.QueueAndSafety : Prop :=
  (∀ (s : State) (c : Instr), c.WellFormed → ∃ t, exec c s = .next t)
  ∧ (∀ s t : State, step s = .next t → t.pending = s.pending.tail)

/-- The machine after reset is the module as shipped (log entry 3): BLANK and in P2 with reason LIFECYCLE (17 R658, R685, R692),
every core held in reset, no span running, SPAN_CFG and the admission settings at their defaults (02 R33, R52; 21 R809, R812),
no ring (03 R105), Bus Master Enable clear, keys in slots 1 and 2 alone (17 R662), no trouble entry, every memory in canonical
form and nothing waiting. -/
def Obligations.ResetState : Prop :=
  State.reset.pending = [] ∧ State.reset.memWf ∧ State.reset.sec.life = .blank ∧ State.reset.power.st = .p2
    ∧ State.reset.power.reasons = 8 ∧ (∀ c, (State.reset.core c).held = true) ∧ State.reset.t.run = false ∧ State.reset.t.span = 0
    ∧ State.reset.t.k = 4 ∧ State.reset.t.sync = 0
    ∧ State.reset.adm.cfg = ⟨50000, 1700000, 27200000, 32, 1048576, 64, 0, 0⟩
    ∧ (∀ r, State.reset.ring r = Ring.absent) ∧ State.reset.host.bme = false
    ∧ (∀ n, State.reset.key n ≠ none ↔ n = 1 ∨ n = 2) ∧ State.reset.svc.tr = [] ∧ State.reset.out = []
    ∧ (∀ c b r, (State.reset.bank c b).reg b r = ⟨tRAW, 0⟩) ∧ (∀ c a, State.reset.byte c a = 0)

/-- Every step keeps the canonical form of every memory: bay memory, HBM, persistent memory, the bench memories and their frame and
region tables stay lists of strictly rising addresses with no entry equal to what an unlisted address reads as, so that equal
memories are equal data. -/
def Obligations.StepKeepsMemory : Prop :=
  ∀ s t : State, s.memWf → step s = .next t → t.memWf

/-- What only goes one way, whatever command runs: the lifecycle state changes only as its table allows, never out of RETIRED
and never from SEALED back to PROVISIONED (17 R659); FROZEN is cleared only by a RESUME (16 R655); VCORE is never lowered and
never set above 860 mV (19 R747); the rollback floor never falls (18 R723); nor do the number of the last span started (02 R34)
and the trouble record's next SEQ (19 R753). -/
def Obligations.OneWay : Prop :=
  ∀ s t : State, step s = .next t →
    (t.sec.life = s.sec.life ∨ (s.sec.life, t.sec.life) ∈ lifeChanges)
    ∧ (s.reg.frozen = true → t.reg.frozen = false → ∃ f rest, s.pending = .resume f :: rest)
    ∧ (s.svc.vcore ≤ 860 → s.svc.vcore ≤ t.svc.vcore ∧ t.svc.vcore ≤ 860)
    ∧ s.upd.floor ≤ t.upd.floor ∧ s.t.lastStarted ≤ t.t.lastStarted ∧ s.svc.trSeq ≤ t.svc.trSeq

/-- Every step keeps every bank's register window one it can have: WVAL 1 to 5, CWP 0 to 5, TSW's bits [39:0] zero (05 R170 to
R174). The one step that could do otherwise is RTE in bank T after a window trap, which moves the served bank's WVAL by 1
whatever it is (09 R392): the premise is that this WVAL allows it. It holds after reset. -/
def Obligations.StepKeepsWindows : Prop :=
  State.reset.windowsOk ∧ ∀ s t : State, s.windowsOk → (∀ c, (s.core c).serviceOk) → step s = .next t → t.windowsOk

/-- Every step keeps the rings in order: of each ring HEAD is at most TAIL and TAIL at most the ring's size ahead, and the
descriptors read in this sill lie from HEAD to TAIL − 1; none is read while the sill's doorbell array is out (03 R86, R88 to R90,
R93). So it is of every ring number. It holds after reset. -/
def Obligations.StepKeepsRings : Prop :=
  State.reset.host.ringsOk
  ∧ ∀ s t : State, s.host.ringsOk → step s = .next t → t.host.ringsOk ∧ ∀ r, (t.ring r).countsOk
end

