-- ==== Sys2Proof/Laws/SMap.lean ====
section
/-! SUPPORT. Laws of the sparse table: reading back, leaving other keys alone, the canonical form. -/

namespace Sys2Proof.Machine.SMap

variable {α : Type} (d : α)

@[simp] theorem get_nil (k : Nat) : get d [] k = d := rfl

theorem get_insert_self (m : SMap α) (k : Nat) (v : α) : get d (insert m k v) k = v := by
  induction m with
  | nil => simp [insert, get]
  | cons p m ih =>
    obtain ⟨k', v'⟩ := p
    simp only [insert]
    split
    · simp [get]
    · split
      · simp [get]
      · have : k' ≠ k := by omega
        simp [get, this, ih]

theorem get_insert_other (m : SMap α) (k j : Nat) (v : α) (h : j ≠ k) : get d (insert m k v) j = get d m j := by
  induction m with
  | nil => simp [insert, get, h.symm]
  | cons p m ih =>
    obtain ⟨k', v'⟩ := p
    simp only [insert]
    split
    · simp [get, h.symm]
    · split
      · subst_vars; simp [get, h.symm]
      · simp [get, ih]

theorem get_erase_other (m : SMap α) (k j : Nat) (h : j ≠ k) : get d (erase m k) j = get d m j := by
  induction m with
  | nil => rfl
  | cons p m ih =>
    obtain ⟨k', v'⟩ := p
    simp only [erase]
    split
    · subst_vars; simp [get, h.symm]
    · simp [get, ih]

variable [DecidableEq α]

theorem wfFrom_weaken (m : SMap α) (lo lo' : Option Nat) (h : wfFrom d lo m = true)
    (hle : ∀ a b, lo' = some a → lo = some b → a ≤ b) (hn : lo = none → lo' = none) : wfFrom d lo' m = true := by
  cases m with
  | nil => rfl
  | cons p m =>
    obtain ⟨k, v⟩ := p
    simp only [wfFrom, Bool.and_eq_true] at h ⊢
    refine ⟨⟨?_, h.1.2⟩, h.2⟩
    cases lo' with
    | none => rfl
    | some a =>
      cases lo with
      | none => simp at hn
      | some b =>
        have := hle a b rfl rfl
        have hb := h.1.1
        simp only [decide_eq_true_eq] at hb ⊢
        omega

theorem get_of_wfFrom (m : SMap α) (b k : Nat) (h : wfFrom d (some b) m = true) (hk : k ≤ b) : get d m k = d := by
  induction m generalizing b with
  | nil => rfl
  | cons p m ih =>
    obtain ⟨k', v'⟩ := p
    simp only [wfFrom, Bool.and_eq_true, decide_eq_true_eq] at h
    have : k' ≠ k := by omega
    simp only [get, this, if_false]
    exact ih k' h.2 (by omega)

theorem get_erase_self (m : SMap α) (k : Nat) (lo : Option Nat) (h : wfFrom d lo m = true) : get d (erase m k) k = d := by
  induction m generalizing lo with
  | nil => rfl
  | cons p m ih =>
    obtain ⟨k', v'⟩ := p
    simp only [wfFrom, Bool.and_eq_true] at h
    simp only [erase]
    split
    · subst_vars; exact get_of_wfFrom d m k' k' h.2 (Nat.le_refl _)
    · rename_i hne
      simp only [get, hne, if_false]
      exact ih (some k') h.2

/-- A key written reads as what was written. -/
theorem get_set_self (m : SMap α) (k : Nat) (v : α) (h : wf d m = true) : get d (set d m k v) k = v := by
  unfold set
  split
  · rename_i hv; rw [hv]; exact get_erase_self d m k none h
  · exact get_insert_self d m k v

/-- Every other key reads as before. -/
theorem get_set_other (m : SMap α) (k j : Nat) (v : α) (h : j ≠ k) : get d (set d m k v) j = get d m j := by
  unfold set
  split
  · exact get_erase_other d m k j h
  · exact get_insert_other d m k j v h

theorem wfFrom_erase (m : SMap α) (k : Nat) (lo : Option Nat) (h : wfFrom d lo m = true) : wfFrom d lo (erase m k) = true := by
  induction m generalizing lo with
  | nil => rfl
  | cons p m ih =>
    obtain ⟨k', v'⟩ := p
    have h0 := h
    simp only [wfFrom, Bool.and_eq_true] at h
    simp only [erase]
    split
    · refine wfFrom_weaken d m (some k') lo h.2 ?_ (by simp)
      intro a b ha hb
      subst ha
      cases hb
      have := h.1.1
      simp only [decide_eq_true_eq] at this
      omega
    · simp only [wfFrom, Bool.and_eq_true]
      exact ⟨h.1, ih (some k') h.2⟩

theorem wfFrom_cons (lo : Option Nat) (k : Nat) (v : α) (m : SMap α) :
    wfFrom d lo ((k, v) :: m) = true ↔ (∀ b, lo = some b → b < k) ∧ v ≠ d ∧ wfFrom d (some k) m = true := by
  cases lo <;> simp [wfFrom, and_assoc]

theorem wfFrom_insert (m : SMap α) (k : Nat) (v : α) (lo : Option Nat) (hv : v ≠ d) (h : wfFrom d lo m = true)
    (hk : ∀ b, lo = some b → b < k) : wfFrom d lo (insert m k v) = true := by
  induction m generalizing lo with
  | nil => exact (wfFrom_cons d lo k v []).2 ⟨hk, hv, rfl⟩
  | cons p m ih =>
    obtain ⟨k', v'⟩ := p
    have h' := (wfFrom_cons d lo k' v' m).1 h
    simp only [insert]
    split
    · rename_i hlt
      exact (wfFrom_cons ..).2 ⟨hk, hv, (wfFrom_cons ..).2 ⟨by intro b hb; cases hb; exact hlt, h'.2⟩⟩
    · split
      · rename_i heq
        subst heq
        exact (wfFrom_cons ..).2 ⟨hk, hv, h'.2.2⟩
      · have hlt : k' < k := by omega
        exact (wfFrom_cons ..).2 ⟨h'.1, h'.2.1, ih (some k') h'.2.2 (by intro b hb; cases hb; exact hlt)⟩

/-- A write keeps the canonical form. -/
theorem wf_set (m : SMap α) (k : Nat) (v : α) (h : wf d m = true) : wf d (set d m k v) = true := by
  unfold set
  split
  · exact wfFrom_erase d m k none h
  · rename_i hv; exact wfFrom_insert d m k v none hv h (by simp)

@[simp] theorem wf_nil : wf d ([] : SMap α) = true := rfl

/-- Tables in canonical form that read alike are equal. -/
theorem ext_of_wfFrom (m m' : SMap α) (lo lo' : Option Nat) (h : wfFrom d lo m = true) (h' : wfFrom d lo' m' = true)
    (heq : ∀ k, get d m k = get d m' k) : m = m' := by
  induction m generalizing m' lo lo' with
  | nil =>
    cases m' with
    | nil => rfl
    | cons p m' =>
      obtain ⟨k, v⟩ := p
      simp only [wfFrom, Bool.and_eq_true, decide_eq_true_eq] at h'
      have := heq k
      simp only [get, if_true] at this
      exact absurd this.symm h'.1.2
  | cons p m ih =>
    obtain ⟨k, v⟩ := p
    simp only [wfFrom, Bool.and_eq_true, decide_eq_true_eq] at h
    cases m' with
    | nil =>
      have := heq k
      simp only [get, if_true] at this
      exact absurd this h.1.2
    | cons p' m' =>
      obtain ⟨k', v'⟩ := p'
      simp only [wfFrom, Bool.and_eq_true, decide_eq_true_eq] at h'
      have hkk : k = k' := by
        rcases Nat.lt_trichotomy k k' with hlt | heq' | hgt
        · have e := heq k
          have hne : k' ≠ k := by omega
          simp only [get, if_true, hne, if_false] at e
          exact absurd (e.trans (get_of_wfFrom d m' k' k h'.2 (by omega))) h.1.2
        · exact heq'
        · have e := heq k'
          have hne : k ≠ k' := by omega
          simp only [get, if_true, hne, if_false] at e
          exact absurd (e.symm.trans (get_of_wfFrom d m k k' h.2 (by omega))) h'.1.2
      subst hkk
      have hv : v = v' := by have e := heq k; simpa [get] using e
      subst hv
      congr 1
      refine ih m' (some k) (some k) h.2 h'.2 ?_
      intro j
      by_cases hj : k = j
      · subst hj
        rw [get_of_wfFrom d m k k h.2 (Nat.le_refl _), get_of_wfFrom d m' k k h'.2 (Nat.le_refl _)]
      · have e := heq j
        simpa [get, hj] using e

end Sys2Proof.Machine.SMap
end

