-- ==== Sys2Proof/Laws/State.lean ====
section
/-! SUPPORT. One lemma per field per update of the state, and reading back cores, banks and registers. -/

namespace Sys2Proof.Machine

/-! ### State.setCore -/

@[simp] theorem State.setCore_pending (s : State) (c : CoreId) (k : Core) : (s.setCore c k).pending = s.pending := rfl
@[simp] theorem State.setCore_t (s : State) (c : CoreId) (k : Core) : (s.setCore c k).t = s.t := rfl
@[simp] theorem State.setCore_bay (s : State) (c : CoreId) (k : Core) : (s.setCore c k).bay = s.bay := rfl
@[simp] theorem State.setCore_bayFrames (s : State) (c : CoreId) (k : Core) : (s.setCore c k).bayFrames = s.bayFrames := rfl
@[simp] theorem State.setCore_hbm (s : State) (c : CoreId) (k : Core) : (s.setCore c k).hbm = s.hbm := rfl
@[simp] theorem State.setCore_hbmRegions (s : State) (c : CoreId) (k : Core) : (s.setCore c k).hbmRegions = s.hbmRegions := rfl
@[simp] theorem State.setCore_variant (s : State) (c : CoreId) (k : Core) : (s.setCore c k).variant = s.variant := rfl
@[simp] theorem State.setCore_pmem (s : State) (c : CoreId) (k : Core) : (s.setCore c k).pmem = s.pmem := rfl
@[simp] theorem State.setCore_host (s : State) (c : CoreId) (k : Core) : (s.setCore c k).host = s.host := rfl
@[simp] theorem State.setCore_adm (s : State) (c : CoreId) (k : Core) : (s.setCore c k).adm = s.adm := rfl
@[simp] theorem State.setCore_lve (s : State) (c : CoreId) (k : Core) : (s.setCore c k).lve = s.lve := rfl
@[simp] theorem State.setCore_mover (s : State) (c : CoreId) (k : Core) : (s.setCore c k).mover = s.mover := rfl
@[simp] theorem State.setCore_scribe (s : State) (c : CoreId) (k : Core) : (s.setCore c k).scribe = s.scribe := rfl
@[simp] theorem State.setCore_chain (s : State) (c : CoreId) (k : Core) : (s.setCore c k).chain = s.chain := rfl
@[simp] theorem State.setCore_cart (s : State) (c : CoreId) (k : Core) : (s.setCore c k).cart = s.cart := rfl
@[simp] theorem State.setCore_ds (s : State) (c : CoreId) (k : Core) : (s.setCore c k).ds = s.ds := rfl
@[simp] theorem State.setCore_reg (s : State) (c : CoreId) (k : Core) : (s.setCore c k).reg = s.reg := rfl
@[simp] theorem State.setCore_sec (s : State) (c : CoreId) (k : Core) : (s.setCore c k).sec = s.sec := rfl
@[simp] theorem State.setCore_power (s : State) (c : CoreId) (k : Core) : (s.setCore c k).power = s.power := rfl
@[simp] theorem State.setCore_upd (s : State) (c : CoreId) (k : Core) : (s.setCore c k).upd = s.upd := rfl
@[simp] theorem State.setCore_svc (s : State) (c : CoreId) (k : Core) : (s.setCore c k).svc = s.svc := rfl
@[simp] theorem State.setCore_out (s : State) (c : CoreId) (k : Core) : (s.setCore c k).out = s.out := rfl
@[simp] theorem State.setCore_freeCtr (s : State) (c : CoreId) (k : Core) : (s.setCore c k).freeCtr = s.freeCtr := rfl

/-! ### State.modCore -/

@[simp] theorem State.modCore_pending (s : State) (c : CoreId) (f : Core → Core) : (s.modCore c f).pending = s.pending := rfl
@[simp] theorem State.modCore_t (s : State) (c : CoreId) (f : Core → Core) : (s.modCore c f).t = s.t := rfl
@[simp] theorem State.modCore_bay (s : State) (c : CoreId) (f : Core → Core) : (s.modCore c f).bay = s.bay := rfl
@[simp] theorem State.modCore_bayFrames (s : State) (c : CoreId) (f : Core → Core) : (s.modCore c f).bayFrames = s.bayFrames := rfl
@[simp] theorem State.modCore_hbm (s : State) (c : CoreId) (f : Core → Core) : (s.modCore c f).hbm = s.hbm := rfl
@[simp] theorem State.modCore_hbmRegions (s : State) (c : CoreId) (f : Core → Core) : (s.modCore c f).hbmRegions = s.hbmRegions := rfl
@[simp] theorem State.modCore_variant (s : State) (c : CoreId) (f : Core → Core) : (s.modCore c f).variant = s.variant := rfl
@[simp] theorem State.modCore_pmem (s : State) (c : CoreId) (f : Core → Core) : (s.modCore c f).pmem = s.pmem := rfl
@[simp] theorem State.modCore_host (s : State) (c : CoreId) (f : Core → Core) : (s.modCore c f).host = s.host := rfl
@[simp] theorem State.modCore_adm (s : State) (c : CoreId) (f : Core → Core) : (s.modCore c f).adm = s.adm := rfl
@[simp] theorem State.modCore_lve (s : State) (c : CoreId) (f : Core → Core) : (s.modCore c f).lve = s.lve := rfl
@[simp] theorem State.modCore_mover (s : State) (c : CoreId) (f : Core → Core) : (s.modCore c f).mover = s.mover := rfl
@[simp] theorem State.modCore_scribe (s : State) (c : CoreId) (f : Core → Core) : (s.modCore c f).scribe = s.scribe := rfl
@[simp] theorem State.modCore_chain (s : State) (c : CoreId) (f : Core → Core) : (s.modCore c f).chain = s.chain := rfl
@[simp] theorem State.modCore_cart (s : State) (c : CoreId) (f : Core → Core) : (s.modCore c f).cart = s.cart := rfl
@[simp] theorem State.modCore_ds (s : State) (c : CoreId) (f : Core → Core) : (s.modCore c f).ds = s.ds := rfl
@[simp] theorem State.modCore_reg (s : State) (c : CoreId) (f : Core → Core) : (s.modCore c f).reg = s.reg := rfl
@[simp] theorem State.modCore_sec (s : State) (c : CoreId) (f : Core → Core) : (s.modCore c f).sec = s.sec := rfl
@[simp] theorem State.modCore_power (s : State) (c : CoreId) (f : Core → Core) : (s.modCore c f).power = s.power := rfl
@[simp] theorem State.modCore_upd (s : State) (c : CoreId) (f : Core → Core) : (s.modCore c f).upd = s.upd := rfl
@[simp] theorem State.modCore_svc (s : State) (c : CoreId) (f : Core → Core) : (s.modCore c f).svc = s.svc := rfl
@[simp] theorem State.modCore_out (s : State) (c : CoreId) (f : Core → Core) : (s.modCore c f).out = s.out := rfl
@[simp] theorem State.modCore_freeCtr (s : State) (c : CoreId) (f : Core → Core) : (s.modCore c f).freeCtr = s.freeCtr := rfl

/-! ### State.modBank -/

@[simp] theorem State.modBank_pending (s : State) (c : CoreId) (b : BankId) (f : Bank → Bank) : (s.modBank c b f).pending = s.pending := rfl
@[simp] theorem State.modBank_t (s : State) (c : CoreId) (b : BankId) (f : Bank → Bank) : (s.modBank c b f).t = s.t := rfl
@[simp] theorem State.modBank_bay (s : State) (c : CoreId) (b : BankId) (f : Bank → Bank) : (s.modBank c b f).bay = s.bay := rfl
@[simp] theorem State.modBank_bayFrames (s : State) (c : CoreId) (b : BankId) (f : Bank → Bank) : (s.modBank c b f).bayFrames = s.bayFrames := rfl
@[simp] theorem State.modBank_hbm (s : State) (c : CoreId) (b : BankId) (f : Bank → Bank) : (s.modBank c b f).hbm = s.hbm := rfl
@[simp] theorem State.modBank_hbmRegions (s : State) (c : CoreId) (b : BankId) (f : Bank → Bank) : (s.modBank c b f).hbmRegions = s.hbmRegions := rfl
@[simp] theorem State.modBank_variant (s : State) (c : CoreId) (b : BankId) (f : Bank → Bank) : (s.modBank c b f).variant = s.variant := rfl
@[simp] theorem State.modBank_pmem (s : State) (c : CoreId) (b : BankId) (f : Bank → Bank) : (s.modBank c b f).pmem = s.pmem := rfl
@[simp] theorem State.modBank_host (s : State) (c : CoreId) (b : BankId) (f : Bank → Bank) : (s.modBank c b f).host = s.host := rfl
@[simp] theorem State.modBank_adm (s : State) (c : CoreId) (b : BankId) (f : Bank → Bank) : (s.modBank c b f).adm = s.adm := rfl
@[simp] theorem State.modBank_lve (s : State) (c : CoreId) (b : BankId) (f : Bank → Bank) : (s.modBank c b f).lve = s.lve := rfl
@[simp] theorem State.modBank_mover (s : State) (c : CoreId) (b : BankId) (f : Bank → Bank) : (s.modBank c b f).mover = s.mover := rfl
@[simp] theorem State.modBank_scribe (s : State) (c : CoreId) (b : BankId) (f : Bank → Bank) : (s.modBank c b f).scribe = s.scribe := rfl
@[simp] theorem State.modBank_chain (s : State) (c : CoreId) (b : BankId) (f : Bank → Bank) : (s.modBank c b f).chain = s.chain := rfl
@[simp] theorem State.modBank_cart (s : State) (c : CoreId) (b : BankId) (f : Bank → Bank) : (s.modBank c b f).cart = s.cart := rfl
@[simp] theorem State.modBank_ds (s : State) (c : CoreId) (b : BankId) (f : Bank → Bank) : (s.modBank c b f).ds = s.ds := rfl
@[simp] theorem State.modBank_reg (s : State) (c : CoreId) (b : BankId) (f : Bank → Bank) : (s.modBank c b f).reg = s.reg := rfl
@[simp] theorem State.modBank_sec (s : State) (c : CoreId) (b : BankId) (f : Bank → Bank) : (s.modBank c b f).sec = s.sec := rfl
@[simp] theorem State.modBank_power (s : State) (c : CoreId) (b : BankId) (f : Bank → Bank) : (s.modBank c b f).power = s.power := rfl
@[simp] theorem State.modBank_upd (s : State) (c : CoreId) (b : BankId) (f : Bank → Bank) : (s.modBank c b f).upd = s.upd := rfl
@[simp] theorem State.modBank_svc (s : State) (c : CoreId) (b : BankId) (f : Bank → Bank) : (s.modBank c b f).svc = s.svc := rfl
@[simp] theorem State.modBank_out (s : State) (c : CoreId) (b : BankId) (f : Bank → Bank) : (s.modBank c b f).out = s.out := rfl
@[simp] theorem State.modBank_freeCtr (s : State) (c : CoreId) (b : BankId) (f : Bank → Bank) : (s.modBank c b f).freeCtr = s.freeCtr := rfl

/-! ### State.setReg -/

@[simp] theorem State.setReg_pending (s : State) (c : CoreId) (b : BankId) (r : Reg) (v : TVal) : (s.setReg c b r v).pending = s.pending := rfl
@[simp] theorem State.setReg_t (s : State) (c : CoreId) (b : BankId) (r : Reg) (v : TVal) : (s.setReg c b r v).t = s.t := rfl
@[simp] theorem State.setReg_bay (s : State) (c : CoreId) (b : BankId) (r : Reg) (v : TVal) : (s.setReg c b r v).bay = s.bay := rfl
@[simp] theorem State.setReg_bayFrames (s : State) (c : CoreId) (b : BankId) (r : Reg) (v : TVal) : (s.setReg c b r v).bayFrames = s.bayFrames := rfl
@[simp] theorem State.setReg_hbm (s : State) (c : CoreId) (b : BankId) (r : Reg) (v : TVal) : (s.setReg c b r v).hbm = s.hbm := rfl
@[simp] theorem State.setReg_hbmRegions (s : State) (c : CoreId) (b : BankId) (r : Reg) (v : TVal) : (s.setReg c b r v).hbmRegions = s.hbmRegions := rfl
@[simp] theorem State.setReg_variant (s : State) (c : CoreId) (b : BankId) (r : Reg) (v : TVal) : (s.setReg c b r v).variant = s.variant := rfl
@[simp] theorem State.setReg_pmem (s : State) (c : CoreId) (b : BankId) (r : Reg) (v : TVal) : (s.setReg c b r v).pmem = s.pmem := rfl
@[simp] theorem State.setReg_host (s : State) (c : CoreId) (b : BankId) (r : Reg) (v : TVal) : (s.setReg c b r v).host = s.host := rfl
@[simp] theorem State.setReg_adm (s : State) (c : CoreId) (b : BankId) (r : Reg) (v : TVal) : (s.setReg c b r v).adm = s.adm := rfl
@[simp] theorem State.setReg_lve (s : State) (c : CoreId) (b : BankId) (r : Reg) (v : TVal) : (s.setReg c b r v).lve = s.lve := rfl
@[simp] theorem State.setReg_mover (s : State) (c : CoreId) (b : BankId) (r : Reg) (v : TVal) : (s.setReg c b r v).mover = s.mover := rfl
@[simp] theorem State.setReg_scribe (s : State) (c : CoreId) (b : BankId) (r : Reg) (v : TVal) : (s.setReg c b r v).scribe = s.scribe := rfl
@[simp] theorem State.setReg_chain (s : State) (c : CoreId) (b : BankId) (r : Reg) (v : TVal) : (s.setReg c b r v).chain = s.chain := rfl
@[simp] theorem State.setReg_cart (s : State) (c : CoreId) (b : BankId) (r : Reg) (v : TVal) : (s.setReg c b r v).cart = s.cart := rfl
@[simp] theorem State.setReg_ds (s : State) (c : CoreId) (b : BankId) (r : Reg) (v : TVal) : (s.setReg c b r v).ds = s.ds := rfl
@[simp] theorem State.setReg_reg (s : State) (c : CoreId) (b : BankId) (r : Reg) (v : TVal) : (s.setReg c b r v).reg = s.reg := rfl
@[simp] theorem State.setReg_sec (s : State) (c : CoreId) (b : BankId) (r : Reg) (v : TVal) : (s.setReg c b r v).sec = s.sec := rfl
@[simp] theorem State.setReg_power (s : State) (c : CoreId) (b : BankId) (r : Reg) (v : TVal) : (s.setReg c b r v).power = s.power := rfl
@[simp] theorem State.setReg_upd (s : State) (c : CoreId) (b : BankId) (r : Reg) (v : TVal) : (s.setReg c b r v).upd = s.upd := rfl
@[simp] theorem State.setReg_svc (s : State) (c : CoreId) (b : BankId) (r : Reg) (v : TVal) : (s.setReg c b r v).svc = s.svc := rfl
@[simp] theorem State.setReg_out (s : State) (c : CoreId) (b : BankId) (r : Reg) (v : TVal) : (s.setReg c b r v).out = s.out := rfl
@[simp] theorem State.setReg_freeCtr (s : State) (c : CoreId) (b : BankId) (r : Reg) (v : TVal) : (s.setReg c b r v).freeCtr = s.freeCtr := rfl

/-! ### State.setHbmGran -/

@[simp] theorem State.setHbmGran_pending (s : State) (off : Nat) (v : TVal) : (s.setHbmGran off v).pending = s.pending := rfl
@[simp] theorem State.setHbmGran_t (s : State) (off : Nat) (v : TVal) : (s.setHbmGran off v).t = s.t := rfl
@[simp] theorem State.setHbmGran_cores (s : State) (off : Nat) (v : TVal) : (s.setHbmGran off v).cores = s.cores := rfl
@[simp] theorem State.setHbmGran_bay (s : State) (off : Nat) (v : TVal) : (s.setHbmGran off v).bay = s.bay := rfl
@[simp] theorem State.setHbmGran_bayFrames (s : State) (off : Nat) (v : TVal) : (s.setHbmGran off v).bayFrames = s.bayFrames := rfl
@[simp] theorem State.setHbmGran_hbmRegions (s : State) (off : Nat) (v : TVal) : (s.setHbmGran off v).hbmRegions = s.hbmRegions := rfl
@[simp] theorem State.setHbmGran_variant (s : State) (off : Nat) (v : TVal) : (s.setHbmGran off v).variant = s.variant := rfl
@[simp] theorem State.setHbmGran_pmem (s : State) (off : Nat) (v : TVal) : (s.setHbmGran off v).pmem = s.pmem := rfl
@[simp] theorem State.setHbmGran_host (s : State) (off : Nat) (v : TVal) : (s.setHbmGran off v).host = s.host := rfl
@[simp] theorem State.setHbmGran_adm (s : State) (off : Nat) (v : TVal) : (s.setHbmGran off v).adm = s.adm := rfl
@[simp] theorem State.setHbmGran_lve (s : State) (off : Nat) (v : TVal) : (s.setHbmGran off v).lve = s.lve := rfl
@[simp] theorem State.setHbmGran_mover (s : State) (off : Nat) (v : TVal) : (s.setHbmGran off v).mover = s.mover := rfl
@[simp] theorem State.setHbmGran_scribe (s : State) (off : Nat) (v : TVal) : (s.setHbmGran off v).scribe = s.scribe := rfl
@[simp] theorem State.setHbmGran_chain (s : State) (off : Nat) (v : TVal) : (s.setHbmGran off v).chain = s.chain := rfl
@[simp] theorem State.setHbmGran_cart (s : State) (off : Nat) (v : TVal) : (s.setHbmGran off v).cart = s.cart := rfl
@[simp] theorem State.setHbmGran_ds (s : State) (off : Nat) (v : TVal) : (s.setHbmGran off v).ds = s.ds := rfl
@[simp] theorem State.setHbmGran_reg (s : State) (off : Nat) (v : TVal) : (s.setHbmGran off v).reg = s.reg := rfl
@[simp] theorem State.setHbmGran_sec (s : State) (off : Nat) (v : TVal) : (s.setHbmGran off v).sec = s.sec := rfl
@[simp] theorem State.setHbmGran_power (s : State) (off : Nat) (v : TVal) : (s.setHbmGran off v).power = s.power := rfl
@[simp] theorem State.setHbmGran_upd (s : State) (off : Nat) (v : TVal) : (s.setHbmGran off v).upd = s.upd := rfl
@[simp] theorem State.setHbmGran_svc (s : State) (off : Nat) (v : TVal) : (s.setHbmGran off v).svc = s.svc := rfl
@[simp] theorem State.setHbmGran_out (s : State) (off : Nat) (v : TVal) : (s.setHbmGran off v).out = s.out := rfl
@[simp] theorem State.setHbmGran_freeCtr (s : State) (off : Nat) (v : TVal) : (s.setHbmGran off v).freeCtr = s.freeCtr := rfl

/-! ### State.setRing -/

@[simp] theorem State.setRing_pending (s : State) (r : Nat) (v : Ring) : (s.setRing r v).pending = s.pending := rfl
@[simp] theorem State.setRing_t (s : State) (r : Nat) (v : Ring) : (s.setRing r v).t = s.t := rfl
@[simp] theorem State.setRing_cores (s : State) (r : Nat) (v : Ring) : (s.setRing r v).cores = s.cores := rfl
@[simp] theorem State.setRing_bay (s : State) (r : Nat) (v : Ring) : (s.setRing r v).bay = s.bay := rfl
@[simp] theorem State.setRing_bayFrames (s : State) (r : Nat) (v : Ring) : (s.setRing r v).bayFrames = s.bayFrames := rfl
@[simp] theorem State.setRing_hbm (s : State) (r : Nat) (v : Ring) : (s.setRing r v).hbm = s.hbm := rfl
@[simp] theorem State.setRing_hbmRegions (s : State) (r : Nat) (v : Ring) : (s.setRing r v).hbmRegions = s.hbmRegions := rfl
@[simp] theorem State.setRing_variant (s : State) (r : Nat) (v : Ring) : (s.setRing r v).variant = s.variant := rfl
@[simp] theorem State.setRing_pmem (s : State) (r : Nat) (v : Ring) : (s.setRing r v).pmem = s.pmem := rfl
@[simp] theorem State.setRing_adm (s : State) (r : Nat) (v : Ring) : (s.setRing r v).adm = s.adm := rfl
@[simp] theorem State.setRing_lve (s : State) (r : Nat) (v : Ring) : (s.setRing r v).lve = s.lve := rfl
@[simp] theorem State.setRing_mover (s : State) (r : Nat) (v : Ring) : (s.setRing r v).mover = s.mover := rfl
@[simp] theorem State.setRing_scribe (s : State) (r : Nat) (v : Ring) : (s.setRing r v).scribe = s.scribe := rfl
@[simp] theorem State.setRing_chain (s : State) (r : Nat) (v : Ring) : (s.setRing r v).chain = s.chain := rfl
@[simp] theorem State.setRing_cart (s : State) (r : Nat) (v : Ring) : (s.setRing r v).cart = s.cart := rfl
@[simp] theorem State.setRing_ds (s : State) (r : Nat) (v : Ring) : (s.setRing r v).ds = s.ds := rfl
@[simp] theorem State.setRing_reg (s : State) (r : Nat) (v : Ring) : (s.setRing r v).reg = s.reg := rfl
@[simp] theorem State.setRing_sec (s : State) (r : Nat) (v : Ring) : (s.setRing r v).sec = s.sec := rfl
@[simp] theorem State.setRing_power (s : State) (r : Nat) (v : Ring) : (s.setRing r v).power = s.power := rfl
@[simp] theorem State.setRing_upd (s : State) (r : Nat) (v : Ring) : (s.setRing r v).upd = s.upd := rfl
@[simp] theorem State.setRing_svc (s : State) (r : Nat) (v : Ring) : (s.setRing r v).svc = s.svc := rfl
@[simp] theorem State.setRing_out (s : State) (r : Nat) (v : Ring) : (s.setRing r v).out = s.out := rfl
@[simp] theorem State.setRing_freeCtr (s : State) (r : Nat) (v : Ring) : (s.setRing r v).freeCtr = s.freeCtr := rfl

/-! ### State.emit -/

@[simp] theorem State.emit_pending (s : State) (e : Emission) : (s.emit e).pending = s.pending := rfl
@[simp] theorem State.emit_t (s : State) (e : Emission) : (s.emit e).t = s.t := rfl
@[simp] theorem State.emit_cores (s : State) (e : Emission) : (s.emit e).cores = s.cores := rfl
@[simp] theorem State.emit_bay (s : State) (e : Emission) : (s.emit e).bay = s.bay := rfl
@[simp] theorem State.emit_bayFrames (s : State) (e : Emission) : (s.emit e).bayFrames = s.bayFrames := rfl
@[simp] theorem State.emit_hbm (s : State) (e : Emission) : (s.emit e).hbm = s.hbm := rfl
@[simp] theorem State.emit_hbmRegions (s : State) (e : Emission) : (s.emit e).hbmRegions = s.hbmRegions := rfl
@[simp] theorem State.emit_variant (s : State) (e : Emission) : (s.emit e).variant = s.variant := rfl
@[simp] theorem State.emit_pmem (s : State) (e : Emission) : (s.emit e).pmem = s.pmem := rfl
@[simp] theorem State.emit_host (s : State) (e : Emission) : (s.emit e).host = s.host := rfl
@[simp] theorem State.emit_adm (s : State) (e : Emission) : (s.emit e).adm = s.adm := rfl
@[simp] theorem State.emit_lve (s : State) (e : Emission) : (s.emit e).lve = s.lve := rfl
@[simp] theorem State.emit_mover (s : State) (e : Emission) : (s.emit e).mover = s.mover := rfl
@[simp] theorem State.emit_scribe (s : State) (e : Emission) : (s.emit e).scribe = s.scribe := rfl
@[simp] theorem State.emit_chain (s : State) (e : Emission) : (s.emit e).chain = s.chain := rfl
@[simp] theorem State.emit_cart (s : State) (e : Emission) : (s.emit e).cart = s.cart := rfl
@[simp] theorem State.emit_ds (s : State) (e : Emission) : (s.emit e).ds = s.ds := rfl
@[simp] theorem State.emit_reg (s : State) (e : Emission) : (s.emit e).reg = s.reg := rfl
@[simp] theorem State.emit_sec (s : State) (e : Emission) : (s.emit e).sec = s.sec := rfl
@[simp] theorem State.emit_power (s : State) (e : Emission) : (s.emit e).power = s.power := rfl
@[simp] theorem State.emit_upd (s : State) (e : Emission) : (s.emit e).upd = s.upd := rfl
@[simp] theorem State.emit_svc (s : State) (e : Emission) : (s.emit e).svc = s.svc := rfl
@[simp] theorem State.emit_freeCtr (s : State) (e : Emission) : (s.emit e).freeCtr = s.freeCtr := rfl

/-! ### State.useFree -/

@[simp] theorem State.useFree_pending (s : State) (n : Nat) : (s.useFree n).pending = s.pending := rfl
@[simp] theorem State.useFree_t (s : State) (n : Nat) : (s.useFree n).t = s.t := rfl
@[simp] theorem State.useFree_cores (s : State) (n : Nat) : (s.useFree n).cores = s.cores := rfl
@[simp] theorem State.useFree_bay (s : State) (n : Nat) : (s.useFree n).bay = s.bay := rfl
@[simp] theorem State.useFree_bayFrames (s : State) (n : Nat) : (s.useFree n).bayFrames = s.bayFrames := rfl
@[simp] theorem State.useFree_hbm (s : State) (n : Nat) : (s.useFree n).hbm = s.hbm := rfl
@[simp] theorem State.useFree_hbmRegions (s : State) (n : Nat) : (s.useFree n).hbmRegions = s.hbmRegions := rfl
@[simp] theorem State.useFree_variant (s : State) (n : Nat) : (s.useFree n).variant = s.variant := rfl
@[simp] theorem State.useFree_pmem (s : State) (n : Nat) : (s.useFree n).pmem = s.pmem := rfl
@[simp] theorem State.useFree_host (s : State) (n : Nat) : (s.useFree n).host = s.host := rfl
@[simp] theorem State.useFree_adm (s : State) (n : Nat) : (s.useFree n).adm = s.adm := rfl
@[simp] theorem State.useFree_lve (s : State) (n : Nat) : (s.useFree n).lve = s.lve := rfl
@[simp] theorem State.useFree_mover (s : State) (n : Nat) : (s.useFree n).mover = s.mover := rfl
@[simp] theorem State.useFree_scribe (s : State) (n : Nat) : (s.useFree n).scribe = s.scribe := rfl
@[simp] theorem State.useFree_chain (s : State) (n : Nat) : (s.useFree n).chain = s.chain := rfl
@[simp] theorem State.useFree_cart (s : State) (n : Nat) : (s.useFree n).cart = s.cart := rfl
@[simp] theorem State.useFree_ds (s : State) (n : Nat) : (s.useFree n).ds = s.ds := rfl
@[simp] theorem State.useFree_reg (s : State) (n : Nat) : (s.useFree n).reg = s.reg := rfl
@[simp] theorem State.useFree_sec (s : State) (n : Nat) : (s.useFree n).sec = s.sec := rfl
@[simp] theorem State.useFree_power (s : State) (n : Nat) : (s.useFree n).power = s.power := rfl
@[simp] theorem State.useFree_upd (s : State) (n : Nat) : (s.useFree n).upd = s.upd := rfl
@[simp] theorem State.useFree_svc (s : State) (n : Nat) : (s.useFree n).svc = s.svc := rfl
@[simp] theorem State.useFree_out (s : State) (n : Nat) : (s.useFree n).out = s.out := rfl

/-! ### Cores and banks -/

@[simp] theorem State.core_setCore_self (s : State) (c : CoreId) (k : Core) : (s.setCore c k).core c = k := by
  simp [State.core, State.setCore]

@[simp] theorem State.core_setCore_other (s : State) (c c' : CoreId) (k : Core) (h : c' ≠ c) :
    (s.setCore c k).core c' = s.core c' := by
  have : c.val ≠ c'.val := fun e => h (Fin.ext e.symm)
  simp [State.core, State.setCore, this]

@[simp] theorem State.core_modCore_self (s : State) (c : CoreId) (f : Core → Core) : (s.modCore c f).core c = f (s.core c) := by
  simp [State.modCore]

@[simp] theorem State.core_modCore_other (s : State) (c c' : CoreId) (f : Core → Core) (h : c' ≠ c) :
    (s.modCore c f).core c' = s.core c' := by
  simp [State.modCore, h]

@[simp] theorem Core.bank_setBank_self (k : Core) (b : BankId) (v : Bank) : (k.setBank b v).bank b = v := by
  simp [Core.bank, Core.setBank]

@[simp] theorem Core.bank_setBank_other (k : Core) (b b' : BankId) (v : Bank) (h : b' ≠ b) :
    (k.setBank b v).bank b' = k.bank b' := by
  have : b.val ≠ b'.val := fun e => h (Fin.ext e.symm)
  simp [Core.bank, Core.setBank, this]

@[simp] theorem Core.bank_modBank_self (k : Core) (b : BankId) (f : Bank → Bank) : (k.modBank b f).bank b = f (k.bank b) := by
  simp [Core.modBank]

@[simp] theorem Core.bank_modBank_other (k : Core) (b b' : BankId) (f : Bank → Bank) (h : b' ≠ b) :
    (k.modBank b f).bank b' = k.bank b' := by
  simp [Core.modBank, h]

@[simp] theorem State.bank_modBank_self (s : State) (c : CoreId) (b : BankId) (f : Bank → Bank) :
    (s.modBank c b f).bank c b = f (s.bank c b) := by
  simp [State.modBank, State.bank]

@[simp] theorem State.bank_modBank_other (s : State) (c : CoreId) (b b' : BankId) (f : Bank → Bank) (h : b' ≠ b) :
    (s.modBank c b f).bank c b' = s.bank c b' := by
  simp [State.modBank, State.bank, h]

@[simp] theorem State.core_modBank_other (s : State) (c c' : CoreId) (b : BankId) (f : Bank → Bank) (h : c' ≠ c) :
    (s.modBank c b f).core c' = s.core c' := by
  simp [State.modBank, h]

theorem State.core_modBank_self (s : State) (c : CoreId) (b : BankId) (f : Bank → Bank) :
    (s.modBank c b f).core c = (s.core c).modBank b f := by
  simp [State.modBank]

/-- Two states equal on every field but the cores, with equal cores, are equal. -/
theorem State.setCore_core (s : State) (c : CoreId) : s.setCore c (s.core c) = s := by
  have h : s.cores.set c.val s.cores[c] c.isLt = s.cores := by
    ext i hi
    by_cases hc : c.val = i
    · subst hc; simp
    · simp [hc]
  simp only [State.setCore, State.core]
  rw [h]

/-! ### Registers -/

@[simp] theorem Bank.setReg_tsw (k : Bank) (b : BankId) (r : Reg) (v : TVal) : (k.setReg b r v).tsw = k.tsw := rfl

/-- A register written through the bank's window reads as what was written. -/
@[simp] theorem Bank.reg_setReg_self (k : Bank) (b : BankId) (r : Reg) (v : TVal) : (k.setReg b r v).reg b r = v := by
  simp [Bank.reg, Bank.setReg, Bank.setSlot, Bank.slot]

/-- A register of another slot reads as before. -/
theorem Bank.reg_setReg_other (k : Bank) (b : BankId) (r r' : Reg) (v : TVal) (h : k.slot b r' ≠ k.slot b r) :
    (k.setReg b r v).reg b r' = k.reg b r' := by
  have h' : (k.slot b r).val ≠ (k.slot b r').val := fun e => h (Fin.ext e.symm)
  simp only [Bank.reg, Bank.setReg, Bank.setSlot, Bank.slot] at h' ⊢
  simp [h']

/-! ### Memory -/

/-- A granule depends on the core's bench memory and on bay memory only. -/
theorem State.gran_congr (s t : State) (c : CoreId) (a : Nat) (hb : t.bay = s.bay) (hc : (t.core c).bench = (s.core c).bench) :
    t.gran c a = s.gran c a := by
  simp only [State.gran]
  split <;> simp [hb, hc]

theorem State.byte_congr (s t : State) (c : CoreId) (a : Nat) (hb : t.bay = s.bay) (hc : (t.core c).bench = (s.core c).bench) :
    t.byte c a = s.byte c a := by
  simp only [State.byte, State.gran_congr s t c a hb hc]

end Sys2Proof.Machine
end

