-- ==== Sys2Proof/Laws/Issue.lean ====
section
/-! SUPPORT. What the issue of an instruction does: the completion of an instruction changes only what CompletesFrom names,
and an issuing instruction whose act succeeds completes from the state its act gives. -/

namespace Sys2Proof.Machine

theorem State.setCore_setCore (s : State) (c : CoreId) (k k' : Core) : (s.setCore c k).setCore c k' = s.setCore c k' := by
  simp [State.setCore]

theorem State.charge_eq (s : State) (c : CoreId) (b : BankId) (n : Nat) :
    s.charge c b n = s.setCore c ((s.core c).modBank ((s.core c).payer b) (fun k => k.chargeCyc s.t.clock n)) := rfl

/-- A single step taken, as one replacement of the core. -/
theorem State.endStep_eq (s : State) (c : CoreId) : s.endStep c = s.setCore c { s.core c with step := false } := by
  unfold State.endStep
  split
  · rfl
  · rename_i h
    have : ({ s.core c with step := false } : Core) = s.core c := by
      have h' : (s.core c).step = false := by simpa using h
      rw [← h']
    rw [this, State.setCore_core]

/-- A charge changes CYCB and the breach only. -/
theorem Bank.chargeCyc_sameButCharge (k : Bank) (now n : Nat) : k.sameButCharge (k.chargeCyc now n) := by
  unfold Bank.chargeCyc Bank.sameButCharge
  split
  · split <;> rfl
  · rfl

/-- No charge where CHARGE is off. -/
theorem Bank.chargeCyc_off (k : Bank) (now n : Nat) (h : k.charge = false) : k.chargeCyc now n = k := by
  simp [Bank.chargeCyc, h]

/-- The core after the completion of an instruction: bank b changed by f, the paying bank charged. -/
def Core.completed (k : Core) (b : BankId) (f : Bank → Bank) (o : Option (BankId × Bool)) (now n : Nat) : Core :=
  { (k.modBank b f).modBank (k.payer b) (fun v => v.chargeCyc now n) with loopOwner := o, step := false }

theorem Core.completed_bank (k : Core) (b b' : BankId) (f : Bank → Bank) (o : Option (BankId × Bool)) (now n : Nat) :
    (k.completed b f o now n).bank b' = ((k.modBank b f).modBank (k.payer b) (fun v => v.chargeCyc now n)).bank b' := rfl

theorem Bank.sameButIssue_charge (k v : Bank) (now n : Nat) (h : k.sameButIssue v) : k.sameButIssue (v.chargeCyc now n) := by
  have e := Bank.chargeCyc_sameButCharge v now n
  unfold Bank.sameButCharge at e
  unfold Bank.sameButIssue at h ⊢
  rw [e, h]

/-- A state whose core c has completed an instruction of bank b, as CompletesFrom says. -/
theorem completesFrom_completed (u : State) (c : CoreId) (b : BankId) (f : Bank → Bank) (o : Option (BankId × Bool)) (n : Nat)
    (hf : (u.bank c b).sameButIssue (f (u.bank c b)))
    (hc : (f (u.bank c b)).charge = false → (u.bank c b).unchargedAs (f (u.bank c b))) (now : Nat) :
    CompletesFrom u (u.setCore c ((u.core c).completed b f o now n)) c b := by
  have hb : ∀ b', (u.setCore c ((u.core c).completed b f o now n)).bank c b'
      = (((u.core c).modBank b f).modBank ((u.core c).payer b) (fun v => v.chargeCyc now n)).bank b' := by
    intro b'; simp [State.bank, Core.completed_bank]
  have hcore : (u.setCore c ((u.core c).completed b f o now n)).core c = (u.core c).completed b f o now n := State.core_setCore_self ..
  refine ⟨rfl, fun c' h => by simp [h], ?_, ?_, ?_, ?_, ?_, ?_⟩
  · rw [hcore]; rfl
  · intro b' h1 h2
    rw [hb, Core.bank_modBank_other _ _ _ _ h2, Core.bank_modBank_other _ _ _ _ h1]; rfl
  · intro b' h1
    rw [hb]
    by_cases h2 : b' = (u.core c).payer b
    · rw [← h2, Core.bank_modBank_self, Core.bank_modBank_other _ _ _ _ h1]
      exact Bank.chargeCyc_sameButCharge _ _ _
    · rw [Core.bank_modBank_other _ _ _ _ h2, Core.bank_modBank_other _ _ _ _ h1]; rfl
  · rw [hb]
    by_cases h2 : b = (u.core c).payer b
    · rw [← h2, Core.bank_modBank_self, Core.bank_modBank_self]
      exact Bank.sameButIssue_charge _ _ _ _ hf
    · rw [Core.bank_modBank_other _ _ _ _ h2, Core.bank_modBank_self]; exact hf
  · intro b' h
    rw [hb]
    have key : ∀ v : Bank, v.charge = (u.bank c b').charge → v.chargeCyc now n = v := by
      intro v hv; exact Bank.chargeCyc_off _ _ _ (by rw [hv, h])
    have hfc : (f (u.bank c b)).charge = (u.bank c b).charge := by
      unfold Bank.sameButIssue at hf; rw [hf]
    by_cases h1 : b' = b
    · subst h1
      by_cases h2 : b' = (u.core c).payer b'
      · rw [← h2, Core.bank_modBank_self, Core.bank_modBank_self]
        have : (f ((u.core c).bank b')).chargeCyc now n = f ((u.core c).bank b') := key _ hfc
        rw [this]; exact hc (by rw [hfc]; exact h)
      · rw [Core.bank_modBank_other _ _ _ _ h2, Core.bank_modBank_self]; exact hc (by rw [hfc]; exact h)
    · by_cases h2 : b' = (u.core c).payer b
      · rw [← h2, Core.bank_modBank_self, Core.bank_modBank_other _ _ _ _ h1]
        have : ((u.core c).bank b').chargeCyc now n = (u.core c).bank b' := key _ rfl
        rw [this]; exact ⟨rfl, rfl, rfl⟩
      · rw [Core.bank_modBank_other _ _ _ _ h2, Core.bank_modBank_other _ _ _ _ h1]; exact ⟨rfl, rfl, rfl⟩
  · intro c' a
    apply State.byte_congr
    · rfl
    · by_cases h : c' = c
      · subst h; rw [hcore]; rfl
      · rw [State.core_setCore_other _ _ _ _ h]

/-- The bank function of a fall-through. -/
theorem Bank.sameButIssue_pc (k : Bank) (p l e : W32) : k.sameButIssue { k with pc := p, lcnt := l, lend := e } := rfl

/-- An instruction that falls through. -/
theorem retire_movedOn (s u : State) (c : CoreId) (b : BankId) (words cost : Nat) (w : Nat × Nat) (l : Option (Fin 104)) :
    MovedOn s u ((s.retire c b words ⟨u, cost, none, false, w, l⟩).endStep c) c b words := by
  rw [State.endStep_eq]
  simp only [State.retire, Bool.false_eq_true, if_false]
  by_cases hl : ((u.bank c b).loopLive && (s.bank c b).pc.toNat + 4 * (words - 1) == lendEnd (u.bank c b).lend) = true
  · rw [if_pos hl]
    have hlive : (u.bank c b).loopLive = true := (Bool.and_eq_true _ _ ▸ hl).1
    have hlive' : (u.bank c b).loopLive ≠ false := by simp [hlive]
    refine ⟨?_, fun h => absurd h hlive'⟩
    generalize hF : (fun k : Bank => if (u.bank c b).lcnt - 1 = 0 then
      { k with lcnt := (u.bank c b).lcnt - 1, lend := lendOff k.lend, pc := BitVec.ofNat 32 (lendEnd k.lend + 4) }
      else { k with lcnt := (u.bank c b).lcnt - 1, pc := BitVec.ofNat 32 (lendStart k.lend) }) = F
    generalize hO : (fun kk : Core => if (u.bank c b).lcnt - 1 = 0 then (kk.dropLoop b).loopOwner else kk.captured b) = O
    have hsame : (u.bank c b).sameButIssue (F (u.bank c b)) := by
      subst hF; unfold Bank.sameButIssue; dsimp only; split <;> rfl
    have hcy : (F (u.bank c b)).charge = false → (u.bank c b).unchargedAs (F (u.bank c b)) := by
      subst hF; dsimp only; split <;> exact fun _ => ⟨rfl, rfl, rfl⟩
    have key := completesFrom_completed u c b F (O (u.core c)) cost hsame hcy u.t.clock
    have heq : (((u.modBank c b F).modCore c (fun kk => { kk with loopOwner := O kk })).charge c b cost).setCore c
        { (((u.modBank c b F).modCore c (fun kk => { kk with loopOwner := O kk })).charge c b cost).core c with step := false }
        = u.setCore c ((u.core c).completed b F (O (u.core c)) u.t.clock cost) := by
      simp only [State.modBank, State.modCore, State.charge, State.setCore_setCore, State.core_setCore_self, Core.completed]
      subst hO
      rfl
    subst hO
    rw [heq]; exact key
  · rw [if_neg hl]
    have key := completesFrom_completed u c b (fun k => { k with pc := (s.bank c b).pc + BitVec.ofNat 32 (4 * words) })
      (u.core c).loopOwner cost rfl (fun _ => ⟨rfl, rfl, rfl⟩) u.t.clock
    have heq : ((u.modBank c b (fun k => { k with pc := (s.bank c b).pc + BitVec.ofNat 32 (4 * words) })).charge c b cost).setCore c
        { ((u.modBank c b (fun k => { k with pc := (s.bank c b).pc + BitVec.ofNat 32 (4 * words) })).charge c b cost).core c with step := false }
        = u.setCore c ((u.core c).completed b (fun k => { k with pc := (s.bank c b).pc + BitVec.ofNat 32 (4 * words) }) (u.core c).loopOwner u.t.clock cost) := by
      simp only [State.modBank, State.modCore, State.charge, State.setCore_setCore, State.core_setCore_self, Core.completed]
      rfl
    rw [heq]
    refine ⟨key, fun _ => ?_⟩
    simp only [State.bank, State.core_setCore_self, Core.completed_bank]
    by_cases h2 : b = (u.core c).payer b
    · rw [← h2, Core.bank_modBank_self, Core.bank_modBank_self]
      have e := Bank.chargeCyc_sameButCharge ({ (u.core c).bank b with pc := ((s.core c).bank b).pc + BitVec.ofNat 32 (4 * words) } : Bank) u.t.clock cost
      unfold Bank.sameButCharge at e
      rw [e]; exact ⟨rfl, rfl, rfl, rfl⟩
    · rw [Core.bank_modBank_other _ _ _ _ h2, Core.bank_modBank_self]; exact ⟨rfl, rfl, rfl, rfl⟩

/-- A completion, bank by bank, where the bank function changes neither CYCB nor the breach. -/
theorem completed_pc (u : State) (c : CoreId) (b : BankId) (f : Bank → Bank) (o : Option (BankId × Bool)) (now n : Nat) :
    let t := u.setCore c ((u.core c).completed b f o now n)
    (t.bank c b).pc = (f (u.bank c b)).pc ∧ (t.bank c b).lcnt = (f (u.bank c b)).lcnt ∧ (t.bank c b).lend = (f (u.bank c b)).lend
      ∧ (t.core c).loopOwner = o := by
  simp only [State.bank, State.core_setCore_self, Core.completed_bank]
  by_cases h2 : b = (u.core c).payer b
  · rw [← h2, Core.bank_modBank_self, Core.bank_modBank_self]
    have e := Bank.chargeCyc_sameButCharge (f ((u.core c).bank b)) now n
    unfold Bank.sameButCharge at e
    rw [e]; exact ⟨rfl, rfl, rfl, rfl⟩
  · rw [Core.bank_modBank_other _ _ _ _ h2, Core.bank_modBank_self]; exact ⟨rfl, rfl, rfl, rfl⟩

/-- A taken branch. -/
theorem retire_jumpedTo (s u : State) (c : CoreId) (b : BankId) (words cost : Nat) (target : W32) (w : Nat × Nat) (l : Option (Fin 104)) :
    JumpedTo u ((s.retire c b words ⟨u, cost, some target, false, w, l⟩).endStep c) c b target := by
  rw [State.endStep_eq]
  simp only [State.retire, Bool.false_eq_true, if_false]
  generalize (if ((u.bank c b).loopLive && (decide (lendStart (u.bank c b).lend ≤ target.toNat) && decide (target.toNat ≤ lendEnd (u.bank c b).lend))
    && ((u.core c).ownsLoop b && (decide (lendStart (u.bank c b).lend ≤ (s.bank c b).pc.toNat) && decide ((s.bank c b).pc.toNat ≤ lendEnd (u.bank c b).lend)))
    && (u.core c).serviceMode) = true then cost - 1 else cost) = n
  have hleave : ((u.bank c b).loopLive && !(decide (lendStart (u.bank c b).lend ≤ target.toNat) && decide (target.toNat ≤ lendEnd (u.bank c b).lend)))
      = (u.bank c b).leavesLoop target := rfl
  generalize hF : (fun k : Bank => ({ k with
    pc := target
    lend := if (k.loopLive && !(decide (lendStart (u.bank c b).lend ≤ target.toNat) && decide (target.toNat ≤ lendEnd (u.bank c b).lend))) = true
      then lendOff k.lend else k.lend } : Bank)) = F
  rw [hleave]
  have hsame : (u.bank c b).sameButIssue (F (u.bank c b)) := by subst hF; rfl
  have key := completesFrom_completed u c b F
    (if (u.bank c b).leavesLoop target = true then ((u.core c).dropLoop b).loopOwner else (u.core c).loopOwner) n hsame
    (by subst hF; exact fun _ => ⟨rfl, rfl, rfl⟩) u.t.clock
  have hlend : (F (u.bank c b)).lend = if (u.bank c b).leavesLoop target = true then lendOff (u.bank c b).lend else (u.bank c b).lend := by
    subst hF; rfl
  have hpc : (F (u.bank c b)).pc = target := by subst hF; rfl
  have hlcnt : (F (u.bank c b)).lcnt = (u.bank c b).lcnt := by subst hF; rfl
  clear hF hleave
  obtain ⟨h1, h2, h3, h4⟩ := completed_pc u c b F
    (if (u.bank c b).leavesLoop target = true then ((u.core c).dropLoop b).loopOwner else (u.core c).loopOwner) u.t.clock n
  have heq : ((if (u.bank c b).leavesLoop target = true then (u.modBank c b F).modCore c (fun k => k.dropLoop b) else u.modBank c b F).charge c b n).setCore c
      { ((if (u.bank c b).leavesLoop target = true then (u.modBank c b F).modCore c (fun k => k.dropLoop b) else u.modBank c b F).charge c b n).core c with step := false }
      = u.setCore c ((u.core c).completed b F
          (if (u.bank c b).leavesLoop target = true then ((u.core c).dropLoop b).loopOwner else (u.core c).loopOwner) u.t.clock n) := by
    split
    all_goals
      simp only [State.modBank, State.modCore, State.charge, State.setCore_setCore, State.core_setCore_self, Core.completed, *]
      rfl
  rw [heq]
  exact ⟨key, h1.trans hpc, h2.trans hlcnt, h3.trans hlend, h4⟩

/-- An instruction that has set PC itself. -/
theorem retire_settledAs (s u : State) (c : CoreId) (b : BankId) (words cost : Nat) (w : Nat × Nat) (l : Option (Fin 104)) :
    SettledAs u ((s.retire c b words ⟨u, cost, none, true, w, l⟩).endStep c) c b := by
  rw [State.endStep_eq]
  simp only [State.retire, if_true]
  have key := completesFrom_completed u c b (fun k => k) (u.core c).loopOwner cost rfl (fun _ => ⟨rfl, rfl, rfl⟩) u.t.clock
  have hid : (u.core c).modBank b (fun k => k) = u.core c := by
    have h : (u.core c).banks.set b.val (u.core c).banks[b] b.isLt = (u.core c).banks := by
      ext i hi
      by_cases hb : b.val = i
      · subst hb; simp
      · simp
    simp only [Core.modBank, Core.setBank, Core.bank]
    rw [h]
  have heq : (u.charge c b cost).setCore c { (u.charge c b cost).core c with step := false }
      = u.setCore c ((u.core c).completed b (fun k => k) (u.core c).loopOwner u.t.clock cost) := by
    simp only [State.modBank, State.modCore, State.charge, State.setCore_setCore, State.core_setCore_self, Core.completed, hid]
    rfl
  rw [heq]
  obtain ⟨h1, h2, h3, h4⟩ := completed_pc u c b (fun k => k) (u.core c).loopOwner u.t.clock cost
  exact ⟨key, h1, h2, h3, h4⟩

/-! ### The register just loaded -/

/-- The note of a register just loaded, as one replacement of the core. -/
theorem State.setLoaded_eq (s : State) (c : CoreId) (o : Option (BankId × Fin 104)) :
    s.setLoaded c o = s.setCore c { s.core c with loaded := o } := by
  unfold State.setLoaded
  split
  · rename_i h
    have : ({ s.core c with loaded := o } : Core) = s.core c := by rw [← h]
    rw [this, State.setCore_core]
  · rfl

@[simp] theorem State.setLoaded_bank (s : State) (c : CoreId) (o : Option (BankId × Fin 104)) (b : BankId) :
    (s.setLoaded c o).bank c b = s.bank c b := by
  rw [State.setLoaded_eq]
  simp only [State.bank, State.core_setCore_self]
  rfl

@[simp] theorem State.setLoaded_loopOwner (s : State) (c : CoreId) (o : Option (BankId × Fin 104)) :
    ((s.setLoaded c o).core c).loopOwner = (s.core c).loopOwner := by
  rw [State.setLoaded_eq, State.core_setCore_self]

/-- A completion may note the register that it has loaded. -/
theorem CompletesFrom.setLoaded {u t : State} {c : CoreId} {b : BankId} (h : CompletesFrom u t c b) (o : Option (BankId × Fin 104)) :
    CompletesFrom u (t.setLoaded c o) c b := by
  obtain ⟨h1, h2, h3, h4, h5, h6, h7, h8⟩ := h
  have hcore : (t.setLoaded c o).core c = { t.core c with loaded := o } := by rw [State.setLoaded_eq, State.core_setCore_self]
  refine ⟨?_, ?_, ?_, ?_, ?_, ?_, ?_, ?_⟩
  · rw [State.setLoaded_eq, h1]; rfl
  · intro c' hc; rw [State.setLoaded_eq, State.core_setCore_other _ _ _ _ hc]; exact h2 c' hc
  · rw [hcore, h3]
  · intro b' hb hp; rw [State.setLoaded_bank]; exact h4 b' hb hp
  · intro b' hb; rw [State.setLoaded_bank]; exact h5 b' hb
  · rw [State.setLoaded_bank]; exact h6
  · intro b' hb; rw [State.setLoaded_bank]; exact h7 b' hb
  · intro c' a
    rw [← h8 c' a]
    apply State.byte_congr
    · rw [State.setLoaded_eq]; rfl
    · by_cases hc : c' = c
      · subst hc; rw [hcore]
      · rw [State.setLoaded_eq, State.core_setCore_other _ _ _ _ hc]

theorem MovedOn.setLoaded {s u t : State} {c : CoreId} {b : BankId} {n : Nat} (h : MovedOn s u t c b n) (o : Option (BankId × Fin 104)) :
    MovedOn s u (t.setLoaded c o) c b n := by
  refine ⟨h.1.setLoaded o, fun hl => ?_⟩
  simpa using h.2 hl

theorem JumpedTo.setLoaded {u t : State} {c : CoreId} {b : BankId} {a : W32} (h : JumpedTo u t c b a) (o : Option (BankId × Fin 104)) :
    JumpedTo u (t.setLoaded c o) c b a := by
  refine ⟨h.1.setLoaded o, ?_⟩
  simpa using h.2

theorem SettledAs.setLoaded {u t : State} {c : CoreId} {b : BankId} (h : SettledAs u t c b) (o : Option (BankId × Fin 104)) :
    SettledAs u (t.setLoaded c o) c b := by
  refine ⟨h.1.setLoaded o, ?_⟩
  simpa using h.2

/-! ### The issue of an instruction -/

/-- The register that a completion notes as just loaded. -/
def Done.noted (d : Done) (b : BankId) : Option (BankId × Fin 104) := d.loaded.map (fun i => (b, i))

/-- An issuing one-word instruction whose act completes answers the retired state. -/
theorem issue_ok (c : CoreId) (b : BankId) (body : State → BankId → Act) (s : State) (d : Done) (h : Issues s c b)
    (hd : body s b = .ok d) : issue c body s = .next (((s.retire c b 1 d).endStep c).setLoaded c (d.noted b)) := by
  obtain ⟨h1, h2, h3⟩ := h
  simp [issue, issueW, h1, h2, h3, hd, Done.noted]

/-- An issuing two-word instruction whose act completes answers the retired state. -/
theorem issueW_two_ok (c : CoreId) (b : BankId) (body : State → BankId → Act) (s : State) (d : Done) (h : IssuesTwo s c b)
    (hd : body s b = .ok d) : issueW c 2 body s = .next (((s.retire c b 2 d).endStep c).setLoaded c (d.noted b)) := by
  obtain ⟨⟨h1, h2, h3⟩, h4⟩ := h
  simp [issueW, h1, h2, h3, h4, hd, Done.noted]

/-- An issuing instruction that falls through. -/
theorem issue_movedOn (c : CoreId) (b : BankId) (body : State → BankId → Act) (s u : State) (cost : Nat) (h : Issues s c b)
    (hd : body s b = finish u cost) : ∃ t, issue c body s = .next t ∧ MovedOn s u t c b 1 :=
  ⟨_, issue_ok c b body s _ h hd, (retire_movedOn s u c b 1 cost (0, 0) none).setLoaded _⟩

/-- An issuing instruction that branches. -/
theorem issue_jumpedTo (c : CoreId) (b : BankId) (body : State → BankId → Act) (s u : State) (target : W32) (cost : Nat)
    (h : Issues s c b) (hd : body s b = jumpTo u target cost) : ∃ t, issue c body s = .next t ∧ JumpedTo u t c b target :=
  ⟨_, issue_ok c b body s _ h hd, (retire_jumpedTo s u c b 1 cost target (0, 0) none).setLoaded _⟩

/-- An issuing instruction that sets PC itself. -/
theorem issue_settledAs (c : CoreId) (b : BankId) (body : State → BankId → Act) (s u : State) (cost : Nat) (h : Issues s c b)
    (hd : body s b = settled u cost) : ∃ t, issue c body s = .next t ∧ SettledAs u t c b :=
  ⟨_, issue_ok c b body s _ h hd, (retire_settledAs s u c b 1 cost (0, 0) none).setLoaded _⟩

/-- An issuing load falls through and notes its register. -/
theorem issue_loading (c : CoreId) (b : BankId) (body : State → BankId → Act) (s u : State) (cost addr : Nat) (i : Fin 104)
    (h : Issues s c b) (hd : body s b = loading i addr (finish u cost)) : ∃ t, issue c body s = .next t ∧ MovedOn s u t c b 1 :=
  ⟨_, issue_ok c b body s _ h hd, (retire_movedOn s u c b 1 cost (0, 0) _).setLoaded _⟩

/-- An issuing instruction that faults leaves its fault to be entered (09 R361). -/
theorem issue_fault (c : CoreId) (b : BankId) (body : State → BankId → Act) (s : State) (v cause : Nat) (addr : W32) (info : Nat)
    (h : Issues s c b) (hd : body s b = .error (.fault v cause addr info)) :
    issue c body s = .next ((s.latch c b v cause addr info).endStep c) := by
  obtain ⟨h1, h2, h3⟩ := h
  simp [issue, issueW, h1, h2, h3, hd]

/-- An instruction of a core that issues nothing has no effect. -/
theorem issueW_none (c : CoreId) (words : Nat) (body : State → BankId → Act) (s : State) (h : (s.core c).issuer = none) :
    issueW c words body s = .next s := by
  simp [issueW, h]

/-- An issue never stops. -/
theorem issueW_next (c : CoreId) (words : Nat) (body : State → BankId → Act) (s : State) :
    ∃ t, issueW c words body s = .next t := by
  unfold issueW
  split
  · exact ⟨_, rfl⟩
  · dsimp only
    split
    · exact ⟨_, rfl⟩
    · split
      · exact ⟨_, rfl⟩
      · split <;> exact ⟨_, rfl⟩

end Sys2Proof.Machine
end

