-- ==== Sys2Proof/Laws/Memory.lean ====
section
/-! SUPPORT. Laws of the memories: every operation keeps the canonical form; a read after a write gives what was written, and
every other granule and octet stands. -/

namespace Sys2Proof.Machine

/-! ### The canonical form -/

/-- A change of one core that keeps that core's tables in form keeps every memory in form. -/
theorem State.memWf_modCore {s : State} (h : s.memWf) (c : CoreId) (f : Core → Core) (hf : (s.core c).memWf → (f (s.core c)).memWf) :
    (s.modCore c f).memWf := by
  obtain ⟨h1, h2, h3, h4, h5, h6⟩ := h
  refine ⟨h1, h2, h3, h4, h5, fun c' => ?_⟩
  by_cases e : c' = c
  · subst e; simpa [State.modCore] using hf (h6 c')
  · simpa [State.modCore, e] using h6 c'

theorem State.memWf_setGran {s : State} (h : s.memWf) (c : CoreId) (a : Nat) (v : TVal) : (s.setGran c a v).memWf := by
  unfold State.setGran
  split
  · exact State.memWf_modCore h c _ (fun k => ⟨SMap.wf_set _ _ _ _ k.1, k.2⟩)
  · exact ⟨SMap.wf_set _ _ _ _ h.1, h.2⟩
  · exact h

theorem State.memWf_setFrame {s : State} (h : s.memWf) (c : CoreId) (a : Nat) (e : FrameEntry) : (s.setFrame c a e).memWf := by
  unfold State.setFrame
  split
  · exact State.memWf_modCore h c _ (fun k => ⟨k.1, SMap.wf_set _ _ _ _ k.2⟩)
  · exact ⟨h.1, SMap.wf_set _ _ _ _ h.2.1, h.2.2⟩
  · exact h

theorem State.memWf_setHbmGran {s : State} (h : s.memWf) (o : Nat) (v : TVal) : (s.setHbmGran o v).memWf :=
  ⟨h.1, h.2.1, SMap.wf_set _ _ _ _ h.2.2.1, h.2.2.2⟩

theorem State.memWf_setByte {s : State} (h : s.memWf) (c : CoreId) (a : Nat) (b : Byte) : (s.setByte c a b).memWf :=
  State.memWf_setGran h c a _

theorem State.memWf_setOctets {s : State} (h : s.memWf) (c : CoreId) (a : Nat) (l : Octets) : (s.setOctets c a l).memWf := by
  induction l generalizing s a with
  | nil => exact h
  | cons b l ih => exact ih (State.memWf_setByte h c a b) (a + 1)

/-- A fold of steps that each keep the canonical form keeps it. -/
theorem memWf_foldl {α : Type} (f : State → α → State) (hf : ∀ s a, s.memWf → (f s a).memWf) (l : List α) {s : State} (h : s.memWf) :
    (l.foldl f s).memWf := by
  induction l generalizing s with
  | nil => exact h
  | cons a l ih => exact ih (hf s a h)

theorem State.memWf_engPut {s : State} (h : s.memWf) (c : CoreId) (a : Nat) (l : Octets) : (s.engPut c a l).memWf := by
  induction l generalizing s a with
  | nil => exact h
  | cons b l ih =>
    have key : ∀ p : Bool, (if p = true then s.setByte c a b else s).memWf := by
      intro p; cases p
      · exact h
      · exact State.memWf_setByte h c a b
    exact ih (key _) (a + 1)

theorem State.memWf_tsbPut {s : State} (h : s.memWf) (c : CoreId) (b : BankId) (o : Nat) (l : Octets) : (s.tsbPut c b o l).memWf := by
  unfold State.tsbPut
  split
  · exact State.memWf_engPut h c _ l
  · exact h

/-- A change of one bank keeps every memory as it is. -/
theorem State.memWf_modBank {s : State} (h : s.memWf) (c : CoreId) (b : BankId) (f : Bank → Bank) : (s.modBank c b f).memWf :=
  State.memWf_modCore h c _ (fun k => k)

theorem State.memWf_setMemGran {s : State} (h : s.memWf) (hbm : Bool) (a : Nat) (v : TVal) : (s.setMemGran hbm a v).memWf := by
  unfold State.setMemGran
  split
  · exact State.memWf_setHbmGran h a v
  · exact State.memWf_setGran h 0 a v

theorem State.memWf_setMem {s : State} (h : s.memWf) (hbm : Bool) (a : Nat) (l : Octets) : (s.setMem hbm a l).memWf := by
  induction l generalizing s a with
  | nil => exact h
  | cons b l ih => exact ih (State.memWf_setMemGran h hbm a _) (a + 1)

/-- Granules taken out of a table leave it in form: the table reads as RAW zero there. -/
theorem wfFrom_filter {α : Type} [DecidableEq α] (d : α) (p : Nat × α → Bool) (m : SMap α) (lo : Option Nat)
    (h : SMap.wfFrom d lo m = true) : SMap.wfFrom d lo (m.filter p) = true := by
  induction m generalizing lo with
  | nil => rfl
  | cons x m ih =>
    obtain ⟨k, v⟩ := x
    simp only [SMap.wfFrom, Bool.and_eq_true] at h
    have h2 := ih (some k) h.2
    by_cases hp : p (k, v) = true
    · simp only [List.filter_cons, hp, if_true, SMap.wfFrom, Bool.and_eq_true]
      exact ⟨h.1, h2⟩
    · simp only [List.filter_cons, hp]
      refine SMap.wfFrom_weaken d _ (some k) lo h2 ?_ (by simp)
      intro a b ha hb
      subst ha
      cases hb
      have := h.1.1
      simp only [decide_eq_true_eq] at this
      omega

theorem wf_zeroGrans (m : SMap TVal) (g : Nat) (h : SMap.wf TVal.zero m = true) : SMap.wf TVal.zero (zeroGrans m g) = true :=
  wfFrom_filter _ _ m none h

theorem State.memWf_zeroFrame {s : State} (h : s.memWf) (c : CoreId) (a : Nat) : (s.zeroFrame c a).memWf := by
  unfold State.zeroFrame
  split
  · exact ⟨wf_zeroGrans _ _ h.1, h.2⟩
  · exact State.memWf_modCore h c _ (fun k => ⟨wf_zeroGrans _ _ k.1, k.2⟩)

/-- A region of HBM set (12 R491). -/
theorem State.memWf_setRegion {s : State} (h : s.memWf) (r : Nat) (e : FrameEntry) :
    ({ s with hbmRegions := s.hbmRegions.set FrameEntry.zero r e } : State).memWf :=
  ⟨h.1, h.2.1, h.2.2.1, SMap.wf_set _ _ _ _ h.2.2.2.1, h.2.2.2.2⟩

theorem wf_pmemPut (l : List (Byte × Nat)) (a : Nat) (m : SMap Byte) (h : SMap.wf (0 : Byte) m = true) :
    SMap.wf (0 : Byte) (l.foldl (fun m (b, i) => SMap.set 0 m (a + i) b) m) = true := by
  induction l generalizing m with
  | nil => exact h
  | cons x l ih => exact ih _ (SMap.wf_set _ _ _ _ h)

theorem State.memWf_emit {s : State} (h : s.memWf) (e : Emission) : (s.emit e).memWf := h

theorem State.memWf_spacePut {s : State} (h : s.memWf) (c : CoreId) (space a : Nat) (d : Octets) : (s.spacePut c space a d).memWf := by
  unfold State.spacePut
  split
  · exact State.memWf_setMem h true a d
  · exact ⟨h.1, h.2.1, h.2.2.1, h.2.2.2.1, wf_pmemPut _ _ _ h.2.2.2.2.1, h.2.2.2.2.2⟩
  · split
    · exact h
    · exact State.memWf_emit h _
  · exact State.memWf_setOctets h c a d

theorem State.memWf_granCopy {s : State} (h : s.memWf) (c : CoreId) (m : MovOp) (off : Nat) : (s.granCopy c m off).memWf := by
  unfold State.granCopy
  split
  · exact State.memWf_setHbmGran h _ _
  · exact State.memWf_setGran h c _ _

theorem State.memWf_moveBytes {s : State} (h : s.memWf) (c : CoreId) (m : MovOp) (host : Octets) (n : Nat) :
    (s.moveBytes c m host n).memWf := by
  unfold State.moveBytes
  split
  · exact memWf_foldl _ (fun _ _ k => State.memWf_granCopy k c m _) _ h
  · exact State.memWf_spacePut h c _ _ _

/-- The memory after reset is in form: nothing is listed. -/
theorem memWf_reset : State.reset.memWf := by
  refine ⟨rfl, rfl, rfl, rfl, rfl, fun c => ?_⟩
  have : (State.reset.core c).bench = [] ∧ (State.reset.core c).frames = [] := by
    simp [State.core, State.reset, Core.reset]
  exact ⟨by rw [this.1]; rfl, by rw [this.2]; rfl⟩

/-! ### Reading back -/

/-- A granule written reads as what was written, wherever the address map has memory. -/
theorem State.gran_setGran_self {s : State} (h : s.memWf) (c : CoreId) (a a' : Nat) (v : TVal) (hl : locOf a ≠ none)
    (he : locOf a' = locOf a) : (s.setGran c a v).gran c a' = v := by
  unfold State.gran State.setGran
  rw [he]
  split
  · rename_i g hg
    simp only [State.modCore, State.core_setCore_self]
    exact SMap.get_set_self _ _ _ _ (h.2.2.2.2.2 c).1
  · exact SMap.get_set_self _ _ _ _ h.1
  · rename_i hn; exact absurd hn hl

/-- A granule elsewhere stands. -/
theorem State.gran_setGran_other (s : State) (c : CoreId) (a a' : Nat) (v : TVal) (he : locOf a' ≠ locOf a) :
    (s.setGran c a v).gran c a' = s.gran c a' := by
  unfold State.gran State.setGran
  cases ha : locOf a with
  | none => rfl
  | some x =>
    cases x with
    | bench g =>
      cases ha' : locOf a' with
      | none => rfl
      | some y =>
        cases y with
        | bench g' =>
          have : g' ≠ g := by intro e; subst e; exact he (ha'.trans ha.symm)
          simp only [State.modCore, State.core_setCore_self]
          exact SMap.get_set_other _ _ _ _ _ this
        | bay g' => rfl
    | bay g =>
      cases ha' : locOf a' with
      | none => rfl
      | some y =>
        cases y with
        | bench g' => rfl
        | bay g' =>
          have : g' ≠ g := by intro e; subst e; exact he (ha'.trans ha.symm)
          exact SMap.get_set_other _ _ _ _ _ this

/-- Addresses lie in one granule when they are equal after division by 16, and only then. -/
theorem locOf_eq_of_div {a a' : Nat} (h : a' / 16 = a / 16) : locOf a' = locOf a := by
  unfold locOf
  by_cases h1 : a ≤ 0x7FFFF
  · have h2 : a' ≤ 0x7FFFF := by omega
    rw [if_pos h1, if_pos h2, h]
  · have h2 : ¬ a' ≤ 0x7FFFF := by omega
    rw [if_neg h1, if_neg h2]
    by_cases h3 : 0x10000000 ≤ a ∧ a ≤ 0x13EBFFFF
    · have h4 : 0x10000000 ≤ a' ∧ a' ≤ 0x13EBFFFF := by omega
      have h5 : (a' - 0x10000000) / 16 = (a - 0x10000000) / 16 := by omega
      rw [if_pos h3, if_pos h4, h5]
    · have h4 : ¬ (0x10000000 ≤ a' ∧ a' ≤ 0x13EBFFFF) := by omega
      rw [if_neg h3, if_neg h4]

theorem locOf_ne_of_div {a a' : Nat} (hl : locOf a ≠ none) (h : a' / 16 ≠ a / 16) : locOf a' ≠ locOf a := by
  intro e
  unfold locOf at e hl
  by_cases h1 : a ≤ 0x7FFFF
  · rw [if_pos h1] at e
    by_cases h2 : a' ≤ 0x7FFFF
    · rw [if_pos h2] at e
      injection e with e; injection e with e
      exact h e
    · rw [if_neg h2] at e
      by_cases h3 : 0x10000000 ≤ a' ∧ a' ≤ 0x13EBFFFF
      · rw [if_pos h3] at e; injection e with e; injection e
      · rw [if_neg h3] at e; cases e
  · rw [if_neg h1] at e hl
    by_cases h4 : 0x10000000 ≤ a ∧ a ≤ 0x13EBFFFF
    · rw [if_pos h4] at e
      by_cases h2 : a' ≤ 0x7FFFF
      · rw [if_pos h2] at e; injection e with e; injection e
      · rw [if_neg h2] at e
        by_cases h3 : 0x10000000 ≤ a' ∧ a' ≤ 0x13EBFFFF
        · rw [if_pos h3] at e
          injection e with e; injection e with e
          omega
        · rw [if_neg h3] at e; cases e
    · rw [if_neg h4] at hl; exact hl rfl

/-- The octet of a payload with an octet replaced. -/
theorem putByte_octet (v : Payload) (i j : Nat) (b : Byte) (hi : i < 16) (hj : j < 16) :
    BitVec.ofNat 8 ((putByte v i b).toNat / 2 ^ (8 * j) % 256) = if j = i then b else BitVec.ofNat 8 (v.toNat / 2 ^ (8 * j) % 256) := by
  have key : ∀ w : Payload, BitVec.ofNat 8 (w.toNat / 2 ^ (8 * j) % 256) = w.extractLsb' (8 * j) 8 := by
    intro w; apply BitVec.eq_of_toNat_eq; simp [Nat.shiftRight_eq_div_pow]
  rw [key, key]
  apply BitVec.eq_of_getLsbD_eq
  intro k hk
  unfold putByte
  rw [BitVec.getLsbD_extractLsb']
  have hm : ∀ n : Nat, n < 128 → (BitVec.ofNat 128 (255 * 2 ^ (8 * i))).getLsbD n = (decide (8 * i ≤ n) && decide (n < 8 * i + 8)) := by
    intro n hn
    rw [BitVec.getLsbD_ofNat]
    rw [Nat.testBit_mul_two_pow, show (255 : Nat) = 2 ^ 8 - 1 from rfl, Nat.testBit_two_pow_sub_one]
    simp only [hn, decide_true, Bool.true_and]
    by_cases h1 : 8 * i ≤ n
    · simp only [h1, decide_true, Bool.true_and]; congr 1; simp; omega
    · simp [h1]
  have hb : ∀ n : Nat, n < 128 → (BitVec.ofNat 128 (b.toNat * 2 ^ (8 * i))).getLsbD n = (decide (8 * i ≤ n) && b.getLsbD (n - 8 * i)) := by
    intro n hn
    rw [BitVec.getLsbD_ofNat, Nat.testBit_mul_two_pow]
    simp only [hn, decide_true, Bool.true_and]
    rfl
  have hn : 8 * j + k < 128 := by omega
  rw [BitVec.getLsbD_or, BitVec.getLsbD_and, BitVec.getLsbD_not, hm _ hn, hb _ hn]
  simp only [hk, decide_true, Bool.true_and, hn]
  by_cases e : j = i
  · subst e
    simp only [if_true, show 8 * j ≤ 8 * j + k from by omega, show 8 * j + k < 8 * j + 8 from by omega, decide_true, Bool.and_self,
      Bool.not_true, Bool.and_false, Bool.false_or, Bool.true_and, Nat.add_sub_cancel_left]
  · rw [if_neg e, BitVec.getLsbD_extractLsb']
    simp only [hk, decide_true, Bool.true_and]
    by_cases h1 : 8 * i ≤ 8 * j + k
    · have h2 : ¬ 8 * j + k < 8 * i + 8 := by omega
      have h3 : b.getLsbD (8 * j + k - 8 * i) = false := BitVec.getLsbD_of_ge b _ (by omega)
      simp [h1, h2, h3]
    · simp [h1]

/-- An octet stored reads as what was stored, every other octet as before, and the granule is RAW (04 R161). -/
theorem State.byte_setByte_self {s : State} (h : s.memWf) (c : CoreId) (a : Nat) (b : Byte) (hl : locOf a ≠ none) :
    (s.setByte c a b).byte c a = b := by
  unfold State.byte State.setByte
  rw [State.gran_setGran_self h c a a _ hl rfl, putByte_octet _ _ _ _ (Nat.mod_lt _ (by omega)) (Nat.mod_lt _ (by omega)), if_pos rfl]

theorem State.byte_setByte_other {s : State} (h : s.memWf) (c : CoreId) (a a' : Nat) (b : Byte) (hl : locOf a ≠ none) (hne : a' ≠ a) :
    (s.setByte c a b).byte c a' = s.byte c a' := by
  unfold State.byte State.setByte
  by_cases e : a' / 16 = a / 16
  · rw [State.gran_setGran_self h c a a' _ hl (locOf_eq_of_div e),
      putByte_octet _ _ _ _ (Nat.mod_lt _ (by omega)) (Nat.mod_lt _ (by omega)), if_neg (by omega)]
    have : s.gran c a' = s.gran c a := by unfold State.gran; rw [locOf_eq_of_div e]
    rw [this]
  · rw [State.gran_setGran_other s c a a' _ (locOf_ne_of_div hl e)]

theorem State.gran_setByte_self {s : State} (h : s.memWf) (c : CoreId) (a a' : Nat) (b : Byte) (hl : locOf a ≠ none)
    (he : a' / 16 = a / 16) : ((s.setByte c a b).gran c a').tag = tRAW := by
  unfold State.setByte
  rw [State.gran_setGran_self h c a a' _ hl (locOf_eq_of_div he)]

/-- A range of octets stored, all of it on memory: it reads back as the octets, and every other octet stands. -/
theorem State.byte_setOctets {s : State} (h : s.memWf) (c : CoreId) (a : Nat) (l : Octets) (hl : ∀ i, i < l.length → locOf (a + i) ≠ none)
    (x : Nat) : (s.setOctets c a l).byte c x = if a ≤ x ∧ x < a + l.length then l.getD (x - a) 0 else s.byte c x := by
  induction l generalizing s a with
  | nil => rw [if_neg (by simp only [List.length_nil]; omega)]; rfl
  | cons b l ih =>
    have h0 : locOf a ≠ none := hl 0 (by simp)
    rw [State.setOctets, ih (State.memWf_setByte h c a b) (a + 1) (fun i hi => by
      have := hl (i + 1) (by simpa using hi); rwa [Nat.add_assoc, Nat.add_comm 1 i])]
    by_cases hx : x = a
    · subst hx
      rw [if_neg (by omega), if_pos (by simp), State.byte_setByte_self h c x b h0]
      simp
    · rw [State.byte_setByte_other h c a x b h0 hx]
      by_cases h1 : a + 1 ≤ x ∧ x < a + 1 + l.length
      · rw [if_pos h1, if_pos (by simp; omega)]
        have : x - a = (x - (a + 1)) + 1 := by omega
        rw [this]; simp
      · rw [if_neg h1, if_neg (by simp; omega)]

/-- Only the memory that holds the octets changes: the cores' other fields, and every other field of the state, stand. -/
theorem State.setGran_frame (s : State) (c : CoreId) (a : Nat) (v : TVal) :
    s.setGran c a v = { s with cores := (s.setGran c a v).cores, bay := (s.setGran c a v).bay } := by
  unfold State.setGran; split <;> rfl

theorem State.setOctets_frame (s : State) (c : CoreId) (a : Nat) (l : Octets) :
    s.setOctets c a l = { s with cores := (s.setOctets c a l).cores, bay := (s.setOctets c a l).bay } := by
  induction l generalizing s a with
  | nil => rfl
  | cons b l ih =>
    have h := State.setGran_frame s c a ⟨tRAW, putByte (s.gran c a).val (a % 16) b⟩
    have e := ih (s.setByte c a b) (a + 1)
    rw [State.setOctets]
    refine e.trans ?_
    generalize ((s.setByte c a b).setOctets c (a + 1) l).cores = x
    generalize ((s.setByte c a b).setOctets c (a + 1) l).bay = y
    unfold State.setByte
    rw [h]

end Sys2Proof.Machine
end

