-- ==== Sys2Proof/Laws/Operands.lean ====
section
/-! SUPPORT. Register operands: what readReg, destReg and the tag checks answer. -/

namespace Sys2Proof.Machine

@[simp] theorem ok_bind {ε α β : Type} (a : α) (f : α → Except ε β) : (Except.ok a >>= f) = f a := rfl

theorem readReg_holds {s : State} {c : CoreId} {b : BankId} {r : Reg} {v : TVal} (h : Holds s c b r v) :
    readReg s c b r = .ok v := by
  obtain ⟨h1, h2⟩ := h
  unfold Ready at h1
  simp only [State.bank] at h1 h2
  simp [readReg, h1, h2]

theorem destReg_ready {s : State} {c : CoreId} {b : BankId} {r : Reg} (h : Ready s c b r) : destReg s c b r = .ok () := by
  unfold Ready Core.unread at h
  simp only [State.bank, Bool.or_eq_false_iff] at h
  simp [destReg, need, h.1]

/-- An operand that meets its tag condition (04 R155 to R157, R825). -/
def Opnd.good (o : Opnd) : Bool := !reservedTag o.v.tag && o.accept.contains o.v.tag && !malformed o.v && o.v.tag != tPOISON

theorem Opnd.check_good {o : Opnd} (h : o.good = true) : o.check = .ok () := by
  simp only [Opnd.good, Bool.and_eq_true, Bool.not_eq_true', bne_iff_ne] at h
  obtain ⟨⟨⟨h1, h2⟩, h3⟩, _⟩ := h
  simp only [Opnd.check, h1, h2, h3]
  rfl

theorem checkOpnds_good {l : List Opnd} (h : ∀ o ∈ l, o.good = true) : checkOpnds l = .ok () := by
  have hp : l.find? (fun o => o.v.tag == tPOISON) = none := by
    rw [List.find?_eq_none]
    intro o ho
    have := h o ho
    simp only [Opnd.good, Bool.and_eq_true, bne_iff_ne] at this
    simpa using this.2
  simp only [checkOpnds, hp]
  clear hp
  induction l with
  | nil => rfl
  | cons o l ih =>
    have h1 : o.check = .ok () := Opnd.check_good (h o (List.mem_cons_self ..))
    have h2 := ih (fun o' ho' => h o' (List.mem_cons_of_mem _ ho'))
    show (o.check >>= fun _ => l.forM Opnd.check) = .ok ()
    rw [h1]; exact h2

theorem good_bin (info : Nat) (x : Payload) (l : List (BitVec 4)) (h : tBIN ∈ l) : (⟨info, l, bin x⟩ : Opnd).good = true := by
  simp [Opnd.good, bin, reservedTag, malformed]; exact h

theorem good_raw (info : Nat) (x : Payload) (l : List (BitVec 4)) (h : tRAW ∈ l) : (⟨info, l, ⟨tRAW, x⟩⟩ : Opnd).good = true := by
  simp [Opnd.good, reservedTag, malformed]; exact h

/-- A form A instruction of two register operands that meet their tag conditions. -/
theorem alu2_ok (accept : List (BitVec 4)) (cost : Nat) (f : TVal → TVal → TVal) (c : CoreId) (d a e : Reg) (s : State)
    (b : BankId) (x y : TVal) (ha : Holds s c b a x) (he : Holds s c b e y) (hd : Ready s c b d)
    (hx : (⟨2, accept, x⟩ : Opnd).good = true) (hy : (⟨3, accept, y⟩ : Opnd).good = true) :
    alu2 accept cost f c d a e s b = finish (s.setReg c b d (f x y)) cost := by
  have hc : checkOpnds [⟨2, accept, x⟩, ⟨3, accept, y⟩] = .ok () := checkOpnds_good (by
    intro o ho
    rcases List.mem_cons.1 ho with rfl | ho
    · exact hx
    · rcases List.mem_cons.1 ho with rfl | ho
      · exact hy
      · exact absurd ho (by simp))
  simp only [alu2, readReg_holds ha, readReg_holds he, destReg_ready hd, hc, ok_bind]

/-- An instruction of one register operand that meets its tag condition. -/
theorem alu1_ok (accept : List (BitVec 4)) (cost : Nat) (f : TVal → TVal) (c : CoreId) (d a : Reg) (s : State)
    (b : BankId) (x : TVal) (ha : Holds s c b a x) (hd : Ready s c b d) (hx : (⟨2, accept, x⟩ : Opnd).good = true) :
    alu1 accept cost f c d a s b = finish (s.setReg c b d (f x)) cost := by
  have hc : checkOpnds [⟨2, accept, x⟩] = .ok () := checkOpnds_good (by
    intro o ho
    rcases List.mem_cons.1 ho with rfl | ho
    · exact hx
    · exact absurd ho (by simp))
  simp only [alu1, readReg_holds ha, destReg_ready hd, hc, ok_bind]

end Sys2Proof.Machine
end

