-- ==== Sys2Proof/Machine/Lands.lean ====
section
/-! DEFINITION. The output lands as the state holds them (19 R752; 20 R782, R791, R793). No row of the table reads them: they are
functions of the state. -/

namespace Sys2Proof.Machine

/-- The levels of a land. -/
inductive Land where
  | low | high | highZ | unpowered | driven | idle
  deriving DecidableEq, Repr

/-- Whether the block is held in reset: a cold boot that waits for its conditions (R793; 19 R742). -/
def State.inReset (s : State) : Bool := s.svc.stage == .waitEnv

/-- ALERT_N, open drain: low while an alert bit is set (R752, R793). -/
def State.alertN (s : State) : Land := if s.power.st = .p4 ∨ s.svc.alerts = 0 then .highZ else .low

/-- A cartridge land: one level while the port is up, low while it is not (R791, R793). -/
def State.cartLand (s : State) (up : Land) : Land :=
  if s.power.st = .p4 then .unpowered else if s.cartPowered then up else .low

/-- CPWREN; CREFCLK, which runs; CPERST_N, open drain, asserted while the port is not up (R791, R793). -/
def State.cpwren (s : State) : Land := s.cartLand .high
def State.crefclk (s : State) : Land := s.cartLand .driven
def State.cperstN (s : State) : Land := s.cartLand .highZ

/-- TDO (R782, R793): high impedance in a reset, in P3 and while TRST_N holds the TAP in reset. -/
def State.tdo (s : State) : Land :=
  if s.power.st = .p4 then .unpowered else if s.power.st = .p3 ∨ s.inReset ∨ s.sec.trstLow then .highZ else .driven

/-- A transmitter's lands: unpowered in P3 and P4, electrically idle in a reset and while its port is off (R793). -/
def State.transmitter (s : State) (on : Bool) : Land :=
  if s.power.st = .p3 ∨ s.power.st = .p4 then .unpowered else if s.inReset ∨ !on then .idle else .driven

/-- HTX of the host link, CPpTX of a chain port, CTX of the cartridge link (R793). -/
def State.htx (s : State) : Land := s.transmitter s.hostPort
def State.cpTx (s : State) (p : Port) : Land := s.transmitter (s.portEnabled p)
def State.ctx (s : State) : Land := s.transmitter s.cartPowered

/-- REG_TRXP and REG_TRXN: active whenever VAUX is present (R793). -/
def State.regTrx (s : State) : Land := if s.power.st = .p4 then .unpowered else .driven

end Sys2Proof.Machine
end

