-- ==== Sys2Proof/Tests/Slice0.lean ====
section
/-! SUPPORT. The model's own tests: ill-formed commands refused, a witness of the hypotheses of every statement, and small results
worked out by hand from the spec. A clause whose hypotheses rest on a value the spec leaves free or on a signature has no
witness by evaluation (NOTES.md says which). -/

namespace Sys2Proof.Tests

set_option Elab.async false

open Sys2Proof.Machine

/-! ### Well-formed commands -/

/-- Each check refuses a term made to fail it. -/
theorem wellFormed_smoke :
    (Instr.doorbellArrayReturn (some [])).check = some "a doorbell array of 32,768 octets (R88)"
    ∧ (Instr.descriptorFetchReturn 0 (some [[]])).check = some "up to 16 descriptors of 64 octets (R66)"
    ∧ (Instr.sync ⟨0, [], 0x88B5, true, ⟨1, 4, 0, 0, 0, 0, 0, 0, 4, 0⟩, [], []⟩).check = some "frame payload and tag (R576)"
    ∧ (Instr.entropyRetest []).check = some "8,192 raw bits (R628, R630)"
    ∧ (Instr.admCfgWrite 0 9 0).check = some "write width 1 to 8 octets (R801)"
    ∧ (Instr.setupWrite 0 0 0).check = some "write width 1 to 8 octets (R801)"
    ∧ (Instr.setupWrite 0x20 8 0x5653525400000001).check = some "the host reset is DEV_RESET (R808)"
    ∧ (Instr.debugToken []).check = some "token of 224 octets (R680)"
    ∧ (Instr.monitorRead []).check = some "256 monitors (R745)"
    ∧ (Instr.relevelRun [[]]).check = some "256 monitors (R745)"
    ∧ (Instr.pscrubPass 0 [4294967296]).check = some "an offset of persistent memory (R505)"
    ∧ (Instr.undefinedOpcode 0 0x01000000).check = some "a word no table defines (R198)"
    ∧ (Instr.add 0 1 2 3).check = none := by decide +kernel

/-- A fault names the check that failed. -/
theorem illFormed_faults : exec (.monitorRead []) State.reset = .fault (.illFormed "256 monitors (R745)") := by rfl

/-! ### Small states -/

/-- A bank that runs at 0x1000, with registers by slot (which is the register code in window 0). -/
def bankWith (l : List (Fin 104 × TVal)) : Bank :=
  { Bank.reset .running with pc := 0x1000, regs := l.foldl (fun r p => r.set p.1 p.2) (Bank.reset .running).regs }

/-- A core that runs bank 2 in supervisor mode: a CODE frame at 0x1000, DATA frames at 0x2000 and 0x3000. -/
def coreWith (k : Bank) (mem : SMap TVal) : Core :=
  { Core.reset false mcverShipped with
    running := some 2
    banks := (Core.reset false mcverShipped).banks.set 2 k
    frames := [(1, ⟨0, false, .code⟩), (2, ⟨0, false, .data⟩), (3, ⟨0, false, .data⟩)]
    bench := mem }

/-- Core 1 so; every other core held; bay memory has one DATA frame. -/
def stateOf (k : Bank) (mem : SMap TVal) : State :=
  { State.reset with
    cores := State.reset.cores.set 1 (coreWith k mem)
    bayFrames := [(0, ⟨0, false, .data⟩), (1, ⟨0, false, .data⟩)] }

def stateWith (l : List (Fin 104 × TVal)) (mem : SMap TVal) : State := stateOf (bankWith l) mem

def bin (x : Int) : TVal := ⟨tBIN, BitVec.ofInt 128 x⟩

def raw (x : Nat) : TVal := ⟨tRAW, BitVec.ofNat 128 x⟩

/-- A granule of sixteen octets. -/
def granOf (l : List Nat) : TVal := ⟨tRAW, bytesPayload (padTo 16 (l.map (BitVec.ofNat 8)))⟩

/-- The state a command answers. -/
def after (r : Res) : State :=
  match r with
  | .next t => t
  | _ => State.reset

/-- Register r of bank 2 of core 1. -/
def reg (s : State) (r : Reg) : TVal := (s.bank 1 2).reg 2 r

/-- Whether a check answers a value. -/
def okIs {ε α : Type} [DecidableEq α] (r : Except ε α) (a : α) : Bool :=
  match r with
  | .ok x => decide (x = a)
  | .error _ => false

theorem ok_of {ε α : Type} [DecidableEq α] {r : Except ε α} {a : α} (h : okIs r a = true) : r = .ok a := by
  cases r with
  | ok x => simp [okIs] at h; rw [h]
  | error _ => simp [okIs] at h

/-- A read that finds no error leaves the state as it was. -/
theorem findErrors_nil (s : State) (c : CoreId) (l : List Nat) : s.findErrors c [] l = s := by
  unfold State.findErrors
  induction l generalizing s with
  | nil => rfl
  | cons a l ih => exact ih s

/-- So the states of the statements that speak of reads are the states themselves where no error is met. -/
theorem afterReads_nil (s : State) (c : CoreId) (l : List (Nat × Nat)) : s.afterReads c [] l = s := findErrors_nil s c _

/-- A request block whose checks pass, met by no error. -/
theorem checkBlock_nil {s : State} {c : CoreId} {b : BankId} {v : TVal} {n a : Nat}
    (h : (s.checkBay c (mkAccess (s.bank c b) v 0 .load) n = .ok a ∧ s.checkBay c (mkAccess (s.bank c b) v 0 .store) n = .ok a)
      ∧ a % n = 0 ∧ s.checkMem c [⟨a, n, 4, some [tRAW]⟩] = .ok ()) : s.checkBlock c b [] v n = .ok (s, a) := by
  obtain ⟨⟨h1, h2⟩, h3, h4⟩ := h
  change s.checkMem c [⟨a, n, 4, some [0#4]⟩] = .ok () at h4
  unfold State.checkBlock State.readMem
  simp only [findErrors_nil, h1, h2, need]
  simp [bind, Except.bind, pure, Except.pure, faultOn, h3, h4]

theorem noRecord_of_none {s : State} {c : CoreId} {b : BankId} (h : (s.bank c b).fpt = none) : NoRecord s c b := by
  intro r e; rw [h] at e; cases e

/-! ### Ledger core -/

def sInt : State := stateWith [(4, bin 7), (5, bin (-2)), (6, bin 0), (7, raw 0xFF), (0, ⟨tREF, 0x00080000000100000000200000000⟩),
  (1, ⟨tREF, (2 : Payload) ^ 64 * 48 + (2 : Payload) ^ 32 * 256 + 0x2000⟩), (2, bin ((2 : Int) ^ 32 * 16 + 32))] []

theorem witness_Integers : Issues sInt 1 2 ∧ Holds sInt 1 2 4 ⟨tBIN, 7⟩ ∧ Holds sInt 1 2 5 (bin (-2)) ∧ Ready sInt 1 2 3
    ∧ BitVec.ofInt 128 (-2) ≠ (0 : Payload) ∧ Holds sInt 1 2 6 ⟨tBIN, 0⟩ := by
  simp only [Issues, Holds, Ready]; decide +kernel

theorem test_integers : reg (after (exec (.add 1 3 4 5) sInt)) 3 = bin 5 ∧ reg (after (exec (.sub 1 3 4 5) sInt)) 3 = bin 9
    ∧ reg (after (exec (.mulh 1 3 4 5) sInt)) 3 = bin (-1) ∧ reg (after (exec (.addis 1 3 4 (-1)) sInt)) 3 = bin (-65529)
    ∧ (((after (exec (.div 1 3 4 5) sInt)).core 1).port.map (fun e => (e.slot, e.val))) = [(some 3, bin (-3))]
    ∧ (((after (exec (.rem 1 3 4 5) sInt)).core 1).port.map (fun e => (e.slot, e.val))) = [(some 3, bin 1)]
    ∧ ((after (exec (.div 1 3 4 6) sInt)).core 1).entering.map (fun e => (e.vector, e.cause)) = some (7, 2) := by decide +kernel

theorem witness_LogicAndShifts : Issues sInt 1 2 ∧ Ready sInt 1 2 3 ∧ Holds sInt 1 2 7 ⟨tRAW, 0xFF⟩ ∧ Holds sInt 1 2 4 ⟨tBIN, 7⟩ := by
  simp only [Issues, Holds, Ready]; decide +kernel

theorem test_logic : reg (after (exec (.andn 1 3 7 4) sInt)) 3 = raw 0xF8 ∧ reg (after (exec (.xori 1 3 4 2) sInt)) 3 = bin 5
    ∧ reg (after (exec (.popc 1 3 7) sInt)) 3 = bin 8 ∧ reg (after (exec (.srai 1 3 5 1) sInt)) 3 = bin (-1)
    ∧ reg (after (exec (.sll 1 3 4 4) sInt)) 3 = bin 896 := by decide +kernel

theorem witness_TagInstructions : Issues sInt 1 2 ∧ Ready sInt 1 2 3 ∧ Super sInt 1 2 ∧ Holds sInt 1 2 4 ⟨tBIN, 7⟩
    ∧ malformed ⟨tDEC, 7⟩ = false
    ∧ (∃ x y : Payload, Holds sInt 1 2 1 ⟨tREF, x⟩ ∧ malformed ⟨tREF, x⟩ = false ∧ Holds sInt 1 2 2 ⟨tBIN, y⟩ ∧ y.toNat < 2 ^ 66
      ∧ bits y 0 32 + bits y 32 32 ≤ refLen x) := by
  simp only [Issues, Holds, Ready, Super]
  refine ⟨by decide +kernel, by decide +kernel, by decide +kernel, by decide +kernel, by decide +kernel,
    (2 : Payload) ^ 64 * 48 + (2 : Payload) ^ 32 * 256 + 0x2000, BitVec.ofInt 128 ((2 : Int) ^ 32 * 16 + 32), ?_⟩
  decide +kernel

theorem test_refn : reg (after (exec (.refn 1 3 1 2) sInt)) 3 = ⟨tREF, (2 : Payload) ^ 64 * 48 + (2 : Payload) ^ 32 * 16 + 0x2020⟩
    ∧ reg (after (exec (.gtag 1 3 1) sInt)) 3 = bin 8 ∧ reg (after (exec (.retag 1 3 4 tDEC) sInt)) 3 = ⟨tDEC, 7⟩ := by decide +kernel

/-- Two registers of one bank that lie in different slots, and one that is another code of the same slot set. -/
theorem witness_RegisterWriteFrame : (sInt.bank 1 2).slot 2 4 ≠ (sInt.bank 1 2).slot 2 3 ∧ ((1 : CoreId), (2 : BankId)) ≠ (1, 3) := by
  decide +kernel

def sMem : State := stateWith [(4, bin 0x2000), (5, bin (-1)), (6, ⟨tREF, (2 : Payload) ^ 64 * 48 + (2 : Payload) ^ 32 * 4096 + 0x2000⟩),
  (7, ⟨tB64, 0x3FF0000000000000⟩), (2, raw 0x11223344), (0, binNat 2), (1, binNat 0)] [(512, granOf [1, 2, 3, 4, 5, 6, 7, 0x88]), (513, bin 9)]

/-- The same just after a load into W4. -/
def sStall : State := sMem.modCore 1 (fun k => { k with loaded := some (2, (sMem.bank 1 2).slot 2 4) })

theorem witness_Loads : Issues sMem 1 2 ∧ Ready sMem 1 2 3 ∧ Holds sMem 1 2 4 (bin 0x2000) ∧ IsBase (bin 0x2000)
    ∧ Reaches sMem 1 2 (bin 0x2000) 0 .load 8 0x2000 ∧ (sMem.findErrors 1 [] (granAddrs 0x2000 8)).checkGrans 1 0x2000 8 octetTags 4 = .ok ()
    ∧ Reaches sMem 1 2 (bin 0x2000) 16 .load 16 0x2010 ∧ (sMem.findErrors 1 [] [0x2010]).checkGrans 1 0x2010 16 anyTag 4 = .ok ()
    ∧ Reaches sMem 1 2 (bin 0x2000) 4095 .load 1 0x2FFF
    ∧ Issues sStall 1 2 ∧ (sStall.core 1).inFlight 2 ((sStall.bank 1 2).slot 2 4) = false
    ∧ (sStall.core 1).loaded = some (2, (sStall.bank 1 2).slot 2 4) := by
  simp only [Issues, Holds, Ready, IsBase, Reaches]
  and_intros <;> first | decide +kernel | exact ok_of (by decide +kernel)

theorem test_loads : reg (after (exec (.ld8s 1 3 4 0 []) sMem)) 3 = bin (-8644934341102468607)
    ∧ reg (after (exec (.ld2 1 3 6 6 []) sMem)) 3 = bin 0x8807 ∧ reg (after (exec (.ldg 1 3 4 16 []) sMem)) 3 = bin 9
    ∧ reg (after (exec (.ldu8 1 3 4 16 []) sMem)) 4 = bin 0x2010
    ∧ ((after (exec (.add 1 3 4 5) sStall)).core 1).loaded = none ∧ ((after (exec (.add 1 3 4 5) sStall)).bank 1 2).pc = 0x1000
    ∧ reg (after (exec (.add 1 3 5 5) sStall)) 3 = bin (-2) := by decide +kernel

/-- A corrected error is counted; an uncorrectable one leaves POISON, which the load meets (12 R497, R498). -/
theorem test_errors : (after (exec (.ld8 1 3 4 0 [(0x2000, .corrected)]) sMem)).svc.memCorr = 1
    ∧ (let u := after (exec (.ld8 1 3 4 0 [(0x2004, .uncorrectable)]) sMem)
       u.gran 1 0x2000 = ⟨tPOISON, 1⟩ ∧ (u.core 1).entering.map (fun e => (e.vector, e.cause, e.addr)) = some (13, 1, 0x2000)) := by decide +kernel

theorem witness_Stores : sMem.memWf ∧ Issues sMem 1 2 ∧ Holds sMem 1 2 4 (bin 0x2000) ∧ IsBase (bin 0x2000) ∧ Holds sMem 1 2 5 (bin (-1))
    ∧ Holds sMem 1 2 7 ⟨tB64, 0x3FF0000000000000⟩ ∧ malformed ⟨tB64, 0x3FF0000000000000⟩ = false
    ∧ Reaches sMem 1 2 (bin 0x2000) 12 .store 8 0x200C ∧ sMem.checkStore 1 0x200C 8 = .ok ()
    ∧ Reaches sMem 1 2 (bin 0x2000) 32 .store 16 0x2020 ∧ Reaches sMem 1 2 (bin 0x2000) 0 .store 8 0x2000 := by
  simp only [State.memWf, Core.memWf, Issues, Holds, Ready, IsBase, Reaches]
  and_intros <;> first | decide +kernel | exact ok_of (by decide +kernel)

theorem test_stores : ((after (exec (.st8 1 5 4 12) sMem)).octets 1 0x2008 14) = [0, 0, 0, 0, 255, 255, 255, 255, 255, 255, 255, 255, 0, 0]
    ∧ (after (exec (.st8 1 5 4 12) sMem)).gran 1 0x2010 = granOf [255, 255, 255, 255]
    ∧ (after (exec (.stg 1 7 4 32) sMem)).gran 1 0x2020 = ⟨tB64, 0x3FF0000000000000⟩
    ∧ reg (after (exec (.stu8 1 5 4 16) sMem)) 4 = bin 0x2010 := by decide +kernel

theorem witness_AccessPermission : (0x2000 : Payload).toNat < 2 ^ 32 ∧ sMem.frame 1 0x2008 = some ⟨0, false, .data⟩
    ∧ sMem.frame 1 0x1008 = some ⟨0, false, .code⟩ ∧ sMem.frame 1 0x10000000 = some ⟨0, false, .data⟩ ∧ (8 : Nat) % 16 + 8 ≤ 16 := by
  decide +kernel

/-- A store into a CODE frame is refused, PROT with cause 7 (05 R188, R191). -/
theorem test_permission : ((after (exec (.st8 1 5 4 (-4096)) sMem)).core 1).entering.map (fun e => (e.vector, e.cause, e.addr, e.info)) = some (4, 7, 0x1000, 2) := by
  decide +kernel

def bankUser (l : List (Fin 104 × TVal)) : Bank := { bankWith l with tsw := 0x0780010000000000 }

theorem witness_BranchesAndCalls : Issues sInt 1 2 ∧ Holds sInt 1 2 4 ⟨tBIN, 7⟩ ∧ Holds sInt 1 2 7 ⟨tRAW, 0xFF⟩
    ∧ Holds sMem 1 2 4 ⟨tBIN, 0x2000⟩ ∧ (0x2000 : Payload).toNat % 4 = 0
    ∧ (2 : BankId) ≠ bankT ∧ (sInt.bank 1 2).inBody = false ∧ tswWval (sInt.bank 1 2).tsw < 5
    ∧ (let u := after (exec (.call 1 4) sInt); Issues u 1 2 ∧ Holds u 1 2 23 ⟨tBIN, 0x1004⟩ ∧ 1 < tswWval (u.bank 1 2).tsw) := by
  simp only [Issues, Holds, Ready]; decide +kernel

theorem test_branches : ((after (exec (.cb 1 4 5 4 2) sInt)).bank 1 2).pc = 0x1008 ∧ ((after (exec (.cb 1 4 5 2 2) sInt)).bank 1 2).pc = 0x1004
    ∧ ((after (exec (.bcc 1 1 (-2)) sInt)).bank 1 2).pc = 0xFF8 ∧ ((after (exec (.jr 1 4) sMem)).bank 1 2).pc = 0x2000
    ∧ (let u := after (exec (.call 1 4) sInt); (u.bank 1 2).pc = 0x1010 ∧ reg u 23 = bin 0x1004 ∧ tswWval (u.bank 1 2).tsw = 2
      ∧ ((after (exec (.ret 1) u)).bank 1 2).pc = 0x1004) := by decide +kernel

/-- A loop of one word that runs at 0x1000, twice more. -/
def sLoop : State := stateOf { bankWith [(4, bin 3), (5, bin 10), (6, bin 0), (3, bin 1)] with
  lcnt := 2, lend := 0x80000000 ||| 0x40000000 ||| (0xF <<< 26) ||| (0x400 <<< 2) } []

theorem witness_LoopsAndRepeats : Issues sInt 1 2 ∧ Holds sInt 1 2 4 ⟨tBIN, 7⟩ ∧ Holds sInt 1 2 6 ⟨tBIN, 0⟩
    ∧ (sInt.bank 1 2).lend.getLsbD 31 = false ∧ (sInt.bank 1 2).pc.toNat % 4 = 0 ∧ (sInt.bank 1 2).pc.toNat + 4 * 64 < 2 ^ 19
    ∧ Issues sLoop 1 2 ∧ (sLoop.bank 1 2).loopLive = true ∧ (sLoop.bank 1 2).pc.toNat = lendEnd (sLoop.bank 1 2).lend
    ∧ IssuesTwo sLoop 1 2 ∧ IssuesTwo sInt 1 2 ∧ (sInt.bank 1 2).inBody = false ∧ Holds sInt 1 2 5 ⟨tBIN, BitVec.ofInt 128 (-2)⟩
    ∧ PrefixA 0x10210A00 0x10 0 4 4 5 ∧ PrefixA 0x10210010 0x10 0x10 4 4 0 ∧ PrefixB 0x11210003 0x11 4 4 := by
  simp only [Issues, IssuesTwo, Holds, Ready, PrefixA, PrefixB]; decide +kernel

/-- LD8 W3, LDG W3, ST8 W5, STG W7 and LDU8 W3, STU8 W5 at W4 with displacement 16, under RPT by W0 = 2 or W1 = 0. -/
theorem witness_RepeatedMemory : sMem.memWf ∧ IssuesTwo sMem 1 2
    ∧ ¬ ((sMem.bank 1 2).inBody = true ∧ lendEnd (sMem.bank 1 2).lend < (sMem.bank 1 2).pc.toNat + 4)
    ∧ Holds sMem 1 2 0 ⟨tBIN, 2⟩ ∧ Holds sMem 1 2 1 ⟨tBIN, 0⟩ ∧ Holds sMem 1 2 4 (bin 0x2000) ∧ Holds sMem 1 2 5 (bin (-1))
    ∧ (0 : Reg) ≠ 3 ∧ (0 : Reg) ≠ 4 ∧ (∃ r, repeatable 1 [] 0x3619001F = some r ∧ (1 : Reg) ∉ r.writes)
    ∧ PrefixB 0x36190010 0x36 3 4 ∧ PrefixB 0x38190010 0x38 3 4 ∧ PrefixB 0x3D290010 0x3D 5 4 ∧ PrefixB 0x3E390010 0x3E 7 4
    ∧ PrefixB 0x39190010 0x39 3 4 ∧ PrefixB 0x3F290010 0x3F 5 4
    ∧ Reaches sMem 1 2 (bin 0x2000) 16 .store 8 0x2010 ∧ sMem.checkStore 1 0x2010 8 = .ok ()
    ∧ (∀ i < 2, Reaches sMem 1 2 ⟨tBIN, (bin 0x2000).val + BitVec.ofNat 128 i * (16 : BitVec 14).signExtend 128⟩ 0 .load 8 (0x2000 + 16 * i)
        ∧ Reaches sMem 1 2 ⟨tBIN, (bin 0x2000).val + BitVec.ofNat 128 i * (16 : BitVec 14).signExtend 128⟩ 0 .store 8 (0x2000 + 16 * i)) := by
  simp only [State.memWf, Core.memWf, Issues, IssuesTwo, Holds, Ready, PrefixB, Reaches]
  and_intros <;> first
    | exact ok_of (by decide +kernel)
    | decide +kernel
    | exact ⟨_, rfl, by decide +kernel⟩
    | (intro i hi
       have h : i = 0 ∨ i = 1 := by omega
       obtain rfl | rfl := h <;> exact ⟨ok_of (by decide +kernel), ok_of (by decide +kernel)⟩)

theorem test_repeat : (let u := after (exec (.rpt 1 true true 0 0 0x39190010 9 []) sMem)
    reg u 4 = bin 0x2020 ∧ reg u 3 = ⟨tBIN, 9⟩ ∧ reg u 0 = ⟨tBIN, 0⟩ ∧ (u.bank 1 2).pc = 0x1008) := by decide +kernel

/-- An unwinding core: bank 2 in window 1 with one frame in its TSB at 0x2000. -/
def sHandler : State := (stateOf { bankWith [] with tsw := 0x87800A0000000000, tsbr := 0x2000 } []).setOctets 1 0x2000
  (([1] : Octets) ++ zeros 127 ++ leBytes 8 0x0000010000000000 ++ leBytes 4 0x1234 ++ zeros 14 ++ [1] ++ zeros 5)

theorem witness_SystemInstructions : Issues sMem 1 2 ∧ Drained sMem 1 2 ∧ Super sMem 1 2 ∧ Holds sMem 1 2 4 (binNat 0x2000)
    ∧ sMem.frame 1 0x2000 = some ⟨0, false, .data⟩ ∧ (2 : BankId) ≠ bankT
    ∧ ¬ ((sMem.bank 1 2).lend.getLsbD 31 = true ∧ (sMem.bank 1 2).lend.toNat % 4 = 3)
    ∧ tswLegal (((sHandler.modBank 1 2 (fun k => { k with svct := 0x8780010000000123 })).bank 1 2).svct &&& 0xFFFFFF0000000000) = true := by
  refine ⟨?_, ⟨by decide +kernel, noRecord_of_none (by decide +kernel)⟩, ?_, ?_, ?_, ?_, ?_, ?_⟩ <;>
    (try simp only [Issues, Holds, Ready, Super]) <;> decide +kernel

theorem test_svc : (let u := after (exec (.svc 1 0xABCDEF) sMem)
    (u.bank 1 2).svcp = 0x1004 ∧ (u.bank 1 2).svct = 0x8780010000ABCDEF ∧ (u.bank 1 2).pc = 0)
    ∧ (after (exec (.frcode 1 4) sMem)).frame 1 0x2FFF = some ⟨0, false, .code⟩ := by decide +kernel

def sHandlerBad : State := sHandler.setGran 1 0x2000 ⟨tPOISON, 3⟩

theorem witness_ReturnFromHandler : sHandler.memWf ∧ Issues sHandler 1 2 ∧ Super sHandler 1 2 ∧ Drained sHandler 1 2
    ∧ sHandler.tsbOk 1 2 = true ∧ sHandler.depth 1 2 ≠ 0 ∧ sHandler.topFrame 1 2 = (0x0000010000000000, 0x1234, true)
    ∧ tswLegal 0x0000010000000000 = true ∧ tswWval (sHandler.bank 1 2).tsw ≠ 1
    ∧ (tswCwp (sHandler.bank 1 2).tsw + 5) % 6 = tswCwp 0x0000010000000000
    ∧ NoPoison sHandler 1 0x2000 4 ∧ NoPoison sHandler 1 0x2080 32
    ∧ sHandlerBad.memWf ∧ Issues sHandlerBad 1 2 ∧ Super sHandlerBad 1 2 ∧ Drained sHandlerBad 1 2
    ∧ (sHandlerBad.findErrors 1 [] [0x2000]).gran 1 0x2000 = ⟨tPOISON, 3⟩ := by
  refine ⟨?_, ?_, ?_, ⟨by decide +kernel, noRecord_of_none (by decide +kernel)⟩, ?_, ?_, ?_, ?_, ?_, ?_, ?_, ?_, ?_, ?_, ?_,
    ⟨by decide +kernel, noRecord_of_none (by decide +kernel)⟩, ?_⟩ <;>
    (try simp only [State.memWf, Core.memWf, Issues, Super, NoPoison]) <;> decide +kernel

theorem test_rte : (let u := after (exec (.rte 1 []) sHandler)
    (u.bank 1 2).pc = 0x1234 ∧ (u.bank 1 2).charge = true ∧ (u.bank 1 2).tsw = 0x0000010000000000 ∧ u.depth 1 2 = 0)
    ∧ ((after (exec (.rte 1 []) sHandlerBad)).core 1).entering.map (fun e => (e.vector, e.cause, e.addr)) = some (13, 3, 0x2000) := by decide +kernel

def sUser : State := stateOf (bankUser [(4, bin 7)]) []

theorem witness_InstructionsThatTrap : Issues sUser 1 2 ∧ ¬ Super sUser 1 2 ∧ definedWord 0xFF000000 = false ∧ (tDEC : BitVec 4).toNat < 0xB := by
  simp only [Issues, Super]; decide +kernel

theorem test_traps : ((after (exec (.brk 1 0x12ABCD) sUser)).core 1).entering.map (fun e => (e.vector, e.cause, e.info, e.savedPc)) = some (14, 0xABCD, 0x12, 0x1004)
    ∧ ((after (exec (.fzero 1 4) sUser)).core 1).entering.map (fun e => e.vector) = some 2
    ∧ ((after (exec (.undefinedOpcode 1 0xFF000000) sUser)).core 1).entering.map (fun e => (e.vector, e.savedPc)) = some (1, 0x1000) := by
  decide +kernel

def certA : Cert := ⟨64, 1, false, true, 3, 1000, 1000, 1000, 4, 65536, 0, 100, []⟩
def jobA : JobRun := ⟨⟨5, 9, 2, 0, zeros 64, certA⟩, 0, 0, 0⟩

/-- Bank 2 runs a job whose TSB lies at 0x2000; nothing is reported to it. -/
def sJob : State := stateOf { bankWith [(4, bin 0x10000000), (5, bin 3)] with tsbr := 0x2000, job := some jobA, tsw := 0x8780010000000000 } []

/-- Bank T serves bank 2, which has no job. -/
def sService : State := (stateOf (bankWith []) []).modCore 1 (fun k => { k with
  tActive := true, served := 2, banks := k.banks.set 16 { bankWith [] with tsw := 0x8780010000000000 } })

/-- The same in the post, with a second job in the core's queue and no bank free. -/
def jobB : Job := ⟨6, 9, 3, 0, zeros 64, certA⟩
def sPostJob : State :=
  let s := sJob.modCore 1 (fun k => { k with jobQueue := [jobB], banks := k.banks.map (fun v => if v.st = .free then { v with st := .ready } else v) })
  { s with t := { s.t with phase := .post } }

theorem witness_Waits : Issues sInt 1 2 ∧ NoRecord sInt 1 2 ∧ Quiet sInt 1 2 ∧ (1 : BitVec 20) ≠ 0
    ∧ Issues sJob 1 2 ∧ Super sJob 1 2 ∧ NoRecord sJob 1 2 ∧ (sJob.bank 1 2).job = some jobA ∧ (sJob.bank 1 2).budgetOf = none
    ∧ (sJob.bank 1 2).charge = false ∧ (sJob.bank 1 2).tsbr.toNat % 256 = 0 ∧ NoPoison sJob 1 (0x2000 + 96) 12
    ∧ Issues sPostJob 1 2 ∧ Super sPostJob 1 2 ∧ NoRecord sPostJob 1 2 ∧ (sPostJob.bank 1 2).job = some jobA ∧ sPostJob.t.phase = .post
    ∧ (sPostJob.core 1).jobQueue = [jobB] ∧ (∀ x, x ≠ 0 → x ≠ 2 → x ≠ bankT → (sPostJob.bank 1 x).st ≠ .free)
    ∧ fieldAt (sJob.tsbGet 1 2 96 1) 0 1 ∈ [0, 0x21] ∧ sJob.t.phase ≠ .post ∧ sJob.jobBusy 5 = false ∧ sJob.host.discardBelow ≤ 5
    ∧ spanDecided sJob 0 = false ∧ sJob.host.ended = [] ∧ sJob.chainList = []
    ∧ Issues sService 1 bankT ∧ Super sService 1 bankT ∧ NoRecord sService 1 bankT ∧ (sService.core 1).served = 2
    ∧ (sService.bank 1 2).job = none := by
  and_intros <;> first
    | exact noRecord_of_none (by decide +kernel)
    | ((try simp only [Super, NoPoison]); decide +kernel)

theorem test_waits : ((after (exec (.waitUntil 1 5) sInt)).bank 1 2).wait = some (.until 160)
    ∧ ((after (exec (.waitUntil 1 5) sInt)).bank 1 2).pc = 0x1000 ∧ ((after (exec (.waitChains 1) sInt)).bank 1 2).pc = 0x1004
    ∧ ((after (exec (.waitDispatch 1 []) sJob)).host.waiting.map (fun c => (c.order, c.ring, c.status))) = [(5, 9, 0)]
    ∧ ((after (exec (.waitDispatch 1 []) sPostJob)).bank 1 2).job.map (fun j => j.job.id) = some 6
    ∧ ((after (exec (.waitFreeze 1) sService)).bank 1 2).st = .frozen := by decide +kernel

def sCtl : State := (stateWith [(4, binNat 0x2000), (5, raw 0x1234)] []).modCore 1 (fun k => { k with bwin := 0x00000003 })

theorem witness_ControlRegisters : Issues sCtl 1 2 ∧ Drained sCtl 1 2 ∧ Ready sCtl 1 2 3 ∧ Super sCtl 1 2 ∧ Holds sCtl 1 2 4 ⟨tBIN, 0x2000⟩
    ∧ Holds sCtl 1 2 5 ⟨tRAW, 0x1234⟩ ∧ crLegal 2 0x2000 = true ∧ crLegal 10 0x1F = true ∧ crLegal 7 0x2000 = false
    ∧ (0x2000 : Payload).toNat % 4096 = 0 ∧ (0x2000 : Payload).toNat + 32 * 576 ≤ 0x80000
    ∧ (sCtl.core 1).pend = [] ∧ (∀ i < 512, (sCtl.gran 1 (0x2000 + 32 * (64 + i))).tag ≠ tPOISON)
    ∧ (∀ i < 512, (sCtl.byte 1 (0x2000 + 32 * (64 + i) + 4)).toNat < 16 ∧ ((sCtl.byte 1 (0x2000 + 32 * (64 + i) + 5)).toNat < 16
        ∨ sCtl.byte 1 (0x2000 + 32 * (64 + i) + 5) = 31) ∧ (sCtl.byte 1 (0x2000 + 32 * (64 + i) + 6)).toNat < 2)
    ∧ (sCtl.core 1).bwin.toNat % 32 = 3 ∧ (sCtl.core 1).inFlight 3 ((sCtl.core 1).bwSlot 9) = false
    ∧ tswLegal 0x8780010000000000 = true := by
  refine ⟨?_, ⟨by decide +kernel, noRecord_of_none (by decide +kernel)⟩, ?_, ?_, ?_, ?_, ?_, ?_, ?_, ?_, ?_, ?_, ?_, ?_, ?_, ?_, ?_⟩ <;>
    (try simp only [Issues, Super, Ready, Holds]) <;> decide +kernel

theorem test_control : reg (after (exec (.mfcr 1 3 1) sCtl)) 3 = ⟨tBIN, 0x8780010000000000⟩
    ∧ ((after (exec (.mtcr 1 2 4 []) sCtl)).bank 1 2).tsbr = 0x2000
    ∧ ((after (exec (.mtbw 1 9 5) sCtl)).bank 1 3).regs[9] = raw 0x1234 := by decide +kernel

def sFrame : State := stateWith [(4, binNat 0x2000), (5, binNat 0x31), (6, binNat 47)] [(512, bin 1), (767, bin 2), (768, bin 3)]

theorem witness_FrameInstructions : Issues sFrame 1 2 ∧ Super sFrame 1 2 ∧ Holds sFrame 1 2 4 (binNat 0x2000)
    ∧ sFrame.frame 1 0x2000 = some ⟨0, false, .data⟩ ∧ Ready sFrame 1 2 3 ∧ Holds sFrame 1 2 5 (binNat 0x31)
    ∧ Holds sFrame 1 2 6 (binNat 47) ∧ 47 < sFrame.variant.gib := by
  simp only [Issues, Super, Ready, Holds]; decide +kernel

theorem test_frames : reg (after (exec (.gfrm 1 3 4) sFrame)) 3 = bin 1 ∧ (after (exec (.sfrm 1 4 5) sFrame)).frame 1 0x2000 = some ⟨3, false, .data⟩
    ∧ ((after (exec (.fzero 1 4) sFrame)).core 1).bench = [(768, bin 3)]
    ∧ (after (exec (.hbms 1 6 5) sFrame)).hbmRegions = [(47, ⟨3, false, .data⟩)] := by decide +kernel

/-! ### Decimal, floats, strings, customer instructions -/

def dec (v : Int) (k : Nat) : TVal := decVal ⟨v, k⟩

theorem witness_DecimalPayloads : (32 : Nat) ≤ 32 ∧ ((-(10 ^ 33 - 1) : Int)).natAbs < 10 ^ 33 ∧ ((10 ^ 66 - 1 : Int)).natAbs < 10 ^ 66 := by decide +kernel

/-- The coefficient in binary from bit 0, the scale in bits [126:121], the sign in bit 127 (04 R139). -/
theorem test_decPay : decPay ⟨-5, 2⟩ = (2 : Payload) ^ 127 + (2 : Payload) ^ 122 + 5 := by decide +kernel

def sDec : State := stateWith [(4, dec 1250 2), (5, dec (-3) 0), (6, dec 8 0), (7, dec (10 ^ 33 - 1) 32), (3, dec 100 0), (1, dec 25 2),
  (16, dec 1000 0), (17, dec 7 0), (18, bin 120), (19, dec 12000 2), (20, dec 0 0)] []

theorem witness_DecimalArithmetic : Issues sDec 1 2 ∧ Ready sDec 1 2 2 ∧ Holds sDec 1 2 4 (dec 1250 2) ∧ malformed (dec 1250 2) = false
    ∧ Holds sDec 1 2 5 (dec (-3) 0) ∧ malformed (dec (-3) 0) = false ∧ decOf (dec 1250 2).val = ⟨1250, 2⟩
    ∧ Holds sDec 1 2 7 (dec (10 ^ 33 - 1) 32) ∧ malformed (dec (10 ^ 33 - 1) 32) = false
    ∧ (10 ^ 33 : Int) ≤ (10 ^ 33 - 1) * 1250 ∧ (1250 : Int).natAbs < 10 ^ 33 ∧ 32 < 2 + 32
    ∧ Holds sDec 1 2 6 (dec 8 0) ∧ (1250 : Int) = 125 * 10 ^ (2 - 1) ∧ ¬ (10 ^ (2 - 0) : Int) ∣ 1250 ∧ tswDrm (sDec.bank 1 2).tsw = 0
    ∧ 2 * (1250 - 12 * 10 ^ 2 : Int).natAbs ≤ 10 ^ 2 ∧ (12 : Int) % 2 = 0
    ∧ (1250 * 10 ^ (4 + 0 - 2) : Int) = 15625 * 8 ∧ (∀ j, j < 4 → 2 ≤ j + 0 → ¬ (8 : Int) ∣ 1250 * 10 ^ (j + 0 - 2)) := by
  simp only [Issues, Ready, Holds]; decide +kernel

theorem test_decimal : reg (after (exec (.dadd 1 2 4 5) sDec)) 2 = dec 950 2 ∧ reg (after (exec (.dmul 1 2 4 5) sDec)) 2 = dec (-3750) 2
    ∧ reg (after (exec (.drnd 1 2 4 0) sDec)) 2 = dec 12 0 ∧ reg (after (exec (.ddivx 1 2 4 6) sDec)) 2 = dec 15625 4
    ∧ ((after (exec (.dmul 1 2 4 7) sDec)).core 1).entering.map (fun e => (e.vector, e.cause)) = some (6, 1)
    ∧ ((after (exec (.dresc 1 2 4 0) sDec)).core 1).entering.map (fun e => (e.vector, e.cause)) = some (6, 3)
    ∧ tswCc ((after (exec (.dcmp 1 5 6) sDec)).bank 1 2).tsw = 1 := by decide +kernel

theorem witness_BreakageDivision : Issues sDec 1 2 ∧ (16 : Reg).val % 2 = 0 ∧ Ready sDec 1 2 16 ∧ Holds sDec 1 2 (nextReg 16) (dec 7 0)
    ∧ Holds sDec 1 2 4 (dec 1250 2) ∧ Holds sDec 1 2 5 (dec (-3) 0) ∧ Holds sDec 1 2 20 (dec 0 0) ∧ malformed (dec 7 0) = false
    ∧ malformed (dec 1250 2) = false ∧ malformed (dec (-3) 0) = false ∧ (0 : Int) < 7
    ∧ Holds sDec 1 2 (nextReg 2) (dec 100 0) ∧ Holds (stateWith [(3, dec 0 0)] []) 1 2 (nextReg 2) (dec 0 0) := by
  simp only [Issues, Ready, Holds]; decide +kernel

/-- 12.50 shared by −3 in units of 7: nothing fits, and all of it is left (07 R281, R282). 120.00 by −3: −35, and 15.00 is left. -/
theorem test_ddivb : reg (after (exec (.ddivb 1 16 4 5) sDec)) 16 = dec 0 0 ∧ reg (after (exec (.ddivb 1 16 4 5) sDec)) 17 = dec 1250 2
    ∧ reg (after (exec (.ddivb 1 16 19 5) sDec)) 16 = dec (-35) 0 ∧ reg (after (exec (.ddivb 1 16 19 5) sDec)) 17 = dec 1500 2 := by decide +kernel

def dwh (v : Int) (k : Nat) : TVal := ⟨tDWH, (dwPay ⟨v, k⟩).1⟩
def dwl (v : Int) (k : Nat) : TVal := ⟨tDWL, (dwPay ⟨v, k⟩).2⟩
def sPair : State := stateWith [(4, dwh (10 ^ 40) 1), (5, dwl (10 ^ 40) 1), (6, dwh (-1) 0), (7, dwl (-1) 0), (16, dec (10 ^ 32) 1), (17, dec 10 0)] []

theorem witness_DecimalPairs : Issues sPair 1 2 ∧ Ready sPair 1 2 2 ∧ Ready sPair 1 2 (nextReg 2) ∧ (2 : Reg).val % 2 = 0 ∧ (4 : Reg).val % 2 = 0
    ∧ Holds sPair 1 2 4 (dwh (10 ^ 40) 1) ∧ Holds sPair 1 2 (nextReg 4) (dwl (10 ^ 40) 1) ∧ malformed (dwh (10 ^ 40) 1) = false
    ∧ malformed (dwl (10 ^ 40) 1) = false ∧ Holds sPair 1 2 6 (dwh (-1) 0) ∧ Holds sPair 1 2 (nextReg 6) (dwl (-1) 0)
    ∧ malformed (dwh (-1) 0) = false ∧ malformed (dwl (-1) 0) = false ∧ Holds sPair 1 2 16 (dec (10 ^ 32) 1) ∧ Holds sPair 1 2 17 (dec 10 0)
    ∧ malformed (dec (10 ^ 32) 1) = false ∧ malformed (dec 10 0) = false ∧ (dwOf (dwh (-1) 0).val (dwl (-1) 0).val).v.natAbs < 10 ^ 33 := by
  simp only [Issues, Ready, Holds]; decide +kernel

theorem test_pairs : reg (after (exec (.daddw 1 2 4 6) sPair)) 2 = dwh (10 ^ 40 - 10) 1 ∧ reg (after (exec (.daddw 1 2 4 6) sPair)) 3 = dwl (10 ^ 40 - 10) 1
    ∧ reg (after (exec (.dmulw 1 2 16 17) sPair)) 2 = dwh (10 ^ 33) 1 ∧ reg (after (exec (.dnarw 1 2 6) sPair)) 2 = dec (-1) 0 := by decide +kernel

def dff (neg : Bool) (k : Nat) (q : Int) : TVal := dffVal (.fin neg k q)

/-- Packed +123 (digits 1 2 3, sign C) and the text 045 in one granule. -/
def sConv : State := stateWith [(4, bin (-42)), (5, dec 420 1), (6, dff true 15 (-1)), (7, bin 0x2000), (16, bin 0x2004), (17, binNat 2), (18, binNat 3),
  (19, dec 55 1)] [(512, granOf [0x12, 0x3C, 0, 0, 0x30, 0x34, 0x35])]

theorem witness_Conversions : sConv.memWf ∧ Issues sConv 1 2 ∧ Ready sConv 1 2 3 ∧ Holds sConv 1 2 4 (bin (-42)) ∧ Holds sConv 1 2 5 (dec 420 1)
    ∧ malformed (dec 420 1) = false ∧ (420 : Int) = 42 * 10 ^ 1 ∧ Holds sConv 1 2 6 (dff true 15 (-1)) ∧ malformed (dff true 15 (-1)) = false
    ∧ dffOf (dff true 15 (-1)) = .fin true 15 (-1) ∧ Holds sConv 1 2 7 (bin 0x2000) ∧ IsBase (bin 0x2000) ∧ Holds sConv 1 2 17 (binNat 2)
    ∧ Holds sConv 1 2 16 (bin 0x2004) ∧ Holds sConv 1 2 18 (binNat 3) ∧ AllRaw sConv 1 0x2000 2 ∧ AllRaw sConv 1 0x2004 3
    ∧ Covers sConv 1 2 (bin 0x2000) 0 .load 2 0x2000 ∧ Covers sConv 1 2 (bin 0x2004) 0 .load 3 0x2004 ∧ Covers sConv 1 2 (bin 0x2000) 0 .store 2 0x2000
    ∧ packedOf (sConv.octets 1 0x2000 2) = .ok 123 ∧ textOf (sConv.octets 1 0x2004 3) = .ok 45 ∧ Holds sConv 1 2 19 (dec 55 1)
    ∧ malformed (dec 55 1) = false := by
  and_intros <;> first
    | ((try simp only [AllRaw, IsBase, Ready]); decide +kernel)
    | exact ok_of (by decide +kernel)

theorem test_conversions : reg (after (exec (.btd 1 3 4) sConv)) 3 = dec (-42) 0 ∧ reg (after (exec (.dtb 1 3 5) sConv)) 3 = bin 42
    ∧ reg (after (exec (.dftd 1 3 6 2) sConv)) 3 = dec (-150) 2 ∧ reg (after (exec (.ptd 1 3 7 17 1 [] none) sConv)) 3 = dec 123 1
    ∧ reg (after (exec (.ttd 1 3 16 18 0 [] none) sConv)) 3 = dec 45 0
    ∧ (after (exec (.dtp 1 19 7 17 1 none) sConv)).octets 1 0x2000 4 = [0x05, 0x5C, 0, 0]
    ∧ (after (exec (.dtt 1 19 7 17 1 none) sConv)).octets 1 0x2000 4 = [0x35, 0x35, 0, 0]
    ∧ (let u := after (exec (.dtt 1 19 7 17 1 (some 5)) sConv); (u.bank 1 2).pc = 0x1000 ∧ (u.core 1).badWords = [5] ∧ (u.core 1).mcheck = some ⟨2, false, 0, 0⟩) := by decide +kernel

def packedForm : FormF := ⟨4, 5, 2, 1, 0, 4⟩
def sPacked : State := stateWith [(4, bin 0x2000), (5, bin 0x2000)] [(512, granOf [0x00, 0x12, 0x3C, 0, 0x04, 0x5D])]
def sPacked0 : State := stateWith [(4, bin 0x2000), (5, bin 0x2000)] [(512, granOf [0x00, 0x12, 0x3C, 0, 0x00, 0x0C])]

theorem witness_PackedDecimal : sPacked.memWf ∧ IssuesTwo sPacked 1 2 ∧ Holds sPacked 1 2 packedForm.base1 (bin 0x2000) ∧ IsBase (bin 0x2000)
    ∧ Holds sPacked 1 2 packedForm.base2 (bin 0x2000) ∧ packedForm.len1.toNat + 1 = 3 ∧ packedForm.len2.toNat + 1 = 2
    ∧ Covers sPacked 1 2 (bin 0x2000) packedForm.disp2.toNat .load 2 0x2004 ∧ Covers sPacked 1 2 (bin 0x2000) packedForm.disp1.toNat .store 3 0x2000
    ∧ Covers sPacked 1 2 (bin 0x2000) packedForm.disp1.toNat .load 3 0x2000 ∧ AllRaw sPacked 1 0x2000 3 ∧ AllRaw sPacked 1 0x2004 2
    ∧ packedOf (sPacked.octets 1 0x2004 2) = .ok (-45) ∧ packedOf (sPacked.octets 1 0x2000 3) = .ok 123
    ∧ packedOf (sPacked0.octets 1 0x2004 2) = .ok 0 := by
  and_intros <;> first
    | ((try simp only [AllRaw, IsBase, Ready]); decide +kernel)
    | exact ok_of (by decide +kernel)

theorem test_packed : (after (exec (.padd 1 packedForm .none) sPacked)).octets 1 0x2000 6 = [0x00, 0x07, 0x8C, 0, 0x04, 0x5D]
    ∧ (after (exec (.pmul 1 packedForm .none) sPacked)).octets 1 0x2000 3 = [0x05, 0x53, 0x5D]
    ∧ (after (exec (.prem 1 packedForm .none) sPacked)).octets 1 0x2000 3 = [0x00, 0x03, 0x3C]
    ∧ tswCc ((after (exec (.pcmp 1 packedForm .none) sPacked)).bank 1 2).tsw = 2
    ∧ ((after (exec (.pdiv 1 packedForm .none) sPacked0)).core 1).entering.map (fun e => (e.vector, e.cause)) = some (7, 1) := by decide +kernel

/-- A machine check within a step leaves the octets already written, PC on the instruction, and its range (07 R290). -/
theorem test_broken : (let u := after (exec (.padd 1 packedForm ⟨[], some [1], none⟩) sPacked)
    u.octets 1 0x2000 3 = [0x00, 0x07, 0x3C] ∧ (u.bank 1 2).pc = 0x1000 ∧ (u.core 1).mcheck = some ⟨2, true, 0x2000, 3⟩) := by decide +kernel

/-- Float registers under FPM 2, PRECISE, and under FPM 0. -/
def floatRegs : List (Fin 104 × TVal) := [(3, dff false 1 0), (4, dff false 15 (-1)), (5, dff true 2 0), (6, dff false 0 0), (7, dffVal (.snan false 9)),
  (16, ⟨tB64, 0x3FF8000000000000⟩), (17, ⟨tB64, 0x4000000000000000⟩), (18, ⟨tB64, 0x7FF4000000000000⟩), (19, bin 3), (20, ⟨tB64, 0⟩)]
def sFp : State := stateWith floatRegs []
def sFpPrecise : State := stateOf { bankWith floatRegs with tsw := 0x8790010000000000 } []

theorem witness_DecimalFloat : Issues sFp 1 2 ∧ Holds sFp 1 2 3 (dff false 1 0) ∧ Holds sFp 1 2 4 (dff false 15 (-1)) ∧ Holds sFp 1 2 5 (dff true 2 0)
    ∧ IsTyped [tDFF, tDFI, tDFQ, tDFS] (dff false 15 (-1)) ∧ IsTyped [tDFF, tDFI, tDFQ, tDFS] (dffVal (.snan false 9)) ∧ Holds sFp 1 2 19 (bin 3)
    ∧ IsTyped [tB64] ⟨tB64, 0x3FF8000000000000⟩ ∧ tswFpm (sFp.bank 1 2).tsw ≠ 2 ∧ Issues sFpPrecise 1 2 ∧ tswFpm (sFpPrecise.bank 1 2).tsw = 2
    ∧ Holds sFpPrecise 1 2 6 (dff false 0 0) ∧ trapping (dffRes (dfdiv 0 (.fin false 15 (-1)) (.fin false 0 0))).2 ≠ 0
    ∧ (-2079 : Int) ≤ -1 ∧ 15 < 10 ^ 33 ∧ 0 < 15 * 2 ∧ 15 * 2 < 10 ^ 33 := by
  simp only [Issues, Holds, Ready, IsTyped]; decide +kernel

theorem test_decimalFloat : ((after (exec (.dfadd 1 2 4 5) sFp)).core 1).port.map (fun e => (e.slot, e.val, e.flags)) = [(some 2, dff true 5 (-1), 0)]
    ∧ reg (after (exec (.dfmul 1 2 4 5) sFpPrecise)) 2 = dff true 30 (-1)
    ∧ ((after (exec (.dfdiv 1 2 4 6) sFpPrecise)).core 1).entering.map (fun e => (e.vector, e.cause)) = some (8, 8)
    ∧ reg (after (exec (.dfscb 1 2 4 19) sFpPrecise)) 2 = dff false 15 2 := by decide +kernel

theorem witness_BinaryFloat : Issues sFp 1 2 ∧ Issues sFpPrecise 1 2 ∧ Holds sFp 1 2 16 ⟨tB64, 0x3FF8000000000000⟩ ∧ Holds sFp 1 2 17 ⟨tB64, 0x4000000000000000⟩
    ∧ Holds sFp 1 2 3 (dff false 1 0) ∧ IsTyped [tB64] ⟨tB64, 0x3FF8000000000000⟩ ∧ IsTyped [tB64] ⟨tB64, 0x4000000000000000⟩
    ∧ Holds sFpPrecise 1 2 18 ⟨tB64, 0x7FF4000000000000⟩ ∧ (∃ g k, b64Of 0x7FF4000000000000 = .snan g k) ∧ tswFpm (sFp.bank 1 2).tsw = 0
    ∧ cmpFl 2 (b64Of 0x3FF8000000000000) (b64Of 0x4000000000000000) = some .lt
    ∧ trapping (b64Res (bfdiv 0 (b64Of 0x3FF8000000000000) (b64Of 0))).2 ≠ 0 := by
  and_intros <;> first
    | exact ⟨_, _, rfl⟩
    | ((try simp only [Ready]); decide +kernel)

theorem test_binaryFloat : reg (after (exec (.bfadd 1 2 16 17) sFpPrecise)) 2 = ⟨tB64, 0x400C000000000000⟩
    ∧ reg (after (exec (.bfsqrt 1 2 17) sFpPrecise)) 2 = ⟨tB64, 0x3FF6A09E667F3BCD⟩ ∧ reg (after (exec (.bfneg 1 2 16) sFpPrecise)) 2 = ⟨tB64, 0xBFF8000000000000⟩
    ∧ ((after (exec (.bfcb 1 16 17 2 8) sFp)).bank 1 2).pc = 0x1020
    ∧ ((after (exec (.bfcb 1 16 18 2 8) sFpPrecise)).core 1).entering.map (fun e => (e.vector, e.cause)) = some (8, 16) := by decide +kernel

def strForm : FormF := ⟨4, 5, 3, 0, 0, 0⟩
def sStr : State := stateWith [(4, bin 0x2000), (5, bin 0x2008)] [(512, granOf [1, 2, 3, 4, 0, 0, 0, 0, 9, 8, 7, 6])]

theorem witness_ShortStrings : sStr.memWf ∧ IssuesTwo sStr 1 2 ∧ strForm.len2 = 0 ∧ Holds sStr 1 2 strForm.base1 (bin 0x2000) ∧ IsBase (bin 0x2000)
    ∧ Holds sStr 1 2 strForm.base2 (bin 0x2008) ∧ IsBase (bin 0x2008) ∧ 4 = strForm.len1.toNat + 1 ∧ NoPoison sStr 1 0x2000 4
    ∧ Covers sStr 1 2 (bin 0x2000) strForm.disp1.toNat .store 4 0x2000 ∧ Covers sStr 1 2 (bin 0x2000) strForm.disp1.toNat .load 4 0x2000
    ∧ Covers sStr 1 2 (bin 0x2008) strForm.disp2.toNat .load 4 0x2008 ∧ Covers sStr 1 2 (bin 0x2008) strForm.disp2.toNat .load 256 0x2008
    ∧ AllRaw sStr 1 0x2008 4 ∧ AllRaw sStr 1 0x2008 256 ∧ AllRaw sStr 1 0x2000 4 ∧ sStr.byte 1 0x2000 ≠ sStr.byte 1 0x2008 := by
  and_intros <;> first
    | ((try simp only [AllRaw, NoPoison, IsBase, Ready]); decide +kernel)
    | exact ok_of (by decide +kernel)

theorem test_shortStrings : (after (exec (.movs 1 strForm .none) sStr)).octets 1 0x2000 6 = [9, 8, 7, 6, 0, 0]
    ∧ (after (exec (.fils 1 strForm .none) sStr)).octets 1 0x2000 6 = [9, 9, 9, 9, 0, 0]
    ∧ (after (exec (.xlts 1 strForm .none) sStr)).octets 1 0x2000 5 = [8, 7, 6, 0, 0]
    ∧ tswCc ((after (exec (.cmps 1 strForm .none) sStr)).bank 1 2).tsw = 1 := by decide +kernel

/-- Operands of the long forms: pairs W4/W5 and W6/W7 of the bank's numbering, a table at 0x3000, a class mask and a pad. The
pattern of an edit at 0x2080 (two digits, a point, a digit), its control block at 0x20C0, its source packed 123. -/
def sLong : State := ((stateWith [(4, bin 0x2000), (5, binNat 300), (6, bin 0x2200), (7, binNat 3), (2, binNat 0x20), (16, bin 0x3000), (17, binNat 1),
    (18, bin 0x2400), (19, binNat 4), (20, bin 0x2080), (21, bin 0x2100), (22, bin 0x20C0)] []).setOctets 1 0x2200 [1, 2, 3]).setOctets 1 0x2080
  [0x10, 0x10, 0x2E, 0x10] |>.setOctets 1 0x20C0 [0x20] |>.setOctets 1 0x2100 [0x12, 0x3C]

theorem witness_LongStrings : Issues sLong 1 2 ∧ Holds sLong 1 2 4 (bin 0x2000) ∧ IsBase (bin 0x2000) ∧ Holds sLong 1 2 (nextReg 4) (binNat 300)
    ∧ longFields [4, 6] [2] = .ok () ∧ Holds sLong 1 2 6 (bin 0x2200) ∧ Holds sLong 1 2 (nextReg 6) (binNat 3) ∧ Holds sLong 1 2 2 (binNat (0x20 : Byte).toNat)
    ∧ longAddr (bin 0x2200) 3 .load = .ok () ∧ longAddr (bin 0x2000) 300 .store = .ok () ∧ longAddr (bin 0x2000) 300 .load = .ok ()
    ∧ addrOf (bin 0x2000) ≤ addrOf (bin 0x2200) ∧ Covers sLong 1 2 (bin 0x2000) 0 .store 256 0x2000 ∧ NoPoison sLong 1 0x2000 256
    ∧ Covers sLong 1 2 (bin 0x2200) 0 .load 3 0x2200 ∧ AllRaw sLong 1 0x2200 3 ∧ Covers sLong 1 2 (bin 0x2000) 0 .load 256 0x2000
    ∧ AllRaw sLong 1 0x2000 256 ∧ longFields [4] [16] = .ok () ∧ Holds sLong 1 2 16 (bin 0x3000) ∧ longAddr (bin 0x3000) 256 .load = .ok ()
    ∧ Covers sLong 1 2 (bin 0x3000) 0 .load 256 0x3000 ∧ AllRaw sLong 1 0x3000 256 ∧ longFields [4] [17, 16] = .ok ()
    ∧ Holds sLong 1 2 17 (binNat 1) ∧ longFields [4] [2] = .ok ()
    ∧ longFields [18, 20] [22] = .ok () ∧ Holds sLong 1 2 18 (bin 0x2400) ∧ Holds sLong 1 2 (nextReg 18) (binNat 4) ∧ Holds sLong 1 2 20 (bin 0x2080)
    ∧ Holds sLong 1 2 (nextReg 20) (bin 0x2100) ∧ Holds sLong 1 2 22 (bin 0x20C0) ∧ longAddr (bin 0x2400) 4 .store = .ok ()
    ∧ 4 = fieldLength (sLong.octets 1 (addrOf (bin 0x2080)) 4) ∧ 3 = ((sLong.octets 1 0x2080 4).filter takesDigit).length
    ∧ Covers sLong 1 2 (bin 0x2080) 0 .load 4 0x2080 ∧ Covers sLong 1 2 (bin 0x2400) 0 .store 4 0x2400 ∧ Covers sLong 1 2 (bin 0x20C0) 0 .load 64 0x20C0
    ∧ NoPoison sLong 1 0x2400 4 ∧ AllRaw sLong 1 0x2080 4 ∧ AllRaw sLong 1 0x20C0 64 ∧ ecbOf (sLong.octets 1 0x20C0 64) = some ⟨0x20, false, [], [], []⟩
    ∧ longAddr (bin 0x2100) 2 .load = .ok () ∧ Covers sLong 1 2 (bin 0x2100) 0 .load 2 0x2100 ∧ AllRaw sLong 1 0x2100 2
    ∧ packedOf (sLong.octets 1 0x2100 2) = .ok 123
    ∧ editField ⟨0x20, false, [], [], []⟩ (sLong.octets 1 0x2080 4) (digitList 3 123) false false = some [0x31, 0x32, 0x2E, 0x33] := by
  and_intros <;> first
    | ((try simp only [AllRaw, NoPoison, IsBase, Ready]); decide +kernel)
    | exact ok_of (by decide +kernel)
    | rfl

theorem test_longStrings : (after (exec (.edit 1 18 20 22 .none) sLong)).octets 1 0x2400 5 = [0x31, 0x32, 0x2E, 0x33, 0]
    ∧ (let u := after (exec (.movl 1 4 6 2 .none) sLong)
       u.octets 1 0x2000 5 = [1, 2, 3, 0x20, 0x20] ∧ reg u 5 = binNat 44 ∧ reg u 4 = bin 0x2100 ∧ (u.bank 1 2).pc = 0x1000)
    ∧ (let u := after (exec (.find 1 6 2 .none) sLong); tswCc (u.bank 1 2).tsw = 2 ∧ reg u 7 = binNat 0 ∧ (u.bank 1 2).pc = 0x1004) := by decide +kernel

/-- A package with dispatch entries for 0xE1, open to user mode, and 0xE2, which is not; their only microword is END. -/
def mcPack : Octets := zeros 56 ++ leBytes 2 16384 ++ leBytes 2 4 ++ [1, 0, 0, 0] ++ leBytes 2 16384 ++ leBytes 2 4 ++ zeros 200

def sMicro : State := ((stateWith [(4, bin 7)] []).modCore 1 (fun k => { k with micro := [(16384, some 0xE0000000)] }))
def sMicro1 : State := { sMicro with svc := { sMicro.svc with mcPackage := some mcPack } }

theorem witness_CustomerInstructions : Issues sMicro1 1 2 ∧ (microEntry sMicro1.svc.mcPackage 0).entry = 0 ∧ (microEntry sMicro1.svc.mcPackage 1).entry ≠ 0
    ∧ (microEntry sMicro1.svc.mcPackage 1).user = true ∧ (microEntry sMicro1.svc.mcPackage 1).pair = false ∧ Holds sMicro1 1 2 4 (bin 7)
    ∧ (sMicro1.microword 1 16384).toNat / 2 ^ 27 = 28 ∧ 0 < (microEntry sMicro1.svc.mcPackage 1).cycles
    ∧ (∃ r cc, microRun 1 2 [] (fun _ => false) 5 4 16384 sMicro1 ⟨bin 7, bin 7, bin 7, TVal.zero, false, 0, List.replicate 14 TVal.zero, none, none, false, false⟩
        = .ok (sMicro1, .done r cc))
    ∧ microRun 1 2 [] (fun _ => true) 5 4 16384 sMicro1 ⟨bin 7, bin 7, bin 7, TVal.zero, false, 0, List.replicate 14 TVal.zero, none, none, false, false⟩
        = .ok (sMicro1, .badWord 16384 4)
    ∧ microRun 1 2 [] (fun _ => false) 1 0 16384 sMicro1 ⟨bin 7, bin 7, bin 7, TVal.zero, false, 0, List.replicate 14 TVal.zero, none, none, false, false⟩
        = .ok (sMicro1, .overrun)
    ∧ (microEntry sMicro1.svc.mcPackage 2).entry ≠ 0 ∧ (microEntry sMicro1.svc.mcPackage 2).user = false
    ∧ Issues { sUser with svc := sMicro1.svc } 1 2 ∧ ¬ Super { sUser with svc := sMicro1.svc } 1 2 := by
  and_intros <;> first
    | ((try simp only [Super, Ready]); decide +kernel)
    | exact ⟨_, _, rfl⟩
    | rfl

/-- A customer package of two words, ADD of a and b to d and END, opened to opcode 0xE1, less its signature. -/
def packBody : Octets := leBytes 4 0x4D43504B ++ [1, 0, 2, 0] ++ leBytes 4 3 ++ [0xB0, 0, 2, 0] ++ leBytes 4 1 ++ zeros 36 ++ leBytes 2 16384 ++ leBytes 2 4
  ++ [1, 0, 0, 0] ++ zeros 192 ++ leBytes 4 0x10401100 ++ leBytes 4 0xE0000000

/-- The package's entries and words pass the checks after the signature's; one with another magic is refused, as is a word with
a reserved bit or of a class not defined (13 R541). -/
theorem test_packageCheck : (List.range 16).findSome? (dispatchCheck packBody) = none ∧ (List.range 2).findSome? (bodyCheck false packBody false) = none
    ∧ customerCheck (packBody.set 0 1 ++ zeros 96) [] 1 = some (0, 0) ∧ dispatchCheck (packBody.set 60 4) 1 = some 2
    ∧ bodyCheck false (packBody.set 256 0x81) false 0 = some 2 ∧ bodyCheck false (packBody.set 259 0xF0) false 0 ≠ none := by decide +kernel

/-- The routine of that package loaded: its words, and one word of each other kind from 16386 on. -/
def sMicro2 : State := { (stateWith [(4, bin 7), (5, bin 5), (7, bin 0x2000)] [(512, granOf [1, 2])]).modCore 1 (fun k => { k with
    micro := [(16384, some 0x10401100), (16385, some 0xE0000000), (16386, some 0x10080000), (16387, some 0x14001100), (16388, some 0x22100005),
      (16389, some 0x32300000), (16390, some 0x40880000), (16391, some 0x84004000)] }) with svc := { sMicro.svc with mcPackage := some (packBody ++ zeros 96) } }
def microA : Micro := ⟨bin 7, bin 7, bin 5, TVal.zero, false, 0, (List.replicate 14 TVal.zero).set 12 (bin 0x2000), none, none, false, false⟩

theorem witness_Microwords : Issues sMicro2 1 2 ∧ (microEntry sMicro2.svc.mcPackage 1).entry = 16384 ∧ (microEntry sMicro2.svc.mcPackage 1).cycles = 4
    ∧ sMicro2.microword 1 16384 = BitVec.ofNat 32 (0x10000000 + 1 * 0x400000 + 0 * 0x20000 + 1 * 0x1000 + 2 * 0x80)
    ∧ sMicro2.microword 1 16385 = BitVec.ofNat 32 0xE0000000 ∧ (sMicro2.core 1).badWords = [] ∧ Holds sMicro2 1 2 4 (bin 7) ∧ Holds sMicro2 1 2 5 (bin 5)
    ∧ microA.d1Due = false ∧ microA.temp.length = 14 ∧ microA.read 1 tRAW = bin 7 ∧ microA.read 2 tRAW = bin 5 ∧ microA.read 16 tRAW = bin 0x2000
    ∧ sMicro2.microword 1 16386 = BitVec.ofNat 32 (0x10000000 + 0 * 0x400000 + 4 * 0x20000 + 0 * 0x1000 + 0 * 0x80)
    ∧ sMicro2.microword 1 16388 = BitVec.ofNat 32 (0x20000000 + 4 * 0x800000 + 16 * 0x10000 + 5)
    ∧ sMicro2.microword 1 16389 = BitVec.ofNat 32 (0x30000000 + 4 * 0x800000 + 3 * 0x100000 + 0 * 32)
    ∧ Reaches sMicro2 1 2 (microA.read 16 tRAW) 0 .load 8 0x2000 ∧ sMicro2.checkGrans 1 0x2000 8 octetTags 4 = .ok ()
    ∧ sMicro2.microword 1 16390 = BitVec.ofNat 32 (0x40000000 + 1 * 0x800000 + tBIN.toNat * 0x80000)
    ∧ sMicro2.microword 1 16391 = BitVec.ofNat 32 (0x80000000 + 4 * 0x1000000 + 0x4000) := by
  and_intros <;> first
    | ((try simp only [Ready]); decide +kernel)
    | exact ok_of (by decide +kernel)

theorem test_microRoutine : reg (after (exec (.customerInstruction 1 1 3 4 5 0 [] none) sMicro2)) 3 = bin 12
    ∧ ((after (exec (.customerInstruction 1 1 3 4 5 0 [] (some 16385)) sMicro2)).core 1).badWords = [16385]
    ∧ ((after (exec (.customerInstruction 1 1 3 4 5 0 [] (some 16385)) sMicro2)).core 1).mcheck = some ⟨2, false, 0, 0⟩ := by decide +kernel

/-- Roundings: 15 ÷ 2 in each direction, and the numbers the clauses speak of at the ends of their ranges (worked out by hand). -/
theorem witness_DecimalRounding : (4 : Nat) ≤ 4 ∧ 10 ^ (34 - 1) ≤ 10 ^ 33 + 5 ∧ 10 ^ 33 + 5 < 10 ^ 34 ∧ (2014 : Int) + 34 ≤ 2048 ∧ (2015 : Int) + 34 = 2049
    ∧ (2016 : Int) + 34 ≥ 2050 ∧ RoundedTo 0 false 8 15 2 ∧ RoundedTo 1 false 8 15 2 ∧ RoundedTo 2 false 7 15 2 ∧ RoundedTo 3 true 7 15 2
    ∧ RoundedTo 4 true 8 15 2 ∧ scaled 10 false 5 0 (-1) + scaled 10 true 1 (-1) (-1) ≠ 0 ∧ (0 : Nat) < 7 ∧ 7 < 10 ^ 33 ∧ (49 : Nat) = 7 * 7
    ∧ (2 : Int) * (-1039) = -2078 ∧ (-1 : Int) ≤ 1 ∧ (10 : Nat) ^ (3 : Int).toNat ≤ 1 * 2 ^ 1022 := by
  and_intros <;> first | decide +kernel | simp [RoundedTo]

/-- M + s is M with inexact, s ÷ M is 0 with underflow and inexact, the square root of M, M quantized to 1 (07 R315). -/
theorem test_decimalRounding :
    let M := Fl.fin false (10 ^ 33 - 1) 2016
    let s := Fl.fin false 1 (-2079)
    dfadd 0 M s = (M, 1) ∧ dfdiv 0 s M = (.fin false 0 (-2079), 3) ∧ dfdiv 3 s M = (s, 3) ∧ dfmul 0 M s = (.fin false (10 ^ 33 - 1) (-63), 0)
    ∧ dfsqrt 0 M = (.fin false 316227766016837933199889354443272 992, 1) ∧ dfqua 0 M (.fin false 1 0) = (.qnan false 0, 0x10)
    ∧ dfqua 0 s (.fin false 1 0) = (.fin false 0 0, 1) ∧ dfscb 0 M 1 = (.inf false, 5) ∧ dfscb 0 s 4095 = (.fin false 1 2016, 0)
    ∧ dffma 0 s s s = (s, 3) ∧ dftb 0 s = (.fin false 0 (-1074), 3)
    ∧ btdf 0 (b64Of 0x7FEFFFFFFFFFFFFF) = (.fin false 179769313486231570814527423731704 276, 1) := by decide +kernel

theorem witness_BinaryRounding : (0 : Nat) < 5 ∧ (-1024 : Int) + (Nat.log2 5 + 1 : Nat) = -1021 ∧ (-1025 : Int) + (Nat.log2 5 + 1 : Nat) = -1022
    ∧ (1020 : Int) + (Nat.log2 5 + 1 : Nat) = 1023 ∧ (1021 : Int) + (Nat.log2 5 + 1 : Nat) = 1024 ∧ (1022 : Int) + (Nat.log2 5 + 1 : Nat) = 1025
    ∧ scaled 2 false 5 0 (-1) - scaled 2 false 1 (-1) (-1) ≠ 0 ∧ 5 < 2 ^ 53 ∧ (-960 : Int) ≤ 971 - 72 ∧ RoundedTo (brmMode 2) true 1 3 2 := by
  and_intros <;> first | decide +kernel | simp [RoundedTo, brmMode]

/-- Rows of the table of 07 R316, and two of R317. -/
theorem test_binaryRounding :
    let M := b64Of 0x7FEFFFFFFFFFFFFF
    let s := b64Of 1
    bfadd 0 M s = (M, 1) ∧ b64Res (bfadd 0 s s) = (⟨tB64, 2⟩, 0) ∧ (bfsub 0 s s).2 = 0 ∧ b64Res (bfmul 0 M s) = (⟨tB64, 0x3CCFFFFFFFFFFFFF⟩, 0)
    ∧ b64Res (bfdiv 0 s M) = (⟨tB64, 0⟩, 3) ∧ b64Res (bfdiv 2 s M) = (⟨tB64, 1⟩, 3) ∧ b64Res (bfadd 1 M M) = (⟨tB64, 0x7FEFFFFFFFFFFFFF⟩, 5)
    ∧ b64Res (bfsqrt 0 M) = (⟨tB64, 0x5FEFFFFFFFFFFFFF⟩, 1) ∧ b64Res (bfsqrt 0 s) = (⟨tB64, 0x1E60000000000000⟩, 0)
    ∧ b64Res (bfrint 0 s) = (⟨tB64, 0⟩, 1) ∧ b64Res (bfscb 0 s 2097) = (⟨tB64, 0x7FE0000000000000⟩, 0) ∧ b64Res (bffma 0 s s s) = (⟨tB64, 1⟩, 3) := by
  decide +kernel

/-! ### Requests, banks, entries -/

/-- In the sill of span 1, the scribe open; W4 = 0x10000000 in bay memory, W5 = 3, W6 a handle's place, W7 = 0x2000. -/
def sReq : State :=
  let s := stateOf { bankWith [(4, bin 0x10000000), (5, bin 3), (6, bin 0x10000100), (7, bin 0x2000), (16, binNat 0), (17, binNat 384), (18, raw 0x90003),
    (19, bin 0x10000200)] with tsw := 0x8780010000000000 } []
  { s with t := { s.t with phase := .sill, span := 1, lastStarted := 1, run := true }, scribe := { s.scribe with spanOpen := true } }

def sReqJob : State := sReq.modBank 1 2 (fun k => { k with job := some jobA })
def sReqSpent : State := sReq.modBank 1 2 (fun k => { k with job := some { jobA with scrUsed := 4 } })

/-- A draw of 2 numbers from 1 to 6 into 0x10001000; a SHA-256 of 16 octets at 0x10000000 into 0x10001000. -/
def drawBlock : Octets := [1, 0, 2, 0] ++ zeros 12 ++ leBytes 2 1 ++ leBytes 2 6 ++ zeros 4 ++ leBytes 4 0x10001000 ++ zeros 36
def sealBlock : Octets := [1, 0, 0, 0] ++ leBytes 4 16 ++ leBytes 4 0x10000000 ++ leBytes 4 0x10001000 ++ zeros 48

/-- A leaf of bank 2's job, for a receipt. -/
def leafA : Leaf := ⟨leafData 1 1 2 64 9 2 [7, 8, 9], 1, 2, some 5, false, false⟩
def sRcpt : State := { sReqJob with scribe := { sReqJob.scribe with leaves := [leafA] } }

theorem witness_ScribeRequests : Issues sReq 1 2 ∧ sReq.queueRoom 1 2 .scribe = true ∧ Ready sReq 1 2 3
    ∧ Holds sReq 1 2 4 (bin 0x10000000) ∧ IsBase (bin 0x10000000) ∧ Holds sReq 1 2 5 (binNat 3)
    ∧ sReq.checkBay 1 (mkAccess (sReq.bank 1 2) (bin 0x10000000) 0 .load) 3 = .ok 0x10000000 ∧ AllRaw sReq 1 0x10000000 3
    ∧ (sReq.bank 1 2).job = none ∧ Issues sReqJob 1 2 ∧ (sReqJob.bank 1 2).job = some jobA ∧ jobA.scrUsed < jobA.job.cert.scrRec
    ∧ Issues sReqSpent 1 2 ∧ (sReqSpent.bank 1 2).job = some { jobA with scrUsed := 4 }
    ∧ (let u := sReqJob.setOctets 1 0x10000200 drawBlock
       Issues u 1 2 ∧ Holds u 1 2 19 (bin 0x10000200) ∧ u.checkBlock 1 2 [] (bin 0x10000200) 64 = .ok (u, 0x10000200)
        ∧ u.queueRoom 1 2 .draw = true ∧ drawBad (u.octets 1 0x10000200 64) = false
        ∧ u.checkOut 1 2 (fieldAt (u.octets 1 0x10000200 64) 24 4) 160 16 = .ok ())
    ∧ (let u := sReq.setOctets 1 0x10000200 sealBlock
       u.checkBlock 1 2 [] (bin 0x10000200) 64 = .ok (u, 0x10000200) ∧ u.queueRoom 1 2 .seal = true ∧ sealBad (u.octets 1 0x10000200 64) = false
        ∧ fieldAt (u.octets 1 0x10000200 64) 0 1 = 1
        ∧ u.checkBay 1 (mkAccess (u.bank 1 2) (binNat (fieldAt (u.octets 1 0x10000200 64) 8 4)) 0 .load) (fieldAt (u.octets 1 0x10000200 64) 4 4) = .ok 0x10000000
        ∧ fieldAt (u.octets 1 0x10000200 64) 20 4 = 0
        ∧ u.checkOut 1 2 (fieldAt (u.octets 1 0x10000200 64) 12 4) (sealOutLen 1 16) 16 = .ok ())
    ∧ Issues sRcpt 1 2 ∧ Holds sRcpt 1 2 16 (binNat 0) ∧ Holds sRcpt 1 2 6 (bin 0x10000100) ∧ sRcpt.queueRoom 1 2 .receipt = true
    ∧ sRcpt.checkBay 1 (mkAccess (sRcpt.bank 1 2) (bin 0x10000100) 0 .store) 32 = .ok 0x10000100 ∧ 0x10000100 % 32 = 0
    ∧ (sRcpt.bank 1 2).jobId = some 5 ∧ sRcpt.scribe.leaves[0]? = some leafA ∧ leafA.receipted = false
    ∧ (let u : State := { sReq with adm := { sReq.adm with cfg := { sReq.adm.cfg with r0CoreId := 1 } } }
       (1 : CoreId) = u.controlCore ∧ Super u 1 2 ∧ Holds u 1 2 18 (raw 0x90003) ∧ postedOf (raw 0x90003).val = some ⟨false, 9, false⟩
        ∧ u.host.postQueue.length < 8)
    ∧ Holds sReq 1 2 17 (binNat (384 + 65536 * (0 : CoreId).val)) := by
  and_intros <;> first
    | ((try simp only [AllRaw, IsBase, Ready, Super]); decide +kernel)
    | exact ok_of (by decide +kernel)
    | exact checkBlock_nil (by and_intros <;> first | decide +kernel | exact ok_of (by decide +kernel))
    | rfl

theorem test_requests : ((after (exec (.scribe 1 3 4 5 []) sReqJob)).scribe.leaves.map (fun l => l.data.length)) = [19]
    ∧ reg (after (exec (.scribe 1 3 4 5 []) sRcpt)) 3 = bin 1
    ∧ ((after (exec (.scribe 1 3 4 5 []) sReqSpent)).core 1).entering.map (fun e => (e.vector, e.cause)) = some (9, 4)
    ∧ (after (exec (.draw 1 3 19 []) (sReqJob.setOctets 1 0x10000200 drawBlock))).ds.draws.length = 1
    ∧ (after (exec (.seal 1 3 19 []) (sReq.setOctets 1 0x10000200 sealBlock))).ds.seals.length = 1
    ∧ (after (exec (.rcpt 1 3 16 6) sRcpt)).ds.rcpts.length = 1 := by decide +kernel

/-- A mover command: 32 octets of bay memory to bench memory. -/
def movCmd : Octets := [1, 1, 0, 0] ++ leBytes 4 32 ++ leBytes 8 0x10000000 ++ leBytes 8 0x3000 ++ zeros 8
def sMovr : State := sReq.setOctets 1 0x2000 movCmd

/-- The descriptor of a chain: two BIN elements at 0x10000000 copied to 0x10001000. -/
def chainDesc : Octets := [1, 0, 1, 0, 2, 0, 0, 0] ++ ([1, 1, 0, 0] ++ leBytes 6 0x10000000 ++ zeros 6) ++ zeros 16
  ++ ([1, 1, 0, 1] ++ leBytes 6 0x10001000 ++ zeros 6) ++ zeros 72
def sChain : State := sReq.setOctets 1 0x10000200 chainDesc

/-- A chain of bank 2 that has faulted, and the same with RESUME 1. -/
def chainA (st : ChainSt) (entered : Bool) (f : Option ChainFault) : ChainEnt :=
  ⟨0x00012040, 1, 2, none, 0x10000200, chainDesc, 0x8780010000000000, st, entered, 0, 0, 0, [], [], 0, 0, f⟩
def faultA : ChainFault := ⟨0, 2, 0, 0, 0⟩
def sResume (r : Nat) : State :=
  let s := (sChain.setByte 1 (0x10000200 + 68) (BitVec.ofNat 8 r)).setReg 1 2 4 (bin 0x12040)
  { s with lve := ⟨[(0, some (chainA .faulted true (some faultA)))], 1⟩ }

theorem witness_EngineRequests : Issues sMovr 1 2 ∧ Ready sMovr 1 2 3 ∧ Holds sMovr 1 2 7 (bin 0x2000) ∧ IsBase (bin 0x2000)
    ∧ sMovr.queueRoom 1 2 .moves = true ∧ Covers sMovr 1 2 (bin 0x2000) 0 .load 32 0x2000 ∧ AllRaw sMovr 1 0x2000 32
    ∧ movBad (sMovr.octets 1 0x2000 32) = false ∧ sMovr.checkMov 1 2 (movOp (sMovr.octets 1 0x2000 32)) = .ok () ∧ (sMovr.bank 1 2).job = none
    ∧ Issues sChain 1 2 ∧ Holds sChain 1 2 19 (bin 0x10000200) ∧ sChain.queueRoom 1 2 .chains = true
    ∧ sChain.checkBlock 1 2 [] (bin 0x10000200) 128 = .ok (sChain, 0x10000200) ∧ badDesc sChain (sChain.octets 1 0x10000200 128) false = none
    ∧ badDesc sChain (([2] : Octets) ++ (sChain.octets 1 0x10000200 128).drop 1) false = some 0 ∧ isBay 0x2000 = false
    ∧ faultA.cause ≠ 1
    ∧ Issues (sResume 0) 1 2 ∧ Holds (sResume 0) 1 2 4 (bin 0x12040) ∧ (bin 0x12040).tag = tBIN
    ∧ (sResume 0).resumable 1 2 (bin 0x12040).val = some (0, chainA .faulted true (some faultA))
    ∧ (sResume 0).checkBlock 1 2 [] (binNat 0x10000200) 128 = .ok (sResume 0, 0x10000200) ∧ (sResume 0).byte 1 (0x10000200 + 68) = 0
    ∧ (sResume 1).byte 1 (0x10000200 + 68) = 1 ∧ (sResume 1).checkBlock 1 2 [] (binNat 0x10000200) 128 = .ok (sResume 1, 0x10000200) := by
  and_intros <;> first
    | ((try simp only [AllRaw, IsBase, Ready]); decide +kernel)
    | exact ok_of (by decide +kernel)
    | exact checkBlock_nil (by and_intros <;> first | decide +kernel | exact ok_of (by decide +kernel))
    | rfl

theorem test_engineRequests : (after (exec (.movr 1 3 7 []) sMovr)).byte 1 0x2018 = 1
    ∧ (after (exec (.vchain 1 3 19 []) sChain)).byte 1 (0x10000200 + 69) = 1 ∧ (after (exec (.vchain 1 3 19 []) sChain)).lve.chains.length = 1
    ∧ ((after (exec (.vresume 1 3 4 []) (sResume 0))).chainEnt 0).map (fun x => x.st) = some .queued
    ∧ (after (exec (.vresume 1 3 4 []) (sResume 1))).lve.chains = [] := by decide +kernel

def sPort : State := sInt.modCore 1 (fun k => { k with port := [⟨2, some 3, dff false 7 0, 0x10, some ⟨0x1000, 0x10, true, 15⟩⟩] })
def sBlocked (w : Wait) : State := sInt.modCore 1 (fun k => (k.modBank 2 (fun v => { v with st := .blocked, wait := some w })))

/-- A WAIT CHAINS that is the last word of a loop's body, blocked. -/
def sLoopBlocked : State := sLoop.modBank 1 2 (fun v => { v with st := .blocked, wait := some .chains })

theorem witness_PortAndWakes : (sPort.core 1).port = [⟨2, some 3, dff false 7 0, 0x10, some ⟨0x1000, 0x10, true, 15⟩⟩]
    ∧ ((sBlocked .chains).bank 1 2).st = .blocked ∧ ((sBlocked .chains).bank 1 2).wait = some .chains ∧ (sBlocked .chains).chainsIdle 1 2 = true
    ∧ (sBlocked .moves).movesIdle 1 2 = true ∧ (sBlocked .seals).sealsIdle 1 2 = true ∧ 0 ≤ (sBlocked (.until 0)).t.clock
    ∧ ((sBlocked (.queue .moves)).bank 1 2).wait = some (.queue .moves) ∧ (sBlocked (.queue .moves)).queueRoom 1 2 .moves = true
    ∧ ((sBlocked .chains).bank 1 2).loopLive = false ∧ (sLoopBlocked.bank 1 2).loopLive = true ∧ sLoopBlocked.chainsIdle 1 2 = true
    ∧ (sLoopBlocked.bank 1 2).pc.toNat = lendEnd (sLoopBlocked.bank 1 2).lend ∧ (sLoopBlocked.bank 1 2).st = .blocked
    ∧ (sLoopBlocked.bank 1 2).wait = some .chains := by decide +kernel

theorem test_port : reg (after (exec (.completionPortWrite 1) sPort)) 3 = dff false 7 0
    ∧ ((after (exec (.completionPortWrite 1) sPort)).bank 1 2).fpsf = 0x10
    ∧ ((after (exec (.waitChainsRelease 1 2) (sBlocked .chains))).bank 1 2).st = .ready
    ∧ ((after (exec (.waitChainsRelease 1 2) (sBlocked .chains))).bank 1 2).pc = 0x1004
    ∧ ((after (exec (.waitChainsRelease 1 2) sLoopBlocked)).bank 1 2).pc = 0x1000
    ∧ ((after (exec (.waitChainsRelease 1 2) sLoopBlocked)).bank 1 2).lcnt = 1 := by decide +kernel

/-- Banks 0 and 3 READY on core 1, bank 2 running a job of priority 3. -/
def sSched : State := sJob
def sIdle : State := sJob.modCore 1 (fun k => { k.modBank 2 (fun v => { v with st := .ready }) with running := none })

theorem witness_BankSwitching : (sSched.core 1).able = true ∧ (sSched.core 1).tActive = false ∧ (sSched.core 1).entering = none
    ∧ ((sSched.core 1).bank 0).st = .ready ∧ (∀ x, x ≠ bankT → x ≠ 0 → ((sSched.core 1).bank x).st ≠ .ready) ∧ (sSched.core 1).running = some 2
    ∧ (sSched.core 1).priority 2 < (sSched.core 1).priority 0 ∧ (sIdle.core 1).running = none ∧ ((sIdle.core 1).bank 2).st = .ready
    ∧ (∀ x, x ≠ bankT → x ≠ 0 → ((sIdle.core 1).bank x).st = .ready → (sIdle.core 1).priority x < (sIdle.core 1).priority 0) := by decide +kernel

theorem test_bankSwitch : ((after (exec (.bankSwitch 1) sSched)).core 1).running = some 0
    ∧ ((after (exec (.bankSwitch 1) sSched)).bank 1 2).st = .ready := by decide +kernel

def entryA : Entering := ⟨.fault, 2, 4, 7, 0x1000, 0x1000, 2, 0x1000, false, false, 0, false⟩

/-- An entry of vector 4 in bank 2, which masks level 3: HDT at 0x4000, handler 0x1400, TSB at 0x2000. -/
def sEntry : State :=
  let s := stateOf { bankWith [] with tsbr := 0x2000, tsw := 0x8180010000000000 } []
  let u := s.modCore 1 (fun k => { k with
    entering := some entryA, hdtr := 0x3000, pend := [⟨300, 9, 2⟩]
    ev := [(300, ⟨14, 2, false⟩)] })
  u.setOctets 1 (0x3000 + 32 * 4) (leBytes 4 0x1400 ++ zeros 4 ++ leBytes 8 0x8780000000000000 ++ zeros 16)

/-- The same with a machine check waiting for the bank. -/
def sChecked : State := sEntry.modCore 1 (fun k => { k with mcheck := some ⟨2, true, 0x2000, 3⟩ })

theorem witness_ExceptionEntry : (sEntry.core 1).able = true ∧ (sEntry.core 1).tActive = false ∧ (sEntry.core 1).entering = some entryA
    ∧ tswMask (sEntry.bank 1 2).tsw < 12 ∧ sEntry.memWf ∧ sEntry.hdtFrameOk 1 4 = true ∧ (sEntry.hdt 1 4).ok 4 12 = true ∧ sEntry.tsbOk 1 2 = true
    ∧ sEntry.depth 1 2 < 4 ∧ (sEntry.bank 1 2).tsbr.toNat % 256 = 0 ∧ (sEntry.bank 1 2).tsbr.toNat + 256 ≤ sEntry.hdtAddr 1 4
    ∧ tswWval (sEntry.bank 1 2).tsw < 5
    ∧ (sEntry.core 1).pend.find? (fun x => x.src == (300 : Fin 512).val && x.bank == 2) = some ⟨300, 9, 2⟩
    ∧ ((sEntry.core 1).ev.get EvCopy.zero 300).wake = false ∧ tswMask (sEntry.bank 1 2).tsw < sourceLevel (sEntry.core 1) 300
    ∧ 12 < sourceLevel (sEntry.core 1) 300 ∧ (sEntry.core 1).mcheck = none ∧ entryA.atC7 = false
    ∧ NoPoison sEntry 1 (sEntry.bank 1 2).tsbr.toNat 256 ∧ (sChecked.core 1).mcheck = some ⟨2, true, 0x2000, 3⟩
    ∧ (sChecked.core 1).entering = some entryA ∧ (sChecked.core 1).able = true := by
  simp only [NoPoison, State.memWf, Core.memWf]; decide +kernel

theorem test_entry : (let u := after (exec (.entry 1 false []) sEntry)
    (u.bank 1 2).pc = 0x1400 ∧ u.depth 1 2 = 1 ∧ u.octets 1 0x2080 16 = leBytes 8 0x8180010000000000 ++ leBytes 4 0x1000 ++ leBytes 2 4 ++ leBytes 2 7
      ∧ tswMask (u.bank 1 2).tsw = 15 ∧ tswCwp (u.bank 1 2).tsw = 1)
    ∧ ((after (exec (.takeover 1 300) sEntry)).core 1).entering.map (fun e => (e.vector, e.cause)) = some (364, 9)
    ∧ ((after (exec (.takeover 1 4) sChecked)).core 1).entering.map (fun e => (e.vector, e.addr, e.info, e.isPartial)) = some (68, 0x2000, 3, true) := by
  decide +kernel

def sOver : State := sJob.modBank 1 2 (fun k => { k with budgetDue := true, budgetTaken := some (0, 1) })
def sCharged : State := sJob.modBank 1 2 (fun k => { k with charge := true, cycb := 3 })
def sSpent : State := { sJob.modBank 1 2 (fun k => { k with budgetTaken := some (0, 1) }) with t := { sJob.t with clock := 4096 } }
def sStop : State := { sIdle with power := { sIdle.power with reasons := 1, since := some 0 }, t := { sIdle.t with span := 1 } }

theorem witness_OverrunsAndStops : sStop.power.reasons ≠ 0 ∧ sStop.power.since = some 0 ∧ 0 < sStop.t.span ∧ sStop.chainList = []
    ∧ sStop.movRunning false = none ∧ (sStop.core 1).entryHolds = false ∧ (sOver.bank 1 2).job = some jobA ∧ (sOver.bank 1 2).budgetDue = true
    ∧ (sOver.bank 1 2).heldBudget.contains 1 = false ∧ (sCharged.bank 1 2).charge = true ∧ (sCharged.bank 1 2).cycb.toNat < 4
    ∧ (sCharged.bank 1 2).budgetTaken = none ∧ (sCharged.bank 1 2).job = some jobA ∧ sSpent.mover.cmds = [] ∧ (sSpent.bank 1 2).budgetTaken = some (0, 1)
    ∧ 0 + 4096 ≤ sSpent.t.clock ∧ (2 : BankId) ≠ 0 ∧ sSpent.t.phase ≠ .post ∧ sSpent.chainList = [] ∧ sSpent.jobBusy 5 = false
    ∧ sSpent.host.discardBelow ≤ 5 ∧ spanDecided sSpent 0 = false ∧ sSpent.host.ended = [] ∧ (sSpent.bank 1 2).job = some jobA := by decide +kernel

theorem test_overruns : ((after (exec (.budget 1 2) sOver)).bank 1 2).heldBudget = [1]
    ∧ ((sCharged.charge 1 2 4).bank 1 2).budgetTaken = some (0, 1)
    ∧ ((after (exec (.budgetFreeze 1 2) sSpent)).bank 1 2).st = .frozen
    ∧ (after (exec (.budgetFreeze 1 2) sSpent)).host.waiting.map (fun c => (c.status, c.detail)) = [(0x20, 1)]
    ∧ ((after (exec (.p2CoreStop 1) sStop)).core 1).p2stopped = true := by decide +kernel

/-! ### Engines, spans, the host interface -/

/-- Two BIN elements at 0x10000000, and the chain in entry 0: waiting to enter, first of the queue, running. -/
def sLve (st : ChainSt) (entered : Bool) (x : TVal) : State :=
  let s := (sChain.setGran 1 0x10000000 (bin 5)).setGran 1 0x10000010 x
  { s with lve := ⟨[(0, some (chainA st entered none))], 1⟩ }

def movA (entered : Bool) (cmd : Octets) : MovCmd := ⟨1, 2, 0, none, 0x2000, cmd, 0x8780010000000000, entered, 0, false, 0⟩
def sMov (entered : Bool) (cmd : Octets) : State := { sMovr with mover := ⟨[movA entered cmd], 1⟩ }
/-- A command of 32 octets of bay memory to host memory, of bank 0, for which no ring's window stands. -/
def hostCmd : Octets := [1, 0x41, 0, 0] ++ leBytes 4 32 ++ leBytes 8 0x10000000 ++ leBytes 8 0x3000 ++ zeros 8
def sMovHost : State := let s := sMov true hostCmd; { s with host := { s.host with bme := true } }
def sMovPoison : State := (sMov true movCmd).setGran 1 0x10000010 ⟨tPOISON, 2⟩

theorem witness_ChainsAndMoves : SMap.wf none (sLve .queued false (bin 6)).lve.chains = true
    ∧ (sLve .queued false (bin 6)).chainEnt 0 = some (chainA .queued false none)
    ∧ (∀ y ∈ (sLve .queued false (bin 6)).chainList, y.2.place < 1 ∧ ¬ (y.2.st = .queued ∧ (sLve .queued false (bin 6)).issuedBefore (chainA .queued false none) y.2 = true))
    ∧ (sLve .queued true (bin 6)).running = none ∧ (sLve .queued true (bin 6)).nextChain = some (0, chainA .queued true none)
    ∧ (sLve .running true (bin 6)).running = some (0, chainA .running true none) ∧ (sLve .running true (bin 6)).vecCovers (chainA .running true none) = true
    ∧ (runChain (sLve .running true (bin 6)) (chainA .running true none) none none).fault.isNone = true
    ∧ (runChain (sLve .running true (raw 6)) (chainA .running true none) none none).fault.map (fun p => (p.1, p.2.1, p.2.2.cause, p.2.2.detail)) = some (1, 1, 3, 1)
    ∧ (sMov true movCmd).mover.cmds = [movA true movCmd] ∧ (movA true movCmd).slot = (0 : Fin 8).val ∧ (sMov true movCmd).moveStop (movA true movCmd) = none
    ∧ (movOp movCmd).ss ≠ 4 ∧ (movOp movCmd).ds ≠ 4 ∧ sMovPoison.moveStop (movA true movCmd) = some (16, 1)
    ∧ (sMovPoison.correctedN 0).moveStop (movA true movCmd) = some (16, 1)
    ∧ (let s := sLve .running true (raw 6)
       (runChain (s.chainEcc (chainA .running true none) none).1 (chainA .running true none) (s.chainEcc (chainA .running true none) none).2 none).fault.isSome = true)
    ∧ (let s := (sLve .running true (bin 6)).modBank 1 2 (fun k => { k with job := some { jobA with vecUsed := jobA.job.cert.vecCyc } })
       let x := { chainA .running true none with job := some jobA.job.id }
       s.vecLeft x = some 0 ∧ 0 < (progOf x.desc).cost x.start)
    ∧ (movOp hostCmd).ds = 4 ∧ sMovHost.mover.cmds = [movA true hostCmd] ∧ (movA true hostCmd).cut = false
    ∧ (sMovHost.correctedN 0).moveStop (movA true hostCmd) = none ∧ sMovHost.linkWaits = false
    ∧ (movA false movCmd).entered = false := by decide +kernel

/-- Descriptors over unsigned octets (type 0x10): n elements of A at 0x10000000 and B at 0x10000020, Z at 0x10001000. -/
def laneDesc (flags zkind n zop zin aux : Nat) (stage : Octets) : Octets :=
  [1, BitVec.ofNat 8 flags, BitVec.ofNat 8 zkind, 0, BitVec.ofNat 8 n, 0, 0, BitVec.ofNat 8 zop]
  ++ ([1, 0x10, 0, 0] ++ leBytes 6 0x10000000 ++ zeros 6)
  ++ (if flags % 2 = 1 then [1, 0x10, 0, 0] ++ leBytes 6 0x10000020 ++ zeros 6 else zeros 16)
  ++ ([1, 0x10, 0, BitVec.ofNat 8 zin] ++ leBytes 6 0x10001000 ++ leBytes 6 aux) ++ stage ++ zeros (72 - stage.length)

/-- A REDUCE by SUM of 200 and 100, a TALLY of 5 and 6 into three bins, a STORE of the stage VADD. -/
def laneChain (d : Octets) : ChainEnt := { chainA .running true none with desc := d }
def sLanes (l : Octets) : State := ((sReq.setOctets 1 0x10000000 l).setOctets 1 0x10000020 [1, 2]).setOctets 1 0x10001000 [9, 10, 11]
def reduceDesc (zop : Nat) : Octets := laneDesc 0 2 2 zop 1 0 []
def tallyDesc : Octets := laneDesc 1 3 2 1 0x21 3 []
def storeDesc (op : Nat) : Octets := laneDesc 3 1 2 0 3 0 (leBytes 2 op ++ [0x21, 0])

theorem witness_ChainRuns :
    (∀ d ∈ [reduceDesc 1, tallyDesc, storeDesc 0x10], isInt 0x10 = true ∧ (progOf d).sa.form = 1 ∧ (progOf d).sa.hbm = false ∧ (progOf d).sz.form = 1
      ∧ (progOf d).sz.hbm = false ∧ (progOf d).sa.etype = 0x10 ∧ (progOf d).sz.etype = 0x10 ∧ (laneChain d).pos = 0 ∧ (laneChain d).acc = []
      ∧ (laneChain d).pfx = [] ∧ (0x10 : Nat) ≠ eBIN ∧ (progOf d).n = 2)
    ∧ (∀ i < 2, loadAt (sLanes [5, 6]) (laneChain (reduceDesc 1)).ctx false ((0x10000000 + i * 1 : Nat) : Int) 0x10 = .ok (.int ([5, 6].getD i 0)))
    ∧ (∀ i < 2, loadAt (sLanes [5, 6]) (laneChain tallyDesc).ctx false ((0x10000020 + i * 1 : Nat) : Int) 0x10 = .ok (.int ([1, 2].getD i 0)))
    ∧ ((progOf (reduceDesc 1)).zkind = 2 ∧ (progOf (reduceDesc 1)).narith = 0 ∧ (progOf (reduceDesc 1)).bEn = false ∧ (progOf (reduceDesc 1)).sz.zin = 1
      ∧ (progOf (reduceDesc 1)).zop = 1 ∧ (progOf (reduceDesc 2)).zop = 2 ∧ (progOf (reduceDesc 4)).zop = 4)
    ∧ storeOk (sLanes [5, 6]) (laneChain (reduceDesc 1)).ctx false 0x10001000 0x10 = .ok 0x10001000
    ∧ (∀ m ≤ 2, fitsInt 0x10 ((List.range m).foldl (fun a i => a + intVal 0x10 ([5, 6].getD i 0)) 0) = true)
    ∧ (∀ m ≤ 2, fitsInt 0x10 ((List.range m).foldl (fun a i => min a (intVal 0x10 ([5, 6].getD i 0))) 255) = true)
    ∧ (∀ j ≤ 1, fitsInt 0x10 ((List.range j).map (fun i => intVal 0x10 ([200, 100].getD i 0))).sum = true)
    ∧ fitsInt 0x10 ((List.range 2).map (fun i => intVal 0x10 ([200, 100].getD i 0))).sum = false
    ∧ ((progOf tallyDesc).bEn = true ∧ (progOf tallyDesc).sb.form = 1 ∧ (progOf tallyDesc).sb.etype = 0x10 ∧ (progOf tallyDesc).zkind = 3
      ∧ (progOf tallyDesc).zop = 1 ∧ (progOf tallyDesc).sz.zin = 0x21 ∧ (progOf tallyDesc).sz.aux = 3)
    ∧ (∀ i < 2, [1, 2].getD i 0 < 3)
    ∧ (∀ j < 3, loadAt (sLanes [5, 6]) (laneChain tallyDesc).ctx false ((0x10001000 + j * 1 : Nat) : Int) 0x10 = .ok (.int ([9, 10, 11].getD j 0)))
    ∧ (∀ j < 3, storeOk (sLanes [5, 6]) (laneChain tallyDesc).ctx false ((0x10001000 + j * 1 : Nat) : Int) 0x10 = .ok (0x10001000 + j * 1))
    ∧ (∀ m ≤ 2, ∀ j < 3, fitsInt 0x10 (intVal 0x10 ([9, 10, 11].getD j 0)
        + (((List.range m).filter (fun i => [1, 2].getD i 0 == j)).map (fun i => intVal 0x10 ([5, 6].getD i 0))).sum) = true)
    ∧ ((progOf (storeDesc 0x10)).zkind = 1 ∧ (progOf (storeDesc 0x10)).sz.zin = 3 ∧ (progOf (storeDesc 0x10)).narith = 1)
    ∧ (progOf (storeDesc 0x10)).stages = [⟨0x10, 1, 2, 0⟩] := by
  and_intros <;> first
    | decide +kernel
    | exact rfl
    | (intro i h; exact ok_of (by revert i; decide +kernel))
    | exact ok_of (by decide +kernel)

/-- 5 + 6 in one octet; an octet of overflow; bins 10 + 5 and 11 + 6; sums element by element; the values of a few stages. -/
theorem test_chainRuns : ((runChain (sLanes [5, 6]) (laneChain (reduceDesc 1)) none none).s.octets 1 0x10001000 2) = [11, 10]
    ∧ (runChain (sLanes [200, 100]) (laneChain (reduceDesc 1)) none none).fault.map (fun p => (p.1, p.2.1, p.2.2.cause, p.2.2.detail)) = some (1, 6, 5, 1)
    ∧ ((runChain (sLanes [5, 6]) (laneChain tallyDesc) none none).s.octets 1 0x10001000 3) = [9, 15, 17]
    ∧ ((runChain (sLanes [5, 6]) (laneChain (storeDesc 0x10)) none none).s.octets 1 0x10001000 3) = [6, 8, 11] := by decide +kernel

theorem witness_Stages : isInt 0x10 = true ∧ isInt 0x15 = true ∧ (200 : Nat) < 2 ^ ewidth 0x10 ∧ fitsInt 0x10 (intVal 0x10 200 + intVal 0x10 55) = true
    ∧ fitsInt 0x10 (intVal 0x10 200 + intVal 0x10 56) = false ∧ (7 : Nat) < ewidth 0x10 ∧ isLane 0x13 = true
    ∧ fitsInt eBIN (intVal 0x13 (2 ^ 64 - 1) * intVal 0x13 (2 ^ 64 - 1)) = false ∧ isSet eSET64 = true
    ∧ malformed (dec 420 1) = false ∧ malformed (dec (-15) 2) = false ∧ ((420 : Int) * 10 ^ 1 - 15).natAbs < 10 ^ 33
    ∧ 10 ^ 33 ≤ ((10 ^ 33 - 1 : Int) * 2).natAbs ∧ malformed (dec 3 0) = false ∧ (0 : Int) < 3 := by
  decide +kernel

theorem test_stages : (stageApply 0x10 128 0x10 0x10 0 0 (.int 200) (.int 56) 0 0).toOption = none
    ∧ (stageApply 0x10 0 0x10 0x10 0 0 (.int 200) (.int 56) 0 0).toOption = some (.int 0, 0)
    ∧ (stageApply 0x42 0 eDEC eDEC 0 0 (.val (dec 420 1)) (.val (dec (-15) 2)) 0 0).toOption = some (.val (dec (-6300) 3), 0) := by decide +kernel

theorem test_chain : ((after (exec (.chainDone 0) (sLve .running true (bin 6)))).octets 1 0x10001000 17).getD 16 0 = 6 := by decide +kernel

theorem test_move : (after (exec (.moverDone 1 2 0 [] 0) (sMov true movCmd))).mover.cmds = []
    ∧ (after (exec (.moverFail 1 2 0 .state 0) sMovPoison)).byte 1 0x2018 = 4 ∧ (after (exec (.moverFail 1 2 0 .state 0) sMovPoison)).byte 1 0x2019 = 1 := by
  decide +kernel

/-- A provisioned module with spans that run, in a phase of span 7. -/
def sSpan (ph : Phase) : State :=
  { State.reset with
    sec := { State.reset.sec with life := .provisioned }
    power := { State.reset.power with st := .p0, reasons := 0 }
    t := { State.reset.t with phase := ph, span := 7, lastStarted := 7, run := true, syncSt := .locked, offset := 200, sync := 1 }
    adm := { State.reset.adm with paused := 0 } }

/-- A data ring, and one descriptor of it flushed by a STOP_RING of ring 0. -/
def ringA : Ring := { Ring.absent with st := .active, ctx := ⟨0x1000, 0x2000, 4, 4, 3, 0, 8, 2, 4, 10, 0, 0xFFFF⟩ }
def flushA : Flush := ⟨9, 1, cmdCpl ⟨3, 3, 1, 7, zeros 64, none⟩ 0 0 0 0⟩
def sFlushing : State :=
  let s := sSpan .sill
  { s with host := { s.host with rings := [(9, { ringA with st := .stopped, head := 1, tail := 2, fetched := [zeros 64] })], flush := some flushA, dbDue := true, dbBack := true, bme := true } }

def sGoP3 : State := { sSpan .plate with power := { (sSpan .plate).power with p3At := some (3, some 7) } }

theorem witness_SpanPhases : (sSpan .plate).mayOpen = true ∧ (sSpan .plate).power.p3At = none ∧ sGoP3.mayOpen = true ∧ sGoP3.power.p3At = some (3, some 7)
    ∧ 7 ≤ sGoP3.t.span ∧ (sSpan .sill).t.phase = .sill ∧ (sSpan .post).t.phase = .post ∧ (sSpan .post).t.syncSt = .locked
    ∧ SMap.wf Ring.absent (sSpan .sill).host.rings = true ∧ sFlushing.t.phase = .sill ∧ SMap.wf Ring.absent sFlushing.host.rings = true
    ∧ sFlushing.host.flush = some flushA ∧ flushA.cpl.journalled = true ∧ sFlushing.host.discardBelow ≤ flushA.cpl.order
    ∧ spanDecided sFlushing flushA.cpl.span = false ∧ ringA.tail = ringA.head ∧ (sFlushing.ring 9).st = .stopped := by decide +kernel

theorem test_spanPhases : (after (exec .sillStart (sSpan .plate))).t.span = 8 ∧ (after (exec .plateStart (sSpan .post))).t.corr = -128
    ∧ (after (exec .plateStart (sSpan .post))).t.cyc = 1812500 ∧ (after (exec .postStart (sSpan .sill))).t.cyc = 62500
    ∧ (after (exec .sillStart sGoP3)).power.st = .p3 := by decide +kernel

def sPulse : State := { sSpan .plate with t := { (sSpan .plate).t with lastPulse := some 3, anchor := some (0, 0), clock := 2000000040, lastSync := 7, startClock := 2000000000 } }
def sWait : State := { sPulse with svc := { sPulse.svc with stage := .waitTimein }, t := { sPulse.t with run := false } }
def sFollower : State := { sSpan .plate with
  t := { (sSpan .plate).t with sync := 2, span := 40, lastSync := 24 },
  chain := { (sSpan .plate).chain with cfg := { (sSpan .plate).chain.cfg with device := 2, master := 1 } } }

/-- Device 2 with a MEMBER port to device 1, under a link key of zeros; DELAY_REQ from device 1, sealed under it (16 R577 in the
model's own AES-GCM, the tag worked out beforehand). -/
def sMember : State :=
  let s := sFollower
  { s with chain := { s.chain with
      ports := s.chain.ports.set 1 { ChainPort.reset with st := .member, linkUp := true, peer := 1, sendKey := zeros 32, recvKey := zeros 32 }
      cfg := { s.chain.cfg with chainId := 5, routes := (List.replicate 256 (0x77 : Byte)).set 1 0x71 } } }

theorem witness_Steering : sPulse.onTimein = true ∧ sPulse.svc.stage ≠ .waitTimein ∧ sPulse.t.run = true ∧ sWait.onTimein = true ∧ sWait.svc.stage = .waitTimein
    ∧ sPulse.t.lastPulse ≠ none ∧ sPulse.syncSource = 1 ∧ sFollower.onChain = true ∧ sFollower.t.run = true ∧ sFollower.t.lastSync + 16 ≤ sFollower.t.span := by
  decide +kernel

theorem test_steering : (after (exec .timeinLoss sPulse)).t.syncSt = .holdover ∧ (after (exec .timeinPulse sWait)).svc.stage = .running
    ∧ (after (exec .syncTimeout sFollower)).t.syncSt = .holdover := by decide +kernel

/-- Ring 9 ACTIVE with one descriptor published, in the sill of span 7; the doorbell array is outstanding. -/
def sRing : State := { sSpan .sill with host := { (sSpan .sill).host with rings := [(9, ringA)], dbDue := true, dbReq := true, bme := true } }
/-- The array: SUB_TAIL of ring 9 is 1, every other octet zero. -/
def doorbells : Octets := zeros 72 ++ leBytes 4 1 ++ zeros 32692
theorem doorbells_length : doorbells.length = 32768 := by
  unfold doorbells zeros; rw [List.length_append, List.length_append, List.length_replicate, List.length_replicate]; rfl
def sFetch : State := { sSpan .sill with host := { (sSpan .sill).host with rings := [(9, { ringA with tail := 1 })], dbDue := true, dbBack := true, bme := true } }
/-- The read of an earlier sill and this sill's both outstanding. -/
def sLateRead : State := { sRing with host := { sRing.host with dbLate := 1 } }
def blockCmd : DevCmd := ⟨3, 16, 0, 7, zeros 64, none⟩
def sBlock : State := { sFetch with adm := { sFetch.adm with devCmds := [⟨2, 0, 0, 7, zeros 64, none⟩, blockCmd] } }

theorem witness_HostReads : sRing.deciding = true ∧ sRing.host.dbReq = true ∧ sRing.host.bme = true ∧ sRing.linkWaits = false ∧ SMap.wf Ring.absent sRing.host.rings = true
    ∧ fieldAt doorbells (8 * 9) 4 = 1 ∧ fieldAt doorbells (8 * 9 + 4) 4 = 0 ∧ sFetch.deciding = true ∧ sFetch.linkWaits = false ∧ (sRing.ring 9).st = .active ∧ (sRing.ring 9).fresh = false
    ∧ sFetch.host.dbBack = true ∧ sFetch.host.bme = true ∧ (sFetch.ring 9).fetched.length < (sFetch.ring 9).waiting
    ∧ sBlock.adm.devCmds = [⟨2, 0, 0, 7, zeros 64, none⟩] ++ blockCmd :: [] ∧ blockCmd.waits = true
    ∧ (⟨2, 0, 0, 7, zeros 64, none⟩ : DevCmd).waits = false ∧ sRing.host.dbLate = 0 ∧ sBlock.linkWaits = false
    ∧ sLateRead.host.dbReq = true ∧ 0 < sLateRead.host.dbLate ∧ sLateRead.host.dllUp = true ∧ sLateRead.host.linkL0 = true
    ∧ sFetch.host.dllUp = true ∧ sFetch.host.linkL0 = true ∧ SMap.wf Ring.absent sFetch.host.rings = true := by decide +kernel

theorem test_hostReads : ((after (exec (.descriptorFetchReturn 9 (some [zeros 64])) sFetch)).ring 9).fetched = [zeros 64]
    ∧ ((after (exec (.descriptorFetchReturn 9 none) sFetch)).ring 9).st = .faulted
    ∧ (after (exec (.doorbellArrayReturn none) sLateRead)).host.dbReq = true ∧ (after (exec (.doorbellArrayReturn none) sLateRead)).host.dbLate = 0
    ∧ (after (exec (.commandBlockReturn (some [1])) sBlock)).adm.devCmds.map (fun d => d.block) = [none, some (some [1])] := by decide +kernel

/-- A job descriptor of class 64, a NOP for ring 0, a bad one. -/
def jobDesc : Octets := [64, 0, 0, 0, 7] ++ zeros 59
def certB : Cert := ⟨64, 1, true, true, 3, 1000, 1000, 1000, 4, 65536, 0, 100, []⟩
def sDecide (r : Nat) (d : Octets) (paused : BitVec 5) : State :=
  let s := sSpan .sill
  { s with
    cores := s.cores.set 1 { Core.reset false mcverShipped with serviceMode := true }
    host := { s.host with rings := [(r, { ringA with tail := 1, fetched := [d] })], dbDue := true, dbBack := true, bme := true, ctrl := { s.host.ctrl with en := r == 0 } }
    adm := { s.adm with paused := paused, certs := [(64, some certB)] }
    upd := { s.upd with slotA := { s.upd.slotA with digest := [] } } }

def sPosted : State :=
  let s := sDecide 9 jobDesc 0
  { s with host := { s.host with
      rings := [(0, ringA), (9, ringA)], ctrl := { s.host.ctrl with en := true }
      postQueue := [⟨false, 9, false⟩], postDue := 1 } }

def sPostedFlush : State := { sPosted with host := { sPosted.host with postQueue := [⟨false, 9, true⟩], rings := [(0, ringA), (9, { ringA with tail := 1, fetched := [zeros 64] })] } }
def sPostedGroup : State := { sPosted with host := { sPosted.host with postQueue := [⟨true, 0, false⟩] } }

theorem witness_Decisions : (sDecide 9 jobDesc 1).deciding = true ∧ (sDecide 9 jobDesc 1).host.dbBack = true ∧ (sDecide 9 jobDesc 1).postedReady = false
    ∧ (sDecide 9 jobDesc 1).ringCmdWaits = false ∧ (sDecide 9 jobDesc 1).nextRing = some (9, some 3) ∧ ((sDecide 9 jobDesc 1).ring 9).fetched = [jobDesc]
    ∧ (sDecide 9 jobDesc 1).host.discardBelow ≤ 0 ∧ (sDecide 9 jobDesc 1).adm.paused ≠ 0
    ∧ (sDecide 9 jobDesc 0).nextRing = some (9, some 3) ∧ (sDecide 9 jobDesc 0).freeCpl 9 ≠ 0 ∧ (sDecide 9 jobDesc 0).badField jobDesc = none
    ∧ descClass jobDesc ≥ 64 ∧ (sDecide 9 jobDesc 0).adm.certs.get none 64 = some certB ∧ (sDecide 9 jobDesc 0).unfit certB = false
    ∧ (sDecide 9 jobDesc 0).place false certB = some 1 ∧ (sDecide 9 ([64, 0, 9] ++ zeros 61) 0).badField ([64, 0, 9] ++ zeros 61) = some 2
    ∧ (sDecide 0 (zeros 64) 0).nextRing = some (0, none) ∧ (sDecide 0 (zeros 64) 0).badField (zeros 64) = none ∧ assigned (descClass (zeros 64)) = true
    ∧ (sDecide 0 (zeros 64) 0).quiesce = false ∧ (sDecide 0 (zeros 64) 0).scrLeft true ≥ 1
    ∧ sPosted.deciding = true ∧ sPosted.host.dbBack = true ∧ sPosted.postedReady = true ∧ sPosted.host.postQueue = [⟨false, 9, false⟩]
    ∧ (sPosted.ring 9).st = .active ∧ sPostedGroup.postedReady = true ∧ (sPostedGroup.ring 9).ctx.group = 0 ∧ certB.data = true
    ∧ (sDecide 9 jobDesc 1).host.flush = none ∧ sPosted.host.flush = none ∧ sPostedFlush.deciding = true ∧ sPostedFlush.host.dbBack = true
    ∧ sPostedFlush.postedReady = true ∧ sPostedFlush.host.flush = none ∧ sPostedFlush.host.postQueue = [⟨false, 9, true⟩] ∧ (sPostedFlush.ring 9).st = .active
    ∧ sFlushing.deciding = true ∧ sFlushing.host.dbBack = true ∧ (sFlushing.ring flushA.ring).fetched = zeros 64 :: []
    ∧ sFlushing.host.discardBelow ≤ sFlushing.adm.order := by decide +kernel

theorem test_decisions : ((after (exec .decide (sDecide 9 jobDesc 0))).core 1).jobQueue.map (fun j => (j.ring, j.id)) = [(9, 0)]
    ∧ (after (exec .decide (sDecide 9 jobDesc 0))).adm.vAdm = 1000
    ∧ (after (exec .decide (sDecide 9 ([64, 0, 9] ++ zeros 61) 0))).host.queue.map (fun c => (c.status, c.detail)) = [(0x10, 2)]
    ∧ ((after (exec .decide (sDecide 9 jobDesc 1))).ring 9).refused = true
    ∧ ((after (exec .postedCommand sPosted)).ring 9).st = .stopped
    ∧ ((after (exec .postedCommand sPostedGroup)).ring 9).st = .stopped
    ∧ (after (exec .postedCommand sPostedFlush)).host.flush.map (fun f => (f.ring, f.count)) = some (9, 0)
    ∧ (let u := after (exec .decide sFlushing)
       (u.ring 9).head = 2 ∧ u.host.flush = none ∧ (u.host.queue ++ u.host.waiting).map (fun c => (c.ring, c.status, c.detail)) = [(9, 0x31, 0), (0, 0, 2)])
    ∧ ((after (exec .sillEnd sFlushing)).host.waiting.map (fun c => (c.status, c.detail))) = [(0, 1)] := by decide +kernel

def cplA : Cpl := ⟨0, 9, 0, 7, 6, 0, 0, 0, 0, 1, true, true, 2, [], false⟩
def sCpl : State := { sFetch with host := { sFetch.host with queue := [cplA], msix := [(2, ⟨0xFEE00000, 5, false, false⟩)] } }
def sModer : State := { sCpl with host := { sCpl.host with rings := [(9, { ringA with u := 1, t0 := 0 })] }, t := { sCpl.t with clock := 20000 } }

def sMasked : State := { sModer with host := { sModer.host with msixMask := true } }
def sNoBme : State := { sCpl with host := { sCpl.host with bme := false, msix := [(2, ⟨0xFEE00000, 5, false, true⟩)] } }

theorem witness_CompletionsAndInterrupts : sCpl.linkReady = true ∧ sCpl.host.queue = [cplA] ∧ sCpl.afterMet cplA = true ∧ SMap.wf Ring.absent sCpl.host.rings = true
    ∧ SMap.wf MsixEntry.zero sCpl.host.msix = true ∧ (sModer.ring 9).u > 0 ∧ sModer.t.clock ≥ (sModer.ring 9).t0 + 2000 * (sModer.ring 9).ctx.modTime
    ∧ sModer.host.msixOn = true ∧ sModer.host.bme = true ∧ sModer.host.msixMask = false ∧ (sModer.host.msix.get MsixEntry.zero 2).masked = false
    ∧ sMasked.host.msixMask = true ∧ (sMasked.ring 9).u > 0 ∧ sMasked.t.clock ≥ (sMasked.ring 9).t0 + 2000 * (sMasked.ring 9).ctx.modTime
    ∧ sCpl.host.flush = none ∧ sCpl.hostPort = true ∧ sCpl.host.bme = true ∧ sNoBme.host.bme = false ∧ sNoBme.host.queue = [cplA]
    ∧ (sNoBme.host.msix.get MsixEntry.zero 2).pending = true ∧ sNoBme.host.msixOn = true ∧ sNoBme.host.msixMask = false
    ∧ (sMov true hostCmd).mover.running false = some (movA true hostCmd) ∧ ({ State.reset with power := { State.reset.power with st := .p3 } } : State).hostPort = false := by
  decide +kernel

theorem test_completions : (after (exec .completionWrite sCpl)).out = [.hostWrite 0x2000 (cplOctets cplA 0 4), .msix 2 0xFEE00000 5]
    ∧ (cplOctets cplA 0 4).getD 31 0 = 1 ∧ (after (exec (.modTimeExpiry 9) sModer)).out = [.msix 2 0xFEE00000 5]
    ∧ ((after (exec (.modTimeExpiry 9) sMasked)).host.msix.get MsixEntry.zero 2).pending = true ∧ (after (exec .busMasterEnable sNoBme)).out = [.msix 2 0xFEE00000 5] := by
  decide +kernel

def devA (cls : Nat) (d : Octets) : DevCmd := ⟨3, cls, 1, 7, d, none⟩
def sDev (cls : Nat) (d : Octets) (rings : SMap Ring) : State :=
  { sSpan .sill with host := { (sSpan .sill).host with rings := rings, bme := true }, adm := { (sSpan .sill).adm with devCmds := [devA cls d] } }

/-- STOP_RING with MODE FLUSH of a ring with one descriptor read. -/
def flushDesc : Octets := zeros 8 ++ [9] ++ zeros 7 ++ [1] ++ zeros 47
def sFlush : State :=
  let s := sDev 3 flushDesc [(9, { ringA with tail := 1, fetched := [zeros 64] })]
  { s with host := { s.host with dbDue := true, dbBack := true } }
def sFlushEmpty : State := sDev 3 flushDesc [(9, ringA)]

theorem witness_RingCommands : (sDev 0 (zeros 64) []).devCmd 0 = some (devA 0 (zeros 64)) ∧ (sDev 1 (zeros 8 ++ [9] ++ zeros 55) []).devCmd 1 = some (devA 1 (zeros 8 ++ [9] ++ zeros 55))
    ∧ ((sDev 1 (zeros 8 ++ [9] ++ zeros 55) []).ring 9).st = .absent ∧ fieldAt (zeros 8 ++ [9] ++ zeros 55) 8 2 = 9
    ∧ ¬ ((sDev 1 (zeros 8 ++ [9] ++ zeros 55) [(9, ringA)]).ring 9).st = .absent ∧ SMap.wf Ring.absent (sDev 3 (zeros 64) [(9, ringA)]).host.rings = true
    ∧ ((sDev 2 (zeros 64) [(9, { ringA with st := .stopped })]).ring 9).st = .stopped ∧ (sDev 4 (zeros 64) [(9, { ringA with st := .stopped })]).quiet 9 = true
    ∧ (sDev 3 (zeros 8 ++ [9] ++ zeros 55) [(9, ringA)]).devCmd 3 = some (devA 3 (zeros 8 ++ [9] ++ zeros 55)) ∧ fieldAt (zeros 8 ++ [9] ++ zeros 55) 16 1 = 0
    ∧ (sDev 8 (zeros 64) [(9, ringA)]).devCmd 8 = some (devA 8 (zeros 64)) ∧ (sDev 9 (zeros 64) [(9, ringA)]).devCmd 9 = some (devA 9 (zeros 64))
    ∧ sFlush.devCmd 3 = some (devA 3 flushDesc) ∧ fieldAt flushDesc 16 1 = 1 ∧ (sFlush.ring 9).st = .active ∧ sFlush.host.flush = none
    ∧ sFlush.deciding = true ∧ sFlush.host.dbBack = true ∧ (sFlush.ring 9).fresh = false ∧ (sFlush.ring 9).waiting ≠ 0 ∧ sFlush.freeCpl 9 ≠ 0
    ∧ (sFlush.ring 9).fetched ≠ [] ∧ sFlushEmpty.devCmd 3 = some (devA 3 flushDesc) ∧ (sFlushEmpty.ring 9).st = .active ∧ (sFlushEmpty.ring 9).waiting = 0
    ∧ ({ sFlush with host := { sFlush.host with flush := some flushA } } : State).devCmd 3 = some (devA 3 flushDesc) := by
  decide +kernel

theorem test_ringCommands : ((after (exec .createRing (sDev 1 (zeros 8 ++ [9, 0] ++ zeros 22 ++ [5, 6] ++ zeros 30) []))).ring 9).st = .active
    ∧ ((after (exec .stopRing (sDev 3 (zeros 8 ++ [9] ++ zeros 55) [(9, ringA)]))).ring 9).st = .stopped
    ∧ ((after (exec .stopRing sFlush)).ring 9).st = .stopped ∧ (after (exec .stopRing sFlush)).host.flush.map (fun f => (f.ring, f.count)) = some (9, 0)
    ∧ (after (exec .stopRing sFlushEmpty)).host.waiting.map (fun c => (c.status, c.detail)) = [(0, 0)]
    ∧ ((after (exec .stopGroup (sDev 8 (zeros 64) [(9, ringA)]))).ring 9).st = .stopped
    ∧ (after (exec .createRing (sDev 1 (zeros 8 ++ [9] ++ zeros 55) [(9, ringA)]))).host.waiting.map (fun c => (c.status, c.detail)) = [(0x12, 1)] := by
  decide +kernel

/-! ### Device commands, lifecycle, staging -/

/-- A certificate of class 64, and a public key and signature that verify it (worked out outside the model). -/
def certOctets : Octets := leBytes 2 1 ++ leBytes 2 64 ++ leBytes 4 5 ++ [2, 3, 0, 0] ++ leBytes 4 1000 ++ leBytes 4 1000 ++ leBytes 4 1000 ++ leBytes 4 4
  ++ zeros 4 ++ leBytes 8 65536 ++ leBytes 8 0 ++ leBytes 8 100 ++ zeros 104
def certKey : Octets := beBytes 97 0x40ec978e224884ce90662329c221c2fcb8889858b3ba7ac8f47c0dfadd81f6e73b4fef85f6e77937c4b7cedaf4309f62cf076c890deb5151850f3332d658bc8cd45bd62ec68bc4c0c53040c5889997aed1c4a6c8c6fbace9b3b4a3cddc77db35c
def certSig : Octets := beBytes 96 0x699e73436815ce9fd37984ea57dd04c84732fc3b6bd8c5e5e6dd135a4e2a5e6bf1fcbe7186df4988f65d3fcc5c30e78bb4cf39a1b40ae74fe9bcc2752bee826423997e1db5ec62f2d720306e2130c625a50b6611e7c7f881f1a4ac9b947b087f

def devB (cls : Nat) (d o : Octets) : DevCmd := ⟨3, cls, 1, 7, d, some (some o)⟩
def sDevB (cls : Nat) (d o : Octets) : State := { sDev cls d [] with adm := { (sDev cls d []).adm with devCmds := [devB cls d o] } }
def sCert : State := { sDevB 16 (zeros 64) (certOctets ++ certSig) with
  sec := { (sSpan .sill).sec with slots := [(9, some ⟨.pub, 0, 0, [], certKey⟩)] } }

/-- n bits that alternate. -/
def alt : Nat → Bool → List Bool
  | 0, _ => []
  | n + 1, b => b :: alt n (!b)

/-- Alternating bits pass both tests of R628, whatever their number. -/
theorem alt_passes (n : Nat) : ∀ (m : EntropyMon) (h : W32) (b : Bool), m.last ≠ some b → m.pos < 1024 →
    (m.pos ≠ 0 → (m.first = b ↔ m.pos % 2 = 0) ∧ m.count = (m.pos + 1) / 2) → (feed m h (alt n b)).2.2 = none := by
  induction n with
  | zero => intros; rfl
  | succ n ih =>
    intro m h b hl hp hi
    simp only [alt, feed, hl, if_false]
    have c : (if m.pos = 0 then 1 else if b = m.first then m.count + 1 else m.count) = (m.pos + 2) / 2 := by
      split
      · omega
      · obtain ⟨h1, h2⟩ := hi ‹_›
        by_cases e : m.first = b
        · have := h1.1 e; rw [if_pos e.symm]; omega
        · have := mt h1.2 e; rw [if_neg (Ne.symm e)]; omega
    rw [if_neg (by omega), if_neg (by simp only [c]; omega)]
    apply ih
    · cases b <;> simp
    · simp only; omega
    · intro h0
      refine ⟨?_, ?_⟩
      · simp only at h0 ⊢
        by_cases e : m.pos = 0
        · simp [e]
        · obtain ⟨h1, -⟩ := hi e
          rw [if_neg e]
          have : (m.pos + 1) % 1024 = m.pos + 1 := by omega
          rw [this]
          constructor
          · intro e2
            have : ¬ m.first = b := by rw [e2]; cases b <;> simp
            have := mt h1.2 this; omega
          · intro e2
            have : ¬ m.first = b := fun e3 => by have := h1.1 e3; omega
            cases b <;> simp_all
      · simp only [c] at h0 ⊢
        omega
theorem raw_passes (n : Nat) : ∃ m h, feed EntropyMon.start 0 (alt n true) = (m, h, none) := by
  have e := alt_passes n EntropyMon.start 0 true (by simp [EntropyMon.start]) (by decide) (by intro h; exact absurd rfl h)
  generalize feed EntropyMon.start 0 (alt n true) = f at e
  exact ⟨f.1, f.2.1, by rw [← e]⟩

/-- A chain configuration block of device 2, master 1, with no witness, and one with witness 1, routed over port 1. -/
def cfgBlock (witness : Nat) : Octets :=
  leBytes 4 5 ++ [2, 0, 1, 2, 0, BitVec.ofNat 8 witness, 0, 0] ++ zeros 52 ++ ((List.replicate 256 (0x77 : Byte)).set 1 0x71)

def sCfg (o : Octets) : State :=
  let s := sMember
  { s with t := { s.t with run := false }, adm := { s.adm with devCmds := [devB 32 (zeros 64) o] } }
def sCfgC (cls : Nat) (d : Octets) (w : List Nat) : State :=
  let s := sMember
  { s with chain := { s.chain with cfg := { s.chain.cfg with witness := w } }, adm := { s.adm with devCmds := [devA cls d] } }

theorem witness_DeviceSettings : Commanded sCert 16 (devB 16 (zeros 64) (certOctets ++ certSig)) (certOctets ++ certSig)
    ∧ sCert.certFault (certOctets ++ certSig) (sCert.currentCert (certOf (certOctets ++ certSig)).cls) = none ∧ sCert.installedDigest = none
    ∧ sCert.certFault (zeros 256) (sCert.currentCert 0) = some 1
    ∧ (sDev 48 (zeros 8 ++ [1] ++ zeros 55) []).devCmd 48 = some (devA 48 (zeros 8 ++ [1] ++ zeros 55)) ∧ fieldAt (zeros 8 ++ [1] ++ zeros 55) 8 1 = 1
    ∧ (sDev 48 (zeros 64) []).inService = true ∧ (sDev 48 (zeros 64) []).activating = false ∧ (sDev 45 (zeros 64) []).devCmd 45 = some (devA 45 (zeros 64))
    ∧ (sDev 43 (zeros 64) []).devCmd 43 = some (devA 43 (zeros 64))
    ∧ Commanded (sCfg (cfgBlock 0)) 32 (devB 32 (zeros 64) (cfgBlock 0)) (cfgBlock 0) ∧ (sCfg (cfgBlock 0)).chain.latency = none
    ∧ (sCfg (cfgBlock 0)).activating = false ∧ (sCfg (cfgBlock 0)).t.run = false ∧ cfgBad (cfgBlock 0) = false ∧ (cfgOf (cfgBlock 0)).witness = []
    ∧ cfgBad (cfgBlock 1) = false ∧ (cfgOf (cfgBlock 1)).witness = [1] ∧ (sCfg (cfgBlock 1)).unrouted (cfgOf (cfgBlock 1)) [1] = none
    ∧ (sCfg (cfgBlock 1)).overPaired (cfgOf (cfgBlock 1)) [1] = none
    ∧ (sCfgC 33 (zeros 64) []).devCmd 33 = some (devA 33 (zeros 64)) ∧ (sCfgC 34 (zeros 64) [1]).devCmd 34 = some (devA 34 (zeros 64))
    ∧ (sCfgC 34 (zeros 64) [1]).unrouted (sCfgC 34 (zeros 64) [1]).chain.cfg [1] = none := by
  simp only [Commanded]; decide +kernel

theorem test_deviceSettings : (after (exec .loadCert sCert)).adm.certsNext.map (fun c => (c.cls, c.vecCyc)) = [(64, 1000)]
    ∧ (after (exec .chainConfig (sCfg (cfgBlock 0)))).chain.cfg.device = 2
    ∧ (after (exec .chainConfig (sCfg (cfgBlock 1)))).chain.latency.map (fun l => l.left) = some 256
    ∧ (after (exec .powerSet (sDev 48 (zeros 8 ++ [2] ++ zeros 55) []))).power.reasons = 1 := by decide +kernel

def segA (own : Bool) : Segment := { Segment.fresh 0 0 own 2 6 4 with leaves := [(0, some [1, 2, 3])], header := some (zeros 288), blocks := 6 }
def sRead (cls : Nat) (d : Octets) : State := { sDev cls d [] with
  host := { (sDev cls d []).host with ctrl := { (sDev cls d []).host.ctrl with wlimit := 0xFFFF } }
  scribe := { State.reset.scribe with segments := [segA true] }
  cart := { State.reset.cart with mount := .bound, lbas := 2 } }
def readDesc : Octets := zeros 8 ++ leBytes 6 6 ++ zeros 10 ++ leBytes 4 64 ++ zeros 36

theorem witness_DeviceReads : (sRead 35 readDesc).linkReady = true ∧ (sRead 35 readDesc).devCmd 35 = some (devA 35 readDesc)
    ∧ (sRead 35 readDesc).sealedSegment (fieldAt readDesc 14 1) (fieldAt readDesc 8 6) = some (segA true)
    ∧ (sRead 36 readDesc).devCmd 36 = some (devA 36 readDesc) ∧ (segA true).leaves[fieldAt readDesc 14 3]? = some (0, some [1, 2, 3])
    ∧ (sRead 36 readDesc).inCtrlWindow (fieldAt readDesc 24 8) ((segA true).header.getD [] ++ ([1, 2, 3] : Octets)
        ++ (merklePath 17 0 [leafHash [1, 2, 3]]).flatten).length = true
    ∧ (sRead 40 (zeros 64)).devCmd 40 = some (devA 40 (zeros 64)) ∧ (sRead 42 (zeros 64)).cart.mount = .bound
    ∧ (sRead 42 (zeros 16 ++ [1] ++ zeros 47)).lbasWritten 0 0 = true ∧ (sRead 41 (zeros 64)).cart.unit = none := by decide +kernel

theorem test_deviceReads : (after (exec .cartEject (sRead 41 (zeros 64)))).cart.mount = .safe
    ∧ (after (exec .journalRead (sRead 35 readDesc))).host.waiting.map (fun c => c.resBytes) = [(segA true).octets.length] := by decide +kernel

def keyP (k : Octets) : Key := ⟨.priv, 0, 0, [], k⟩
def sLife (cls : Nat) : State := { sDevB cls (zeros 64) (zeros 192) with
  sec := { (sSpan .sill).sec with slots := [(3, some (keyP [1])), (5, some (keyP [2])), (8, some (keyP [3])), (13, some (keyP [4])), (64, some (keyP [5]))], dbgLevel := 2 } }
def sLid : State := { sLife 49 with sec := { (sLife 49).sec with lidLatched := true } }

theorem witness_LifecycleAndTamper : Commanded (sLife 49) 49 (devB 49 (zeros 64) (zeros 192)) (zeros 192) ∧ (sLife 49).sec.life = .provisioned
    ∧ (sLife 49).key 5 ≠ none ∧ (sLife 49).key 13 ≠ none ∧ (sLife 49).authBad (zeros 192) 1 = some 6
    ∧ Commanded (sLife 50) 50 (devB 50 (zeros 64) (zeros 192)) (zeros 192) ∧ Commanded (sLife 52) 52 (devB 52 (zeros 64) (zeros 192)) (zeros 192)
    ∧ (sLife 52).retireBad (zeros 192) = some 6 ∧ (sDev 51 (zeros 64) []).devCmd 51 = some (devA 51 (zeros 64))
    ∧ sLid.power.st = .p0 ∧ sLid.sec.lidLatched = true ∧ sLid.sec.lidSeen = false ∧ sLid.sec.life = .provisioned ∧ SMap.wf none sLid.sec.slots = true
    ∧ (sLife 49).sec.lidLatched = false ∧ (sLife 49).sec.loopArmed = false := by
  simp only [Commanded]; decide +kernel

/-- A block of the wrong length for KEY_LOAD is refused. -/
theorem witness_keyOf : ∃ n, (sLife 50).keyOf (zeros 192) = .error n := by
  cases h : (sLife 50).keyOf (zeros 192) with
  | error n => exact ⟨n, rfl⟩
  | ok k =>
    have : (match (sLife 50).keyOf (zeros 192) with | .ok _ => true | .error _ => false) = false := by decide +kernel
    rw [h] at this; cases this

theorem test_tamper : (after (exec (.tamperSample false 1000) sLid)).sec.slots.map Prod.fst = [8, 13]
    ∧ (after (exec (.tamperSample false 1000) sLid)).sec.life = .tampered
    ∧ (after (exec .debugClose { sDev 51 (zeros 64) [] with sec := sLid.sec })).sec.dbgLevel = 0 := by decide +kernel

/-- A session in STAGING: one part of 4 octets in one piece, under a key of zeros, and its piece sealed with it. -/
def payloadA (chain : Bool) : Octets :=
  [0, 0, 1, if chain then 1 else 0, 0, 0, 1, 9] ++ leBytes 8 2 ++ leBytes 8 1 ++ zeros 8 ++ leBytes 4 0 ++ zeros 28
    ++ ([1, 0, 0, 0] ++ leBytes 4 1 ++ leBytes 4 4 ++ leBytes 4 1 ++ zeros 48) ++ ([2] ++ zeros 207)
def sessA (chain : Bool) (st : SessSt) : Session :=
  ⟨st, 0, 1, zeros 48, [], payloadA chain, zeros 32, [], 0, 7, 0, [], [], [], none⟩
def pieceA : Octets := leBytes 4 0x45435055 ++ zeros 8 ++ leBytes 4 4 ++ zeros 16 ++ [207, 165, 67, 57]
  ++ [102, 202, 254, 125, 254, 0, 209, 191, 161, 214, 49, 199, 210, 202, 187, 16]
def emptySess : Session := { sessA false .staging with payload := zeros 64 }
def sStage (cls : Nat) (d o : Octets) (x : Session) : State :=
  { sDevB cls d o with
    upd := { State.reset.upd with session := some x }
    chain := { State.reset.chain with cfg := { State.reset.chain.cfg with device := 2 } } }
def sStageA (cls : Nat) (d : Octets) (x : Session) : State :=
  { sStage cls d [] x with adm := { (sStage cls d [] x).adm with devCmds := [devA cls d] } }
/-- A set whose part of 4 octets has no piece: every piece is held, and its octets do not have their digest. -/
def badSess : Session := { sessA false .staging with payload := (payloadA false).set 76 0 }
def oneRecord : Octets := zeros 16 ++ [1] ++ zeros 47

def sOpen : State := sDevB 24 (zeros 64) []

/-- A manifest that cannot be read is refused. -/
theorem witness_refused : ∃ n, sOpen.checkManifest [] 0 = .error n := ⟨_, rfl⟩

theorem witness_Staging : Commanded (sStage 25 oneRecord pieceA (sessA false .staging)) 25 (devB 25 oneRecord pieceA) pieceA
    ∧ pieceRecords (fieldAt oneRecord 16 1) pieceA = [pieceA]
    ∧ (sStage 25 oneRecord pieceA (sessA false .staging)).sessionOf (slice pieceA 16 16) = some (sessA false .staging)
    ∧ (sessA false .staging).headerOk pieceA = true ∧ (sessA false .staging).holds 0 = false
    ∧ (sStageA 26 (zeros 64) (sessA false .staging)).devCmd 26 = some (devA 26 (zeros 64)) ∧ (sStageA 26 (zeros 64) (sessA false .staging)).host.bme = true
    ∧ (sStageA 27 (zeros 64) (sessA false .staging)).devCmd 27 = some (devA 27 (zeros 64)) ∧ (sStageA 27 (zeros 64) (sessA false .staging)).activating = false
    ∧ { sessA false .staging with idleTime := 10368000000 }.idleTime ≥ 10368000000 ∧ payloadChain (sessA true .staging).payload = true
    ∧ (sessA true .staging).sentAt = none ∧ emptySess.missing = [] ∧ emptySess.badParts = [] ∧ (sStageA 0 (zeros 64) emptySess).powered = true
    ∧ (sStageA 0 (zeros 64) emptySess).bootDone = true ∧ (sStageA 26 (zeros 64) emptySess).linkReady = true
    ∧ badSess.missing = [] ∧ badSess.badParts = [0] ∧ Commanded sOpen 24 (devB 24 (zeros 64) []) [] ∧ sOpen.inService = true
    ∧ sOpen.upd.session = none ∧ sOpen.linkReady = true ∧ ([pieceA].map (fun r => 65536 * fieldAt r 4 1 + fieldAt r 8 4)).Nodup := by
  simp only [Commanded]; decide +kernel

/-- The piece opens under the session's key. -/
theorem witness_piece : (sessA false .staging).openPiece 0 (pieceA.drop 32) = some [1, 2, 3, 4] := by decide +kernel

theorem test_staging : (after (exec .updateInstall (sStageA 0 (zeros 64) badSess))).upd.session = some { badSess with slot := 1 }
    ∧ (after (exec .updAbort (sStageA 27 (zeros 64) (sessA false .staging)))).upd.session = none
    ∧ (after (exec .updateInstall (sStageA 0 (zeros 64) emptySess))).upd.session.map (fun x => (x.st, x.slot)) = some (.installed, 1)
    ∧ (after (exec .sessionExpiry (sStageA 0 (zeros 64) { sessA false .staging with idleTime := 10368000000 }))).upd.session = none := by decide +kernel

def prepared (step role : Nat) : Intent := ⟨step, role, 1, 40, 1, 0, zeros 48⟩
/-- A session that has been installed in slot 1, or one ended at SWITCHED; slot 0 holds a supervisor. -/
def withSupervisor (s : State) : State :=
  { s with upd := { s.upd with slotA := { s.upd.slotA with parts := [⟨4, 1, zeros 48, [0]⟩] } } }
def sActs (cls : Nat) (chain : Bool) (st : SessSt) (i : List Intent) (a : Activ) : State :=
  let s := withSupervisor (sStageA cls (zeros 64) { sessA chain st with slot := 1 })
  { s with upd := { s.upd with intents := i, act := a } }
def sAct (cls : Nat) (chain : Bool) (i : List Intent) (a : Activ) : State := sActs cls chain .installed i a
def soaking : Activ := { Activ.none with soaking := true }

theorem witness_ActivationAtHost : (sAct 28 false [] Activ.none).devCmd 28 = some (devA 28 (zeros 64))
    ∧ (sAct 28 false [] Activ.none).sessionOf (zeros 16) = some { sessA false .installed with slot := 1 } ∧ (sAct 28 false [] Activ.none).isCoord = true
    ∧ (sAct 28 false [] Activ.none).activating = false ∧ (sAct 29 true [prepared 6 2] soaking).isCoord = false
    ∧ (sAct 29 true [prepared 6 2] soaking).upd.act.soaking = true ∧ (sAct 29 true [prepared 6 2] soaking).upd.act.reported = none
    ∧ soaking.soak ≥ payloadProb (sessA true .installed).payload ∧ inProbation (sAct 0 false [prepared 6 1] soaking).actStep = true
    ∧ ({ sAct 0 false [{ prepared 5 1 with span := 1 }] soaking with t := { (sSpan .sill).t with span := 70000 } }).t.span
        ≥ ({ sAct 0 false [{ prepared 5 1 with span := 1 }] soaking with t := { (sSpan .sill).t with span := 70000 } }).switchSpan (sessA false .installed)
          + payloadProb (sessA false .installed).payload + 240000 / 4
    ∧ (sAct 0 true [prepared 7 2] { Activ.none with reported := some 0 }).awaiting = true
    ∧ ({ sAct 0 true [prepared 7 2] { Activ.none with reported := some 0 } with t := { (sSpan .sill).t with span := 120000 } }).t.span ≥ 0 + 480000 / 4
    ∧ (sAct 0 true [prepared 7 2] { Activ.none with reported := some 0 }).power.reasons.getLsbD 1 = false
    ∧ (sAct 29 true [prepared 6 2] soaking).devCmd 29 = some (devA 29 (zeros 64))
    ∧ (sActs 29 true .ended [prepared 6 2] soaking).activationOf (zeros 16) = some { sessA true .ended with slot := 1 }
    ∧ (sActs 29 true .ended [prepared 6 2] soaking).isCoord = false ∧ (sActs 29 true .ended [prepared 6 2] soaking).actsOnIntents = true
    ∧ (sActs 0 false .ended [{ prepared 5 1 with span := 1 }] soaking).listed (sessA false .ended) = [2]
    ∧ (sActs 0 false .ended [{ prepared 5 1 with span := 1 }] soaking).isCoord = true := by decide +kernel

theorem test_activationAtHost : ((after (exec .updActivate (sAct 28 false [] Activ.none))).upd.intents.map (fun i => (i.step, i.role))) = [(2, 1)]
    ∧ (after (exec .updVerdict (sAct 29 true [prepared 6 2] soaking))).power.reasons.getLsbD 1 = true
    ∧ (after (exec .soakEnd (sAct 0 true [prepared 6 2] soaking))).intentStep = 7 := by decide +kernel

/-! ### Registers, windows, ports -/

def sCtrl (en : Bool) (r : Ring) : State :=
  let s := sSpan .sill
  { s with host := { s.host with ctrl := { s.host.ctrl with en := en }, rings := [(0, r)] } }
def ctrlReady : CtrlRegs := ⟨0x0000000000000004, 0x0000000000000004, 0, 0xFFFF, 0x0010000100010001, 0x1000, false⟩

theorem witness_SetupWrites : (sSpan .sill).powered = true ∧ (0x100 : BitVec 20).toNat < 0x80000 ∧ (0x100 : BitVec 20) ≠ 0x10000 ∧ (4 : Nat) ≠ 8
    ∧ (0x10004 : BitVec 20).toNat % 8 ≠ 0 ∧ reservedBits 0x3F [(0, 6)] = false ∧ reservedBits 0x104 [(0, 6), (8, 2)] = false ∧ getField 0x104 0 6 = (sSpan .sill).t.k
    ∧ (sSpan .sill).t.lenNext = none
    ∧ (let v : W64 := 50000 + 100000 * 4294967296
       reservedBits v [(0, 25), (32, 25)] = false ∧ 4 * 8192 ≤ getField v 0 25 ∧ getField v 0 25 ≤ 4 * 125000 ∧ getField v 32 25 ≤ 4 * 437500)
    ∧ (let v : W64 := 4 * 7000000 + 16777216 * 4294967296
       reservedBits v [(0, 30), (32, 25)] = false ∧ getField v 0 30 = 4 * 7000000 ∧ getField v 32 25 = 16777216)
    ∧ (let v : W64 := 256 + 65536 + 800000 * 4294967296
       reservedBits v [(0, 9), (16, 9), (32, 23), (56, 6)] = false ∧ getField v 0 9 = 256 ∧ getField v 16 9 = 1 ∧ getField v 32 23 = 4 * 200000)
    ∧ SMap.wf Ring.absent (sCtrl true ringA).host.rings = true ∧ (sCtrl true ringA).host.ctrl.en = true ∧ (sCtrl true ringA).quiet 0 = true
    ∧ ((sCtrl true { ringA with st := .faulted }).ring 0).st = .faulted ∧ (sCtrl true { ringA with st := .faulted }).quiet 0 = true
    ∧ ctrlReady.en = false ∧ ctrlReady.ready = true ∧ ((0x88100 : BitVec 20).toNat ≥ 0x88100) := by decide +kernel

theorem test_setupWrites : (after (exec (.setupWrite 0x100 4 0) (sSpan .sill))).host.setup = ⟨true, 1, 4, 0x100⟩
    ∧ (after (exec (.spanCfgWrite 8 0x205) { sSpan .none with t := State.reset.t })).t.lenNext = some 5
    ∧ (after (exec (.admCfgWrite 0 8 50001) (sSpan .sill))).setupReg 0x200 = 50001
    ∧ ((after (exec (.ctrlRingReset 8 3) (sCtrl true { ringA with st := .faulted }))).ring 0).st = .active := by decide +kernel

def trA : TrEntry := ⟨0, 5, zeros 128⟩
def sTr : State := { sSpan .sill with svc := { (sSpan .sill).svc with tr := [trA] } }
def sBlank : State := { State.reset with sec := { State.reset.sec with slots := [] } }
def sMbx (o : Octets) : State :=
  let s := sStageA 0 (zeros 64) (sessA false .staging)
  { s with sec := { s.sec with life := .blank }, host := { s.host with mbx := ⟨0, false, false, bufPut [] 0 o⟩ } }

/-- A warm boot that waits for TIMEIN to come, before the mailbox is served. -/
def sBooting : State := { sSpan .none with svc := { (sSpan .none).svc with stage := .waitEnv } }

theorem witness_WindowsAndMailbox : (sSpan .sill).powered = true ∧ trFrom sTr sTr.host.trSeek = some trA ∧ trFrom (sSpan .sill) 0 = none
    ∧ MbxReady sBlank ∧ sBlank.mailboxUpdates = true ∧ sBlank.sec.life = .blank ∧ sBlank.upd.session = none
    ∧ MbxReady (sMbx pieceA) ∧ (sMbx pieceA).mailboxUpdates = true ∧ (sMbx pieceA).mbxInput 52 = pieceA
    ∧ (sMbx pieceA).sessionOf (slice pieceA 16 16) = some (sessA false .staging)
    ∧ sBooting.powered = true ∧ sBooting.bootDone = false ∧ sBooting.svc.stage ≠ .recovery := by
  simp only [MbxReady]; decide +kernel

theorem test_windows : (after (exec (.mailboxStatus 8 (mbxCmd 3 0)) sBooting)).host.setup = ⟨true, 1, 3, 0x10000⟩ ∧ (after (exec .trEntryRead sTr)).host.trSeek = 6
    ∧ (after (exec (.mailboxStatus 8 (mbxCmd 3 0)) sBlank)).host.mbx.done = true
    ∧ (after (exec (.progressLatch 0) (sSpan .sill))).out.length = 1 := by decide +kernel

def sDebug (level : Nat) : State := { sSpan .sill with sec := { (sSpan .sill).sec with dbgLevel := level, dbgLeft := 60, dbgSince := 0 } }
def sDebugD : State := { sDebug 2 with t := { (sSpan .sill).t with clock := 120000000000 } }

theorem witness_DebugPort : (zeros 224).length = 224 ∧ (sDebug 0).power.st ≠ .p4 ∧ (sDebug 0).sec.trstLow = false ∧ (sDebug 0).tokenBad (zeros 224) = true
    ∧ sDebugD.sec.dbgLevel ≠ 0 ∧ sDebugD.t.clock ≥ sDebugD.sec.dbgSince + 2000000000 * sDebugD.sec.dbgLeft ∧ (sDebug 2).mayHalt = true
    ∧ (sDebug 2).debugCap ≥ 2 ∧ (sDebug 1).debugCap < debugLevelOf (.readBay 0) ∧ ((sDebug 2).core 3).quietForDebug = true ∧ (sDebug 3).debugCap ≥ 3
    ∧ isBay (0x10000000 + 16 * 0) = true ∧ (sDebug 3).memWf
    ∧ (((sDebug 2).modCore 3 (fun k => { k with halted := true })).core 3).halted = true
    ∧ ((sDebug 2).modCore 3 (fun k => { k with halted := true })).debugCap ≥ 2 ∧ ((sDebug 3).core 3).quietForDebug = true
    ∧ (0x104 : BitVec 20).toNat % 4 = 0 ∧ (sDebug 1).debugCap ≥ 1 := by decide +kernel

theorem test_debug : (after (exec (.debugAccess (.writeBay 0 1 7)) (sDebug 3))).bay = [(0, ⟨1, 7⟩)]
    ∧ (after (exec (.debugToken (zeros 224)) (sDebug 0))).sec.refusals = 1 ∧ (after (exec .debugExpiry sDebugD)).sec.dbgLevel = 0 := by decide +kernel

def sP3 : State := { sSpan .none with power := { (sSpan .none).power with st := .p3 }, svc := { (sSpan .none).svc with stage := .off } }
def envA (lid : Bool) : BootEnv := ⟨true, true, true, lid, 1000, none, true, (alt 8192 true)⟩

/-- The shipped slot's parts match PARTS, and PARTS the image digest. -/
theorem shipped_sound : State.reset.upd.slotA.sound = true := by
  change (partsOctets [shippedPart 1, shippedPart 2] == partsOctets [shippedPart 1, shippedPart 2]
    && sha384 (partsOctets [shippedPart 1, shippedPart 2]) == sha384 (partsOctets [shippedPart 1, shippedPart 2])) = true
  simp only [beq_self_eq_true, Bool.and_self]

/-- The packages of the shipped slot are not refused. -/
theorem shipped_packages (s : State) : s.packageRefusal State.reset.upd.slotA = none := by
  have h2 : State.reset.upd.slotA.part 2 = some (shippedPart 2) := rfl
  have h3 : State.reset.upd.slotA.part 3 = none := rfl
  have hs : (shippedPart 2).shipped = true := by
    change (Config.shippedPart 2 == Config.shippedPart 2) = true
    exact beq_self_eq_true _
  unfold State.packageRefusal
  simp only [h2, h3, hs, if_true]

/-- The shipped set boots. -/
theorem willBoot_of (s : State) (e : BootEnv) (h1 : e.refclk = true) (h2 : e.dieWarm = true) (h3 : e.hangsAt = none)
    (hs : s.slotOf s.bootTarget = State.reset.upd.slotA) (hf : s.upd.floor ≤ 1) : WillBoot s e := by
  have hv : State.reset.upd.slotA.st = .valid ∧ State.reset.upd.slotA.version = 1 ∧ State.reset.upd.slotA.manifest = [] := ⟨rfl, rfl, rfl⟩
  have h4 : State.reset.upd.slotA.part 4 = none := rfl
  refine ⟨h1, h2, h3, ?_, ?_, ?_⟩
  · unfold State.bootable
    simp only [hs, shipped_sound, hv, State.slotSigned, Bool.and_true]
    simpa using hf
  · rw [hs]; exact shipped_packages s
  · rw [hs]; unfold BootSlot.supervisorOk; simp only [h4]

theorem witness_ManagementPort : (sSpan .sill).power.st ≠ .p4 ∧ trFrom sTr sTr.svc.smbSeek = some trA ∧ sP3.power.st = .p3 ∧ sP3.power.vin48 = true
    ∧ WillBoot (sP3.tamperSample false 1000 true) (envA false) ∧ { envA false with refclk := false }.refclk = false := by
  refine ⟨by decide +kernel, by decide +kernel, by decide +kernel, by decide +kernel, ?_, rfl⟩
  exact willBoot_of _ _ rfl rfl rfl rfl (by decide +kernel)

theorem test_management : (after (exec (.smbAlertWrite 0x7F false) sTr)).out = [.nack] ∧ (after (exec (.trSeek 6 true) sTr)).svc.smbSeek = 6
    ∧ (after (exec .smbStatus (sSpan .sill))).out = [.reply [1, 0, 0, 0, 0, 0, 0, 0]] := by decide +kernel

/-- FREEZE with CSEQ 1, and a public key and signature that verify it (worked out outside the model). -/
def freezeFrame : Octets := List.replicate 6 0xFF ++ zeros 6 ++ [0x88, 0xB6] ++ [1, 16, 0, 0, 160, 0] ++ zeros 18 ++ [16] ++ zeros 7 ++ [1] ++ zeros 55
  ++ beBytes 96 0xf3df39b27e44efe3635e4327a313a8ed34b1b9117ad5b0c192da7ab40c11564945e9526b62c83f91edfdc682a3cb8b3bf3df39b27e44efe3635e4327a313a8ed34b1b9117ad5b0c192da7ab40c11564945e9526b62c83f91edfdc682a3cb8b3b
def regKey : Octets := beBytes 97 0x486fa4b182f625f6fdea1a48fa82d5ea0c3e2e769f183b644bce29ba7ffedc90f8dd26fb4d5dfbfa13e7db9cc13de36c54c0e2cb135160c4c6219387650d070d2d5c106fbd9d83a505f54337b0869d46e907b1a9f060a72d8c882b2767ceb89a1
def sReg (up : Bool) : State := { sSpan .sill with
  reg := { (sSpan .sill).reg with up := up }, sec := { (sSpan .sill).sec with slots := [(13, some ⟨.pub, 0, 0, [], regKey⟩)] } }

theorem witness_RegulatorPort : RegAccepts (sReg true) 16 freezeFrame ∧ freezeFrame.length = 198
    ∧ isCommand 16 ((zeros 14 ++ [1, 16, 0, 0, 160, 0] ++ zeros 178).drop 14) = true
    ∧ (sReg true).regHears (List.replicate 6 0xFF ++ zeros 6 ++ [0x88, 0xB6] ++ [1, 16, 0, 0, 160, 0] ++ zeros 178) = true
    ∧ (sReg true).regResult 16 ([1, 16, 0, 0, 160, 0] ++ zeros 178) ≠ 0 ∧ (sReg true).portPowered = true ∧ (sReg true).reg.up = true ∧ (sReg false).reg.up = false := by
  simp only [RegAccepts]; decide +kernel

theorem test_freeze : (after (exec (.freeze freezeFrame) (sReg true))).reg.frozen = true ∧ (after (exec (.freeze freezeFrame) (sReg true))).reg.lastCseq = 1 := by
  decide +kernel

/-! ### The scribe, the chain, activation -/

/-- Span 7 open on device 2, one leaf appended and not yet written; span 6 sealed; port 1 leads to device 1. -/
def sScribe : State := { sMember with
  t := (sSpan .post).t
  scribe := { State.reset.scribe with
    segments := [{ segA true with quorum := 1 }, Segment.fresh 6 0 true 2 7 4], leaves := [⟨[1, 2, 3, 4], 1, 2, none, false, false⟩], spanOpen := true } }
def sShort : State := { sScribe with
  chain := { sScribe.chain with shortSpan := 6, cfg := { sScribe.chain.cfg with witness := [1], quorum := 1 } } }

theorem witness_JournalRows : sScribe.ownOpen = some (Segment.fresh 6 0 true 2 7 4)
    ∧ (markWritten 0 sScribe.scribe.leaves).map (fun p => p.1) = some 0 ∧ SMap.wf none (Segment.fresh 6 0 true 2 7 4).leaves = true
    ∧ sScribe.t.phase = .post ∧ (∃ g ∈ sScribe.scribe.segments, g.own = true ∧ g.header ≠ none ∧ g.decided = false ∧ g.span < sScribe.t.span ∧ g.span ≠ 0)
    ∧ sShort.chain.cfg.witness = [1] ∧ sShort.chain.shortSpan ≠ 0 ∧ SMap.wf 0 sShort.chain.backfill = true
    ∧ sShort.backfillFrom 1 = some 6 ∧ sShort.route 1 ≠ none ∧ sShort.sealedFrom 6 = [{ segA true with quorum := 1 }]
    ∧ markWritten 0 State.reset.scribe.leaves = none := by decide +kernel

theorem test_journal : (after (exec .leafWrite sScribe)).scribe.leaves.map (fun l => l.written) = [true]
    ∧ (after (exec .witnessDeadline sScribe)).chain.shortSpan = 6 ∧ (after (exec .backfill sShort)).chain.backfill.get 0 1 = 7 := by decide +kernel

theorem xorOctets_self (d : Octets) : ∀ k : Octets, d.length ≤ k.length → xorOctets (xorOctets d k) k = d := by
  unfold xorOctets
  induction d with
  | nil => intro k _; rfl
  | cons x d ih =>
    intro k h
    cases k with
    | nil => simp at h
    | cons y k =>
      simp only [List.zip_cons_cons, List.map_cons, List.cons.injEq]
      exact ⟨by simp [BitVec.xor_assoc], ih k (by simpa using h)⟩

theorem keyStream_length (rks : List Octets) (iv : Octets) (n : Nat) (l : List Nat) (h : (rks.getD 14 []).length = 16) :
    (l.flatMap (fun i => aesEnc rks (iv ++ beBytes 4 (n + i)))).length = 16 * l.length := by
  have block : ∀ b, (aesEnc rks b).length = 16 := by
    intro b; unfold aesEnc xorOctets shiftRows
    simp only [List.length_map, List.length_zip, h]; rfl
  induction l with
  | nil => rfl
  | cons a l ih => simp only [List.flatMap_cons, List.length_append, block, ih, List.length_cons]; omega

theorem ctrXor_length (rks : List Octets) (iv : Octets) (n : Nat) (d : Octets) (h : (rks.getD 14 []).length = 16) : (ctrXor rks iv n d).length = d.length := by
  unfold ctrXor xorOctets
  simp only [List.length_map, List.length_zip, keyStream_length _ _ _ _ h, List.length_range]; omega

/-- Counter mode undoes itself. -/
theorem ctrXor_self (rks : List Octets) (iv : Octets) (n : Nat) (d : Octets) (h : (rks.getD 14 []).length = 16) :
    ctrXor rks iv n (ctrXor rks iv n d) = d := by
  have keys : ∀ e : Octets, e.length = d.length → ctrXor rks iv n e = xorOctets e ((List.range ((d.length + 15) / 16)).flatMap (fun i => aesEnc rks (iv ++ beBytes 4 (n + i)))) := by
    intro e he; unfold ctrXor; rw [he]
  rw [keys _ (ctrXor_length _ _ _ _ h), keys d rfl]
  apply xorOctets_self
  simp only [keyStream_length _ _ _ _ h, List.length_range]; omega

/-- What AES-GCM seals under a key it opens. -/
theorem gcm_roundtrip (key iv aad pt : Octets) (h : ((roundKeys key).getD 14 []).length = 16) :
    gcmOpen key iv aad (gcmSeal key iv aad pt).1 (gcmSeal key iv aad pt).2 = some pt := by
  unfold gcmOpen gcmSeal
  simp only [if_true, ctrXor_self _ _ _ _ h]

theorem zeros_key : ((roundKeys (zeros 32)).getD 14 []).length = 16 := by decide +kernel

/-- A frame of a class and body from device 1 to device 2 over port 1, sealed under a link key of zeros. -/
def frameOf (cls : Nat) (body : Octets) : RxFrame :=
  let h : ChainHdr := ⟨1, octet cls, 1, 2, 8, 0, body.length, 5, 4, 1⟩
  let c := gcmSeal (zeros 32) (linkNonce 1 0 1) (hdrOctets h) body
  ⟨1, station 2, 0x88B5, true, h, c.1, c.2⟩

/-- The state that such a frame leaves: its SEQ accepted in its lane. -/
def taken (cls : Nat) (body : Octets) (s : State) : State :=
  s.modPort 1 (fun q => { q with seqLane := q.seqLane.set (laneOf cls body) 1 })

/-- A device that takes it: a MEMBER port to device 1 with that key, as device 2 of chain spans of 1 ms. -/
def takes (s : State) : Bool :=
  (s.port 1).st == .member && (s.port 1).recvKey == zeros 32 && (s.port 1).peer == 1 && (s.port 1).seqLane == List.replicate 5 0
    && s.chain.cfg.device == 2 && s.t.k == 4

theorem takenIn_of {cls : Nat} {body : Octets} {s : State} (h : takes s = true) (hc : cls < 6) : TakenIn cls (frameOf cls body) s (taken cls body s) body := by
  unfold takes at h
  simp only [Bool.and_eq_true, beq_iff_eq] at h
  obtain ⟨⟨⟨⟨⟨h1, h2⟩, h3⟩, h4⟩, h5⟩, h6⟩ := h
  have hn : (octet cls).toNat = cls := by simp only [octet, BitVec.toNat_ofNat]; omega
  have h7 : (octet cls == 6) = false := by
    rw [beq_eq_false_iff_ne]; intro e; rw [e] at hn; simp at hn; omega
  have good : s.frameGood (frameOf cls body) = true := by unfold State.frameGood frameOf; simp [h5]
  have opens : openFrame (s.port 1) (frameOf cls body) = some body := by
    unfold openFrame
    rw [h2, h3]
    have := gcm_roundtrip (zeros 32) (linkNonce 1 0 1) (hdrOctets ⟨1, octet cls, 1, 2, 8, 0, body.length, 5, 4, 1⟩) body zeros_key
    simp only [frameOf, List.findSome?_cons, this]
  have len : (frameOf cls body).body.length = body.length := ctrXor_length _ _ _ _ zeros_key
  have lane : (List.replicate 5 (0 : Nat)).getD (laneOf cls body) 0 = 0 := by
    generalize laneOf cls body = n
    match n with
    | 0 | 1 | 2 | 3 | 4 => rfl
    | n + 5 => simp [List.getD]
  refine ⟨hn, ?_⟩
  unfold State.takeFrame
  have hp : (frameOf cls body).port = 1 := rfl
  have hv : (frameOf cls body).hdr = ⟨1, octet cls, 1, 2, 8, 0, body.length, 5, 4, 1⟩ := rfl
  simp only [hp, hv, good, len, h1, h7, opens, h4, lane, h5, h6, hn]
  rw [if_neg (by simp), if_neg (by decide), if_neg (by decide), if_pos (by decide)]
  rfl

/-- A witness of device 1 that holds leaf 0 of its span 9, and the header of that span; a source whose witness is device 1. The
keys verify the one signature each (worked out outside the model). -/
def witnessSeg (leaves : SMap (Option Octets)) : Segment := { Segment.fresh 12 0 false 1 9 4 with leaves := leaves }
def headerKey : Octets := beBytes 97 0x0492848d2546243b02af00f1f8efc052096c9ca35fddefe4c24fbd187a7da33ea450f74a2cf05b4324ea60ea9025a3064b8c9fabc9a5230e92b82fe721e37a60d2a34a65de6a1fd77ca33a4a9feb57d94dbe04aa5ab2ee9f7665cae413cf134d7d
def headerSig : Octets := beBytes 48 0x484324388a2ce1161dd7e4a21c3c3eb97bd7fc5b115105dd6ff95293f0f6a7ec4f43007777cc713c5ed90dd7e9bd866c
def headerA : Octets := [0, 0, 0, 4] ++ zeros 4 ++ [9] ++ zeros 7 ++ [1] ++ zeros 31 ++ spanRoot [[5, 6]] ++ zeros 110 ++ [2, 0] ++ headerSig ++ headerSig
def ackKey : Octets := beBytes 97 0x04186b60b8e35027c0d0f2d43948b3f11ac609ee6b9e222558cbc3a148c97a62b067cec0b93d052029bf28cdf95a3251158e9b5b0d73628035d3ed365132ad65ed6a4d309083bcb0481938a33052f7cf82bc79e7e8e587eb495378f7bf98c52898
def ackSig : Octets := beBytes 48 0x542c670d84b98cf517cc7996f2389bcf93a913d14c014f2baae18f04711a35ae5befbaa64d2028b644b1a50b8e4ea77b
def ackA : Octets := leBytes 6 6 ++ [2, 0] ++ zeros 8 ++ sha256 (zeros 288) ++ [1] ++ zeros 15 ++ ackSig ++ ackSig
def sWitness (leaves : SMap (Option Octets)) : State := { sMember with
  scribe := { sMember.scribe with segments := [witnessSeg leaves] }, chain := { sMember.chain with peers := [(1, some (headerKey, zeros 48))] } }
def sSource : State := { sMember with
  scribe := { sMember.scribe with segments := [segA true] }
  chain := { sMember.chain with
    cfg := { sMember.chain.cfg with witness := [1] }, peers := [(1, some (ackKey, zeros 48))]
    latency := some ⟨none, sMember.chain.cfg, [1], 0, 7, 1, [], 0, 0, 0⟩ } }
def sSourceCmd : State := { sSource with
  t := { sSource.t with clock := 1746501 }
  chain := { sSource.chain with latency := some ⟨some (devA 34 (zeros 64)), sMember.chain.cfg, [1], 0, 7, 1, [], 0, 0, 0⟩ } }

theorem witness_Records : (∃ u, TakenIn 2 (frameOf 2 (recordEntry 9 0 1 [5, 6])) (sWitness []) u (recordEntry 9 0 1 [5, 6])
      ∧ u.servesSource 1 = true ∧ u.witnessed 1 9 = some (witnessSeg []))
    ∧ (∃ u, TakenIn 2 (frameOf 2 (recordEntry 9 0 2 headerA)) (sWitness [(0, some [5, 6])]) u (recordEntry 9 0 2 headerA)
      ∧ recordEntries 256 (recordEntry 9 0 2 headerA) = [(9, 0, 2, headerA)] ∧ headerA.length = 288
      ∧ u.servesSource 1 = true ∧ u.witnessed 1 9 = some (witnessSeg [(0, some [5, 6])]) ∧ fieldAt headerA 16 4 ≤ 1
      ∧ u.headerResult (witnessSeg [(0, some [5, 6])]) headerA = 0 ∧ SMap.wf none u.chain.srcHeld = true)
    ∧ (∃ u, TakenIn 3 (frameOf 3 ackA) sSource u ackA ∧ ackA.length = 160
      ∧ u.scribe.segments.find? (fun g => g.own && g.header.isSome && g.span == fieldAt ackA 0 6) = some (segA true)
      ∧ fieldAt ackA 6 1 = u.chain.cfg.device ∧ fieldAt ackA 7 1 = 0 ∧ (1 : Nat) ∈ u.chain.cfg.witness
      ∧ slice ackA 16 32 = sha256 ((segA true).header.getD []) ∧ u.chain.peers.get none 1 = some (ackKey, zeros 48)
      ∧ sigOk ackKey (slice ackA 0 64) (slice ackA 64 96) = true) :=
  ⟨⟨_, takenIn_of (by decide +kernel) (by decide), by decide +kernel⟩, ⟨_, takenIn_of (by decide +kernel) (by decide), by decide +kernel⟩,
    ⟨_, takenIn_of (by decide +kernel) (by decide), by decide +kernel⟩⟩

def nakA : Octets := [3, 2, 0, 0] ++ leBytes 6 6 ++ zeros 6
theorem witness_Controls : (∃ u, CtlTaken 1 (frameOf 1 [1, 0, 0, 0]) sMember u [1, 0, 0, 0])
    ∧ (∃ u, CtlTaken 3 (frameOf 1 nakA) sSource u nakA ∧ fieldAt nakA 1 1 = u.chain.cfg.device
      ∧ u.scribe.segments.find? (fun g => g.own && g.span == fieldAt nakA 4 6) = some (segA true))
    ∧ (∃ u, CtlTaken 4 (frameOf 1 (4 :: nakA.tail)) sSource u (4 :: nakA.tail) ∧ fieldAt (4 :: nakA.tail) 1 1 = u.chain.cfg.device
      ∧ (1 : Nat) ∈ u.chain.cfg.witness ∧ SMap.wf 0 u.chain.backfill = true ∧ SMap.wf 0 u.chain.resend = true)
    ∧ (∀ s ∈ [sSource, sSourceCmd], ∃ u, CtlTaken 2 (frameOf 1 ([2, 0, 0, 0] ++ leBytes 4 7)) s u ([2, 0, 0, 0] ++ leBytes 4 7)
      ∧ (u.chain.latency.map (fun l => (l.current, l.left, l.sentAt)) = some (1, 7, 0)) ∧ fieldAt ([2, 0, 0, 0] ++ leBytes 4 7) 4 4 = 7)
    ∧ sSource.t.clock - 0 ≤ sSource.t.k * 440625 - 16000 ∧ sSourceCmd.t.clock - 0 > sSourceCmd.t.k * 440625 - 16000
    ∧ (∃ d, (sSourceCmd.chain.latency.bind LatCheck.order) = some d) := by
  refine ⟨⟨_, takenIn_of (by decide +kernel) (by decide), rfl⟩, ⟨_, ⟨takenIn_of (by decide +kernel) (by decide), rfl⟩, by decide +kernel⟩, ⟨_, ⟨takenIn_of (by decide +kernel) (by decide), rfl⟩, by decide +kernel⟩, ?_,
    by decide +kernel, by decide +kernel, ⟨_, rfl⟩⟩
  intro s h
  simp only [List.mem_cons, List.not_mem_nil, or_false] at h
  rcases h with rfl | rfl <;> exact ⟨_, ⟨takenIn_of (by decide +kernel) (by decide), rfl⟩, by decide +kernel⟩

/-- The steering messages: SYNC, DELAY_REQ, DELAY_RESP of 20 octets. -/
def steer (code : Byte) : Octets := code :: zeros 3 ++ leBytes 6 42 ++ zeros 10
def sUpstream (stage : BootStage) : State := { sMember with
  svc := { sMember.svc with stage := stage }, chain := { sMember.chain with reqSent := some (1, 3), upDelay := some (1, 9) } }
theorem witness_SteeringFrames : (∃ u, TakenIn 4 (frameOf 4 (steer 1)) (sUpstream .running) u (steer 1) ∧ (steer 1).length = 20 ∧ u.onChain = true
      ∧ u.upstream = some 1 ∧ u.svc.stage ≠ .waitSync ∧ u.linkDelay 1 = some 9)
    ∧ (∃ u, TakenIn 4 (frameOf 4 (steer 1)) (sUpstream .waitSync) u (steer 1) ∧ u.onChain = true ∧ u.upstream = some 1 ∧ u.svc.stage = .waitSync
      ∧ fieldAt (steer 1) 4 6 > (sUpstream .waitSync).t.lastStarted)
    ∧ (∃ u, TakenIn 4 (frameOf 4 (steer 2)) sMember u (steer 2))
    ∧ (∃ u, TakenIn 4 (frameOf 4 (steer 3)) (sUpstream .running) u (steer 3) ∧ u.upstream = some 1 ∧ u.chain.reqSent = some (1, 3)) :=
  ⟨⟨_, takenIn_of (by decide +kernel) (by decide), by decide +kernel⟩, ⟨_, takenIn_of (by decide +kernel) (by decide), by decide +kernel⟩,
    ⟨_, takenIn_of (by decide +kernel) (by decide)⟩, ⟨_, takenIn_of (by decide +kernel) (by decide), by decide +kernel⟩⟩

/-- The frames of update distribution, at a device that stages a set opened by device 1, and at one without a session. -/
def sStaging (x : Option Session) : State := { sMember with upd := { sMember.upd with session := x } }
def openerSess : Session := { sessA true .staging with opener := 1 }
def updBody (kind : Byte) (total : Nat) (data : Octets) : Octets := kind :: zeros 11 ++ leBytes 4 total ++ zeros 16 ++ data
theorem witness_UpdateFrames :
    (∃ u, UpdTaken 1 (frameOf 5 (updBody 1 9 [7])) (sStaging none) u (updBody 1 9 [7]) ∧ SMap.wf none u.upd.rxBuf = true
      ∧ fieldAt (updBody 1 9 [7]) 8 4 = 0 ∧ (([] : Octets) ++ (updBody 1 9 [7]).drop 32).length < fieldAt (updBody 1 9 [7]) 12 4)
    ∧ (∃ u, UpdTaken 2 (frameOf 5 (updBody 2 52 pieceA)) (sStaging (some (sessA true .staging))) u (updBody 2 52 pieceA)
      ∧ SMap.wf none u.upd.rxBuf = true ∧ ((updBody 2 52 pieceA).drop 32) = pieceA ∧ pieceA.length = fieldAt (updBody 2 52 pieceA) 12 4
      ∧ u.sessionOf (slice pieceA 16 16) = some (sessA true .staging) ∧ (sessA true .staging).headerOk pieceA = true
      ∧ (sessA true .staging).holds 0 = false)
    ∧ (∃ u, UpdTaken 3 (frameOf 5 (updBody 3 0 [])) (sStaging (some openerSess)) u (updBody 3 0 []) ∧ u.sessionOf (zeros 16) = some openerSess)
    ∧ (∃ u, UpdTaken 4 (frameOf 5 (updBody 4 0 [])) (sStaging (some openerSess)) u (updBody 4 0 []) ∧ u.openSession = some openerSess)
    ∧ (∃ u, UpdTaken 5 (frameOf 5 (updBody 5 0 [])) (sStaging (some openerSess)) u (updBody 5 0 []) ∧ u.sessionOf (zeros 16) = some openerSess
      ∧ openerSess.opener = (u.port 1).peer ∧ openerSess.opener ≠ 0 ∧ u.activating = false) :=
  ⟨⟨_, ⟨takenIn_of (by decide +kernel) (by decide), by decide +kernel⟩, by decide +kernel⟩, ⟨_, ⟨takenIn_of (by decide +kernel) (by decide), by decide +kernel⟩, by decide +kernel⟩,
    ⟨_, ⟨takenIn_of (by decide +kernel) (by decide), by decide +kernel⟩, by decide +kernel⟩, ⟨_, ⟨takenIn_of (by decide +kernel) (by decide), by decide +kernel⟩, by decide +kernel⟩,
    ⟨_, ⟨takenIn_of (by decide +kernel) (by decide), by decide +kernel⟩, by decide +kernel⟩⟩

/-- What the other clauses on messages ask of the state the frame leaves. -/
theorem witness_WitnessMessages : sMember.servesSource 1 = true
    ∧ recordEntries 256 (recordEntry 9 0 1 [5, 6]) = [(9, 0, 1, [5, 6])]
    ∧ (recordEntries 256 (recordEntry 9 0 2 (zeros 288))).map (fun e => e.2.2.1) = [2]
    ∧ { sMember with chain := { sMember.chain with cfg := { sMember.chain.cfg with witness := [1] } } }.chain.latency = none
    ∧ ({ sMember with chain := { sMember.chain with cfg := { sMember.chain.cfg with witness := [1] } } }).unrouted
        { sMember.chain.cfg with witness := [1] } [1] = none
    ∧ ({ sMember with chain := { sMember.chain with cfg := { sMember.chain.cfg with witness := [1] } } }).overPaired
        { sMember.chain.cfg with witness := [1] } [1] = none
    ∧ sMember.chain.checkAt ≤ sMember.t.span ∧ (4000 : Nat) - 0 ≤ 4 * 440625 - 16000 ∧ (1746501 : Nat) - 0 > 4 * 440625 - 16000 := by decide +kernel

theorem test_messages : ((sMember.takeLeaf 1 9 0 [5, 6]).scribe.segments.map (fun g => (g.source, g.span, g.leaves.get none 0))) = [(1, 9, some [5, 6])] := by
  decide +kernel

def sPortOf (st : PortSt) (ok : Bool) : State :=
  { sMember with chain := { sMember.chain with
    ports := sMember.chain.ports.set 2 { ChainPort.reset with st := st, linkUp := true, helloOk := ok }
    cfg := { sMember.chain.cfg with portEn := 0xF } } }
/-- The form of a HELLO, with a certificate of one octet. -/
def helloBody : Octets := [1, 0, 1, 0] ++ zeros 693
def helloFrame (chain : W32) (src : Byte) : RxFrame :=
  ⟨2, station 2, 0x88B5, true, ⟨1, 6, src, 2, 0, 0, 697, chain, 4, 1⟩, helloBody, zeros 16⟩

/-- Without the chain root no HELLO attests its sender. -/
theorem witness_notGood (h : Hello) : sMember.helloGood h = false := by
  have k : (sMember.key 11).isSome = false := by decide +kernel
  unfold State.helloGood
  split
  · rfl
  · simp [k]

theorem witness_ChainPorts : (sPortOf .refused false).portEnabled 2 = true ∧ ((sPortOf .refused false).port 2).st = .refused
    ∧ ((sPortOf .refused false).port 2).linkUp = true ∧ (sPortOf .refused false).t.span ≥ ((sPortOf .refused false).port 2).retryAt
    ∧ ((sPortOf .attesting false).port 2).st = .attesting ∧ ((sPortOf .attesting false).port 2).helloOk = false
    ∧ ((sPortOf .attesting false).port 2).paused.getD 3 false = false
    ∧ (helloFrame 5 2).hdr.cls = 6 ∧ (sPortOf .attesting false).frameGood (helloFrame 5 2) = true ∧ (helloOf helloBody).isSome = true ∧ (helloFrame 5 2).hdr.ver = 1
    ∧ (helloFrame 6 3).hdr.chainId ≠ sMember.chain.cfg.chainId ∧ (helloFrame 5 2).hdr.src.toNat = sMember.chain.cfg.device
    ∧ (helloFrame 5 3).hdr.src.toNat ≠ sMember.chain.cfg.device ∧ (helloFrame 5 2).hdr.spanLen.toNat = sMember.t.k
    ∧ (helloFrame 5 3).tag = zeros 16 ∧ ((sPortOf .attesting false).port 2).seqLane.getD 3 0 < (helloFrame 5 3).hdr.seq.toNat
    ∧ { helloFrame 5 3 with tag := 1 :: zeros 15 }.tag ≠ zeros 16 ∧ ((sPortOf .member true).port 2).st = .member
    ∧ Lane.record ≠ Lane.control := by decide +kernel

theorem test_ports : ((after (exec (.portLinkChange 2 false) (sPortOf .member true))).port 2).st = .down
    ∧ ((after (exec (.portRetry 2) (sPortOf .refused false))).port 2).st = .attesting
    ∧ ((after (exec (.pauseFrame 2 .record true) (sPortOf .member true))).port 2).paused = [false, false, true, false, false] := by decide +kernel

/-- A manifest of devices 1 and 2 with coordinator 2, and the same with coordinator 1. -/
def pairPayload (coord : Byte) : Octets :=
  [0, 0, 1, 1, 0, 0, 2, coord] ++ leBytes 8 2 ++ leBytes 8 1 ++ zeros 8 ++ leBytes 4 0 ++ zeros 28
    ++ ([1, 0, 0, 0] ++ leBytes 4 1 ++ leBytes 4 4 ++ leBytes 4 1 ++ zeros 48) ++ ([1] ++ zeros 207 ++ [2] ++ zeros 207)
def pairSess (coord : Byte) : Session := ⟨.installed, 0, 1, zeros 48, [], pairPayload coord, zeros 32, [], 0, 7, 0, [], [], [], none⟩
def sPair2 (coord : Byte) (i : List Intent) (a : Activ) : State :=
  withSupervisor { sMember with upd := { State.reset.upd with session := some (pairSess coord), intents := i, act := a } }
def stepAt (step role span : Nat) : Intent := ⟨step, role, 1, span, 1, 0, zeros 48⟩
def restarting : State :=
  let s := sPair2 1 [stepAt 3 2 39] { Activ.none with restartAt := some 39 }
  { s with upd := { s.upd with intents := [{ stepAt 3 2 39 with boot := 0 }] } }

theorem witness_Activation : (sPair2 2 [stepAt 2 1 70] Activ.none).stepOf (pairSess 2) = some (stepAt 2 1 70)
    ∧ (sPair2 2 [stepAt 2 1 70] Activ.none).isCoord = true ∧ (sPair2 2 [stepAt 2 1 70] Activ.none).t.span ≥ Activ.none.lastSent + 8
    ∧ (sPair2 2 [stepAt 2 1 70] Activ.none).t.span + 32 ≥ 70 ∧ (sPair2 2 [stepAt 2 1 70] Activ.none).actStep = 2
    ∧ (1 : Nat) ∈ (sPair2 2 [stepAt 2 1 70] Activ.none).participants (pairSess 2)
    ∧ (sPair2 1 [] Activ.none).activating = false ∧ (sPair2 1 [] Activ.none).isCoord = false
    ∧ (sPair2 1 [stepAt 3 2 41] Activ.none).stepOf (pairSess 1) = some (stepAt 3 2 41) ∧ (sPair2 1 [stepAt 3 2 41] Activ.none).t.span + 2 ≥ 41
    ∧ { sPair2 1 [stepAt 2 2 41] Activ.none with t := { sMember.t with span := 39 } }.stepOf (pairSess 1) = some (stepAt 2 2 41)
    ∧ restarting.actsOnIntents = true ∧ restarting.sealedFor = true ∧ couldDecide (stepAt 2 2 0) 1 = true ∧ couldDecide (stepAt 7 2 0) 3 = true
    ∧ couldDecide (stepAt 5 2 0) 4 = true ∧ couldDecide (stepAt 2 2 0) 2 = true
    ∧ (sPair2 2 [stepAt 3 1 41] Activ.none).decisionFor (zeros 48) = some (1, 41)
    ∧ (sPair2 1 [stepAt 2 2 90] Activ.none).awaiting = true ∧ { sPair2 1 [stepAt 2 2 90] Activ.none with t := { sMember.t with span := 64 } }.t.span ≥ Activ.none.lastSent + 64 := by
  decide +kernel

/-- The messages of an activation, each at a device that acts on it. -/
theorem witness_ActivationFrames :
    (∃ u, CtlTaken 16 (frameOf 1 (actBody 16 0 70 (zeros 48))) (sPair2 1 [] Activ.none) u (actBody 16 0 70 (zeros 48)) ∧ (actBody 16 0 70 (zeros 48)).length = 64
      ∧ u.upd.session = some (pairSess 1) ∧ (pairSess 1).digest = slice (actBody 16 0 70 (zeros 48)) 16 48 ∧ u.activating = false ∧ u.isCoord = false)
    ∧ (∀ c ∈ [17, 18], ∃ u, ActTaken c (frameOf 1 (actBody c 0 0 (zeros 48))) (sPair2 2 [stepAt 2 1 70] Activ.none) u (actBody c 0 0 (zeros 48)) (pairSess 2)
      ∧ u.isCoord = true ∧ u.actStep = 2 ∧ (1 : Nat) ∈ u.participants (pairSess 2))
    ∧ (∃ u, ActTaken 19 (frameOf 1 (actBody 19 4 0 (zeros 48))) (sPair2 1 [stepAt 2 2 41] Activ.none) u (actBody 19 4 0 (zeros 48)) (pairSess 1)
      ∧ u.stepOf (pairSess 1) = some (stepAt 2 2 41) ∧ 1 = payloadCoord (pairSess 1).payload ∧ u.isCoord = false ∧ couldDecide (stepAt 2 2 41) 4 = true)
    ∧ (∀ arg ∈ [0, 3], ∃ u, ActTaken 20 (frameOf 1 (actBody 20 arg 0 (zeros 48))) (sPair2 2 [stepAt 7 1 41] Activ.none) u (actBody 20 arg 0 (zeros 48)) (pairSess 2)
      ∧ u.isCoord = true ∧ inProbation u.actStep = true ∧ (1 : Nat) ∈ u.participants (pairSess 2) ∧ u.upd.act.reports = []
      ∧ fieldAt (actBody 20 arg 0 (zeros 48)) 1 1 = arg ∧ (∃ d ∈ u.listed (pairSess 2), d ≠ 1 ∧ (d, 0) ∉ u.upd.act.reports))
    ∧ (∃ u, CtlTaken 21 (frameOf 1 (actBody 21 0 0 (zeros 48))) (sPair2 2 [stepAt 3 1 41] Activ.none) u (actBody 21 0 0 (zeros 48))
      ∧ u.decisionFor (slice (actBody 21 0 0 (zeros 48)) 16 48) = some (1, 41)) := by
  refine ⟨⟨_, ⟨takenIn_of (by decide +kernel) (by decide), rfl⟩, by decide +kernel⟩, ?_,
    ⟨_, ⟨⟨takenIn_of (by decide +kernel) (by decide), rfl⟩, by decide +kernel⟩, by decide +kernel⟩, ?_,
    ⟨_, ⟨takenIn_of (by decide +kernel) (by decide), rfl⟩, by decide +kernel⟩⟩
  · intro c h
    simp only [List.mem_cons, List.not_mem_nil, or_false] at h
    rcases h with rfl | rfl <;> exact ⟨_, ⟨⟨takenIn_of (by decide +kernel) (by decide), rfl⟩, by decide +kernel⟩, by decide +kernel⟩
  · intro c h
    simp only [List.mem_cons, List.not_mem_nil, or_false] at h
    rcases h with rfl | rfl <;> exact ⟨_, ⟨⟨takenIn_of (by decide +kernel) (by decide), rfl⟩, by decide +kernel⟩, by decide +kernel⟩

theorem test_activation : (after (exec .activationDecide (sPair2 2 [stepAt 2 1 70] { Activ.none with answers := [(1, true)] }))).upd.intents.map (fun i => i.step) = [2, 3]
    ∧ (after (exec .activationDecide (sPair2 2 [stepAt 2 1 70] Activ.none))).intentStep = 4
    ∧ (after (exec .updateHold (sPair2 1 [stepAt 3 2 41] Activ.none))).upd.act.restartAt = some 42 := by decide +kernel

/-! ### Cartridge, draws, seals, memory care, resets -/

def newCart : CartInfo := ⟨none, goodNs, [], 0, []⟩
def sCart (m : Mount) (u : Option DrainUnit) : State :=
  let s := sRead 40 (zeros 64)
  { s with t := { s.t with clock := 200000000 }, scribe := { s.scribe with segments := [{ segA true with decided := true }] }, cart := { State.reset.cart with mount := m, unit := u } }
def drawReq : EngReq := ⟨1, 2, none, 0x1000, drawBlock, 0, 7, 0, [], true⟩
def sDraw (st : DrawSt) : State := { sSpan .post with ds := { State.reset.ds with st := st, draws := [drawReq], inst := if st = .failed then none else State.reset.ds.inst } }
def rcptReq : RcptReq := ⟨1, 2, none, 0x2000, 0, 7, 0, zeros 32, []⟩
def sealReq : EngReq := ⟨1, 2, none, 0x2100, sealBlock, 0, 7, 0, [], true⟩
def sSeal : State := { sInt with ds := { State.reset.ds with rcpts := [rcptReq], seals := [{ sealReq with block := [1, 0, 0, 0] ++ leBytes 4 16 ++ leBytes 4 0x2000 ++ leBytes 4 0x3000 ++ zeros 48 }] } }

def sEjecting : State := { sRead 41 (zeros 64) with cart := (sCart .ejecting (some ⟨1, 0, 6⟩)).cart }

/-- Requests of cores 1 and 3, core 1 served last: the rotation comes to core 3. -/
def sTwo : State := { sSeal with ds := { sSeal.ds with rcpts := [rcptReq, { rcptReq with core := 3 }], rcptLast := 1 } }

/-- A service instance answers a request for a nonce. -/
theorem witness_nonce (s : State) (d : Drbg) (h : s.ds.service = some d) : ∃ nonce u, s.serviceOctets 32 = some (nonce, u) := by
  unfold State.serviceOctets; rw [h]; exact ⟨_, _, rfl⟩

/-- One number from 1 to 1: every word selects it. -/
def oneBlock : Octets := [1, 0, 1, 0] ++ zeros 12 ++ leBytes 2 1 ++ leBytes 2 1 ++ zeros 4 ++ leBytes 4 0x3000 ++ zeros 36
theorem witness_draw (d : Drbg) : drawFrom d oneBlock = some (1, [1], 0) := by
  obtain ⟨w, ws, h⟩ : ∃ w ws, d.words drawBlocks 0 = w :: ws := ⟨_, _, rfl⟩
  have e : fieldAt oneBlock 16 2 = 1 ∧ fieldAt oneBlock 18 2 = 1 ∧ (oneBlock.getD 1 0).getLsbD 0 = false ∧ fieldAt oneBlock 2 1 = 1 := by decide +kernel
  unfold drawFrom
  rw [h, e.1, e.2.1, e.2.2.1, e.2.2.2]
  cases ws <;> simp [select, bitsFor, Nat.mod_one]

/-- A range of DATA frames that holds no POISON, octet by octet. -/
theorem engineMay_of {s : State} {c : CoreId} {addr n : Nat}
    (h : ∀ i < n, (match s.frame c (addr + i) with | some e => e.st == .data | none => false) = true ∧ (s.gran c (addr + i)).tag ≠ tPOISON) :
    EngineMay s c addr n := by
  intro a h1 h2
  obtain ⟨h3, h4⟩ := h (a - addr) (by omega)
  rw [show addr + (a - addr) = a by omega] at h3 h4
  refine ⟨?_, h4⟩
  split at h3
  · rename_i e he; exact ⟨e, he, by simpa using h3⟩
  · cases h3

/-- A draw whose results go to bench memory of a core that has no bank blocked. -/
def sOne : State := { sInt with ds := { State.reset.ds with
  st := .ready, inst := some ⟨zeros 32, zeros 16, 0⟩, draws := [⟨1, 2, none, 0x2000, oneBlock, 0, 7, 0, [], true⟩] } }

theorem witness_ranges : EngineMay sOne 1 0x3000 160 ∧ EngineMay sSeal 1 0x2000 32 ∧ EngineMay sSeal 1 0x3000 32 :=
  ⟨engineMay_of (by decide +kernel), engineMay_of (by decide +kernel), engineMay_of (by decide +kernel)⟩

theorem witness_CartridgeAndDraws : (sCart .absent none).cartOn = true ∧ (sCart .absent none).cart.mount = .absent
    ∧ (sCart .absent none).mountOf true newCart = (.bound, some 1) ∧ ((sCart .absent none).mountOf true { newCart with ns := { goodNs with lbaData := 512 } }).1 ≠ .bound
    ∧ (sCart .absent none).ds.service.isSome = true ∧ { sCart .absent none with ds := DrawSeal.reset }.ds.service = none ∧ (sCart .ejecting (some ⟨1, 0, 6⟩)).cart.mount = .ejecting ∧ sEjecting.devCmd 41 = some (devA 41 (zeros 64))
    ∧ sEjecting.cart.mount = .ejecting
    ∧ (sCart .bound none).cart.mount = .bound ∧ (sCart .bound none).nextUnit = some ⟨1, 0, 6⟩
    ∧ (sCart .bound (some ⟨1, 0, 6⟩)).cart.unit = some ⟨1, 0, 6⟩ ∧ (sCart .bound (some ⟨1, 0, 6⟩)).cart.mount ≠ .ejecting
  := by decide +kernel

theorem witness_Draws : (sDraw .ready).ds.draws = [drawReq] ∧ (sDraw .ready).ds.st ≠ .failed ∧ (sDraw .failed).ds.inst = none ∧ sOne.ds.mon = EntropyMon.start ∧ sOne.ds.st ≠ .failed ∧ sOne.memWf
    ∧ (∀ b, (sOne.bank 1 b).st ≠ .blocked) ∧ fieldAt oneBlock 24 4 = 0x3000 ∧ (feed EntropyMon.start 0 (List.replicate 41 true)).2.2 = some 1
    ∧ select 1 (6 + 1 - 1) ((drawBlock.getD 1 0).getLsbD 0) [3, 7, 5] (fieldAt drawBlock 2 1) 0 0 [] = some (1, [4, 6], 1)
    ∧ select 1 6 true [3, 3, 5] 2 0 0 [] = some (1, [4, 6], 1)
    ∧ sSeal.memWf ∧ sSeal.ds.rcpts.find? (fun r => r.core == 1 && r.bank == 2) = some rcptReq ∧ rcptReq.addr.toNat % 16 = 0
    ∧ rcptReq.addr.toNat + 32 ≤ 0x80000 ∧ (sSeal.ds.seals.find? (fun r => r.core == 1 && r.bank == 2)).map EngReq.addr = some 0x2100
    ∧ sSeal.rawInput 1 0x2000 16 = true ∧ sSeal.rawInput 1 0 0 = true ∧ (0x3000 : Nat) + 32 ≤ 0x80000 ∧ 0x2100 + 48 ≤ 0x3000
    ∧ sSeal.nextReceipt = some (0, rcptReq) ∧ sSeal.nextBulk.map (fun p => (p.1, p.2.core, p.2.bank)) = some (0, 1, 2)
    ∧ (sSeal.sealServed 1 2).map EngReq.addr = some 0x2100 ∧ sTwo.nextReceipt.map (fun p => p.2.core) = some 3 := by decide +kernel

theorem test_cartridge : (after (exec (.cartInsert newCart) (sCart .absent none))).cart.mount = .refused
    ∧ (after (exec (.cartInsert newCart) { sCart .absent none with ds := DrawSeal.reset })).cart.mount = .attesting
    ∧ (after (exec .drainUnitWrite (sCart .bound none))).cart.lbas = 1 ∧ (after (exec .drainUnitAck (sCart .bound (some ⟨1, 0, 6⟩)))).cart.nextPos = 6 := by
  decide +kernel

theorem test_draws : (after (exec (.drawDone []) (sDraw .failed))).ds.done = (sDraw .failed).ds.done + 1
    ∧ (after (exec (.entropyFail (List.replicate 41 true)) (sDraw .ready))).ds.st = .failed
    ∧ ((after (exec (.sealDone 1 2 []) sSeal)).octets 1 0x3000 4) = [0x37, 0x47, 0x08, 0xff] := by decide +kernel

def sMon (vcore margin : Nat) (due : Bool) (p : PowerSt) : State :=
  { sSpan .sill with power := { (sSpan .sill).power with st := p }, svc := { (sSpan .sill).svc with vcore := vcore, margin := margin, due := due, dueFor := 2592000 } }

theorem witness_MemoryCareAndAgeing : (sSpan .sill).powered = true ∧ (5 : Nat) < 32768 ∧ 64 * 5 < (sSpan .sill).hbmBytes ∧ (sSpan .sill).bootDone = true
    ∧ (∀ o ∈ [0, 4294967295], o < 2 ^ 32) ∧ (19 :: List.replicate 255 50).length = 256 ∧ (∀ x ∈ 19 :: List.replicate 255 50, 19 ≤ x)
    ∧ (sMon 750 50 false .p0).svc.vcore < 860 ∧ (sMon 750 25 true .p2).svc.due = true ∧ (sMon 750 25 true .p2).power.st = .p2
    ∧ (sMon 750 25 true .p2).p2Whole = true ∧ (List.replicate 256 40).length = 256 ∧ (∀ x ∈ List.replicate 256 40, 40 ≤ x) ∧ (sMon 750 25 true .p2).svc.margin < 40
    ∧ (sMon 750 25 true .p0).svc.dueFor ≥ 2592000 ∧ (sMon 750 25 true .p0).svc.overdueSaid = false := by decide +kernel

theorem test_ageing : (after (exec (.monitorRead (19 :: List.replicate 255 50)) (sMon 858 50 false .p0))).svc.vcore = 860
    ∧ (after (exec .relevelOverdue (sMon 750 25 true .p0))).svc.alerts.getLsbD 2 = true
    ∧ (after (exec (.scrub (.bench 1 5) .uncorrectable) (sSpan .sill))).gran 1 80 = ⟨tPOISON, 1⟩ := by decide +kernel

def envB (vin48 refclk : Bool) : BootEnv := ⟨vin48, refclk, true, false, 1000, none, true, alt 8192 true⟩
def sP4 : State := { sSpan .none with power := { (sSpan .none).power with st := .p4, vin48 := false, vaux := false }, svc := { (sSpan .none).svc with stage := .off } }
def sHold : State := { sSpan .none with svc := { (sSpan .none).svc with stage := .waitEnv } }
def sHung : State := { sSpan .none with svc := { (sSpan .none).svc with stage := .hung true } }
def sOff : State := { sP3 with power := { sP3.power with vin48 := false } }

theorem witness_ResetsAndSupplies : sP4.power.st = .p4 ∧ (envB false true).vin48 = false ∧ (envB true false).refclk = false ∧ (envB true true).lidOpen = false
    ∧ sP4.sec.lidLatched = false ∧ sP4.sec.loopArmed = false ∧ WillBoot sP4 (envB true true) ∧ sOff.power.st = .p3 ∧ sOff.power.vin48 = false
    ∧ WillBoot (sOff.tamperSample false 1000 true) (envB true true) ∧ (sSpan .sill).powered = true ∧ (sSpan .sill).svc.stage ≠ .waitEnv
    ∧ WillBoot (sSpan .sill).resetBlocks (envB true true) ∧ sHold.svc.stage = .waitEnv ∧ WillBoot sHold (envB true true)
    ∧ sHung.activating = false ∧ sHung.svc.stage = .hung true := by
  refine ⟨by decide +kernel, rfl, rfl, rfl, by decide +kernel, by decide +kernel, ?_, by decide +kernel, by decide +kernel, ?_, by decide +kernel,
    by decide +kernel, ?_, by decide +kernel, ?_, by decide +kernel, by decide +kernel⟩
  all_goals exact willBoot_of _ _ rfl rfl rfl rfl (by decide +kernel)

theorem test_resets : (after (exec (.vauxPowerOn (envB false true)) sP4)).power.st = .p3 ∧ (after (exec .vin48Loss (sSpan .sill))).t.run = false
    ∧ (after (exec .vauxLoss (sSpan .sill))).power.lossAt = some 0 ∧ (after (exec (.bootTimeout (envB true true)) sHung)).svc.stage = .recovery
    ∧ (after (exec .perstN sRing)).host.rings = [] := by decide +kernel

/-! ### The machine -/

/-- A state with the things the invariants speak of: bank T serves a spill of bank 2, and a ring with a descriptor read. -/
def sServing : State :=
  let s := stateOf { bankWith [] with st := .blocked, tsw := 0x8780030000000000 } []
  let u := s.modCore 1 (fun k => { k with tActive := true, served := 2, service := .wovf, running := none })
  { u with host := sFlushing.host }

theorem witness_StepKeepsWindows : sServing.windowsOk ∧ (∀ c, (sServing.core c).serviceOk) ∧ ∃ t, step sServing = .next t := by
  refine ⟨by unfold State.windowsOk Bank.windowOk; decide +kernel, by unfold Core.serviceOk; decide +kernel, _, rfl⟩

theorem witness_StepKeepsRings : sServing.host.ringsOk ∧ (∃ r, (sServing.ring r).fetched ≠ []) ∧ ∃ t, step { sServing with pending := [.decide] } = .next t := by
  refine ⟨by unfold HostIf.ringsOk Ring.countsOk; decide +kernel, ⟨9, by decide +kernel⟩, _, rfl⟩

/-- A lifecycle that changes as its table allows, and changes that it does not. -/
theorem witness_OneWay : (∃ t, step { sLid with pending := [.tamperSample false 1000] } = .next t ∧ t.sec.life = .tampered)
    ∧ (Lifecycle.provisioned, Lifecycle.tampered) ∈ lifeChanges ∧ (Lifecycle.retired, Lifecycle.blank) ∉ lifeChanges
    ∧ (Lifecycle.sealed, Lifecycle.provisioned) ∉ lifeChanges := by
  refine ⟨⟨_, rfl, by decide +kernel⟩, by decide +kernel⟩

theorem witness_StepRunsFront : State.reset.pending = [] ∧ step State.reset = .next { State.reset with t := { State.reset.t with clock := 1 } } := by
  refine ⟨by decide +kernel, rfl⟩

/-- A latency check of a LATENCY_CHECK command whose ECHO is overdue fails at the next tick. -/
theorem witness_overdue : sSourceCmd.pending = [] ∧ sSourceCmd.movRunning false = none ∧ sSourceCmd.movRunning true = none
    ∧ sSourceCmd.chain.latency.map (fun l => (l.order.isSome, l.sentAt)) = some (true, 0) ∧ sSourceCmd.t.clock + 1 > 0 + (sSourceCmd.t.k * 440625 - 16000)
    ∧ (after (step sSourceCmd)).chain.latency = none ∧ (after (step sSourceCmd)).host.waiting.map (fun c => (c.status, c.resBytes)) = [(0x40, 0)] := by
  decide +kernel

theorem witness_QueueAndSafety : (Instr.add 0 1 2 3).WellFormed ∧ ∃ t, step { State.reset with pending := [.thermalAlert] } = .next t := by
  refine ⟨by decide +kernel, _, rfl⟩

theorem witness_StepKeepsMemory : State.reset.memWf ∧ ∃ t, step State.reset = .next t := by
  refine ⟨by decide +kernel, _, rfl⟩

end Sys2Proof.Tests
end

section
/-! SUPPORT. What an event source and a notice leave unchanged (09 R367, R368, R407; 03 R122). -/

namespace Sys2Proof.Machine

/-- Nothing but the cores and the bay differs. -/
def OnlyCoresBay (s t : State) : Prop := t = { s with cores := t.cores, bay := t.bay }

theorem OnlyCoresBay.refl (s : State) : OnlyCoresBay s s := rfl

theorem OnlyCoresBay.trans {s t u : State} (h : OnlyCoresBay s t) (h' : OnlyCoresBay t u) : OnlyCoresBay s u := by
  unfold OnlyCoresBay at h h' ⊢
  calc u = { t with cores := u.cores, bay := u.bay } := h'
    _ = { s with cores := u.cores, bay := u.bay } := by rw [h]

theorem OnlyCoresBay.reg {s t : State} (h : OnlyCoresBay s t) : t.reg = s.reg := by rw [h]
theorem OnlyCoresBay.adm {s t : State} (h : OnlyCoresBay s t) : t.adm = s.adm := by rw [h]
theorem OnlyCoresBay.out {s t : State} (h : OnlyCoresBay s t) : t.out = s.out := by rw [h]
theorem OnlyCoresBay.svc {s t : State} (h : OnlyCoresBay s t) : t.svc = s.svc := by rw [h]

theorem onlyCoresBay_modCore (s : State) (c : CoreId) (f : Core → Core) : OnlyCoresBay s (s.modCore c f) := rfl

theorem onlyCoresBay_setByte (s : State) (c : CoreId) (a : Nat) (b : Byte) : OnlyCoresBay s (s.setByte c a b) :=
  State.setGran_frame s c a _

theorem onlyCoresBay_engPut (s : State) (c : CoreId) (a : Nat) (l : Octets) : OnlyCoresBay s (s.engPut c a l) := by
  induction l generalizing s a with
  | nil => exact .refl s
  | cons b l ih =>
    have hb : ∀ p : Bool, OnlyCoresBay s (if p = true then s.setByte c a b else s) := by
      intro p; cases p
      · exact .refl s
      · exact onlyCoresBay_setByte s c a b
    exact (hb _).trans (ih _ (a + 1))

theorem onlyCoresBay_putWoken (s : State) (c : CoreId) (b : BankId) (src : Nat) : OnlyCoresBay s (s.putWoken c b src) := by
  unfold State.putWoken State.tsbPut
  split
  · exact .refl s
  · split
    · exact onlyCoresBay_engPut s c _ _
    · exact .refl s

theorem onlyCoresBay_wakeBank (s : State) (c : CoreId) (b : BankId) : OnlyCoresBay s (s.wakeBank c b) := by
  simp only [State.wakeBank]
  split
  · split
    · exact .refl s
    · split
      · exact (onlyCoresBay_modCore s c _).trans ((onlyCoresBay_modCore _ c _).trans (onlyCoresBay_putWoken _ c b _))
      · exact onlyCoresBay_modCore s c _
  · exact .refl s

theorem onlyCoresBay_raise (s : State) (src detail : Nat) : OnlyCoresBay s (s.raise src detail) := by
  simp only [State.raise, State.raiseOn]
  split
  · exact .refl s
  · exact (onlyCoresBay_modCore s _ _).trans (onlyCoresBay_wakeBank _ _ _)

@[simp] theorem State.raise_reg (s : State) (src detail : Nat) : (s.raise src detail).reg = s.reg := (onlyCoresBay_raise s src detail).reg
@[simp] theorem State.raise_adm (s : State) (src detail : Nat) : (s.raise src detail).adm = s.adm := (onlyCoresBay_raise s src detail).adm
@[simp] theorem State.raise_out (s : State) (src detail : Nat) : (s.raise src detail).out = s.out := (onlyCoresBay_raise s src detail).out
@[simp] theorem State.raise_svc (s : State) (src detail : Nat) : (s.raise src detail).svc = s.svc := (onlyCoresBay_raise s src detail).svc

/-- A host access leaves the regulator port and admission alone, and takes back nothing that was sent. -/
theorem State.msixSend_kept (s : State) (v : Nat) :
    (s.msixSend v).reg = s.reg ∧ (s.msixSend v).adm = s.adm ∧ s.out <+: (s.msixSend v).out := by
  simp only [State.msixSend, State.linkEmit]
  split
  · split
    · exact ⟨rfl, rfl, List.prefix_append _ _⟩
    · exact ⟨rfl, rfl, List.prefix_rfl⟩
  · exact ⟨rfl, rfl, List.prefix_rfl⟩

theorem State.raiseNotice_kept (s : State) (bit : Nat) :
    (s.raiseNotice bit).reg = s.reg ∧ (s.raiseNotice bit).adm = s.adm ∧ s.out <+: (s.raiseNotice bit).out := by
  unfold State.raiseNotice
  split
  · exact ⟨rfl, rfl, List.prefix_rfl⟩
  · exact State.msixSend_kept _ 0

/-- The pause reasons become those asked for (02 R70); the regulator port stands, and what was sent stays sent. -/
theorem State.setPaused_result (s : State) (p : BitVec 5) :
    (s.setPaused p).adm.paused = p ∧ (s.setPaused p).reg = s.reg ∧ s.out <+: (s.setPaused p).out := by
  unfold State.setPaused
  split
  · next h => exact ⟨h.symm, rfl, List.prefix_rfl⟩
  · simp only [State.raise_reg, State.raise_adm, State.raise_out]
    obtain ⟨hreg, hadm, hout⟩ := State.raiseNotice_kept { s with
      adm := { s.adm with paused := p }
      scribe := { s.scribe with spanPaused := s.scribe.spanPaused || (s.t.phase == Phase.sill && p != 0) } } 5
    exact ⟨by rw [hadm], hreg, hout⟩

end Sys2Proof.Machine
end

section
/-! SUPPORT. Messages of the regulator port while its link is up (16 R649 to R654). -/

namespace Sys2Proof.Machine

/-- With the link up, a message takes the next sequence number and goes out at once (16 R649, R650). -/
theorem regSend_of_up (s : State) (msg : Nat) (body : Octets) (h : s.reg.up = true) :
    regSend s msg body = { s with
      reg := { s.reg with seqOut := s.reg.seqOut + 1, since := s.reg.since ++ [regPayload s msg body] }
      out := s.out ++ [.regFrame (regEth s) (regPayload s msg body)] } := if_pos h

@[simp] theorem regSend_adm (s : State) (msg : Nat) (body : Octets) : (regSend s msg body).adm = s.adm := by
  unfold regSend
  split
  · rfl
  · split <;> rfl

/-- From s to t the port, its link up, sends n messages, one sequence number each, and nothing waits, is acknowledged or is
recorded meanwhile. -/
structure PortSends (n : Nat) (s t : State) : Prop where
  up : t.reg.up = true
  seqOut : t.reg.seqOut = s.reg.seqOut + n
  lastCseq : t.reg.lastCseq = s.reg.lastCseq
  frozen : t.reg.frozen = s.reg.frozen
  held : t.reg.held = s.reg.held
  svc : t.svc = s.svc
  out : s.out <+: t.out

/-- A change that leaves the port, the service core's record and the output alone sends nothing. -/
theorem PortSends.of_eq {s t : State} (h : s.reg.up = true) (hreg : t.reg = s.reg) (hsvc : t.svc = s.svc) (hout : t.out = s.out) :
    PortSends 0 s t := by
  constructor <;> simp [hreg, hsvc, hout, h]

theorem PortSends.trans {m n : Nat} {s t u : State} (h : PortSends m s t) (h' : PortSends n t u) : PortSends (m + n) s u where
  up := h'.up
  seqOut := by rw [h'.seqOut, h.seqOut, Nat.add_assoc]
  lastCseq := h'.lastCseq.trans h.lastCseq
  frozen := h'.frozen.trans h.frozen
  held := h'.held.trans h.held
  svc := h'.svc.trans h.svc
  out := h.out.trans h'.out

theorem portSends_regSend (s : State) (msg : Nat) (body : Octets) (h : s.reg.up = true) : PortSends 1 s (regSend s msg body) := by
  rw [regSend_of_up s msg body h]
  exact ⟨h, rfl, rfl, rfl, rfl, rfl, List.prefix_append _ _⟩

/-- A list of messages sent in turn takes as many sequence numbers. -/
theorem portSends_foldl {α : Type} (msg : α → Nat) (body : α → Octets) (l : List α) (s : State) (h : s.reg.up = true) :
    PortSends l.length s (l.foldl (fun t a => regSend t (msg a) (body a)) s) := by
  induction l generalizing s with
  | nil => exact .of_eq h rfl rfl rfl
  | cons a l ih =>
    have first := portSends_regSend s (msg a) (body a) h
    rw [List.length_cons, Nat.add_comm]
    exact first.trans (ih _ first.up)

theorem portSends_replayTrouble (s : State) (h : s.reg.up = true) : PortSends s.svc.tr.length s s.replayTrouble :=
  portSends_foldl (fun _ => 5) TrEntry.data s.svc.tr s h

/-- A source raised is no message. -/
theorem portSends_raise (s : State) (src detail : Nat) (h : s.reg.up = true) : PortSends 0 s (s.raise src detail) :=
  .of_eq h (s.raise_reg src detail) (s.raise_svc src detail) (s.raise_out src detail)

/-- A report is one message, made with the signature's nonce used (16 R654, R656). -/
theorem State.sendReport_eq (s : State) (nonce : Octets) :
    s.sendReport nonce = regSend (s.useFree 48) 6 (s.report nonce).2 := rfl

theorem portSends_sendReport (s : State) (nonce : Octets) (h : s.reg.up = true) : PortSends 1 s (s.sendReport nonce) :=
  (PortSends.of_eq h rfl rfl rfl : PortSends 0 s (s.useFree 48)).trans (portSends_regSend (s.useFree 48) 6 _ h)

/-- Drawing a nonce touches the draw unit and the free values alone. -/
theorem State.nonce32_kept (s : State) :
    s.nonce32.2.reg = s.reg ∧ s.nonce32.2.svc = s.svc ∧ s.nonce32.2.out = s.out ∧ s.nonce32.2.chain = s.chain := by
  unfold State.nonce32 State.serviceOctets
  cases s.ds.service with
  | none => exact ⟨rfl, rfl, rfl, rfl⟩
  | some d =>
    simp only [Option.map_some, Option.getD_some]
    split <;> exact ⟨rfl, rfl, rfl, rfl⟩

theorem portSends_ownReport (s : State) (h : s.reg.up = true) : PortSends 1 s s.ownReport := by
  obtain ⟨hreg, hsvc, hout, -⟩ := s.nonce32_kept
  have drawn : PortSends 0 s s.nonce32.2 := .of_eq h hreg hsvc hout
  exact drawn.trans (portSends_sendReport _ s.nonce32.1 drawn.up)

/-- An unsolicited report is one frame, with message code 6 (16 R650, R654). -/
theorem State.ownReport_out (s : State) (h : s.reg.up = true) :
    ∃ body, s.ownReport.out = s.out ++ [.regFrame (regEth s) (regPayload s.nonce32.2 6 body)] := by
  obtain ⟨hreg, -, hout, hchain⟩ := s.nonce32_kept
  have heth : regEth (s.nonce32.2.useFree 48) = regEth s := by simp only [regEth, State.useFree_chain, hchain]
  refine ⟨(s.nonce32.2.report s.nonce32.1).2, ?_⟩
  rw [State.ownReport, State.sendReport_eq, regSend_of_up _ _ _ (by rw [State.useFree_reg, hreg, h]), heth]
  exact congrArg (· ++ _) hout

/-- MSG stands at octet 1 of a payload (16 R649). -/
theorem fieldAt_regPayload_msg (s : State) (msg : Nat) (body : Octets) : fieldAt (regPayload s msg body) 1 1 = msg % 256 := by
  simp [fieldAt, slice, regPayload, leNat, octet]

end Sys2Proof.Machine
end

section
/-! The regulator port's commands, heartbeat, reports and link (16 R649 to R654; 01 R27). -/

namespace Sys2Proof.Machine

/-- The state in which an accepted command takes effect: its CSEQ stored and its acknowledgement sent (16 R652). -/
def State.regAcked (s : State) (frame : Octets) : State :=
  ({ s with reg := { s.reg with lastCseq := fieldAt (frame.drop 38) 8 8 } } : State).regAck (frame.drop 38) 0

/-- CSEQ stored and COMMAND_ACK with result 0 among what was sent (16 R650, R652). -/
def Acknowledged (frame : Octets) (s t : State) : Prop :=
  t.reg.lastCseq = fieldAt (frame.drop 38) 8 8
    ∧ Sent s t (.regFrame (regEth s) (regPayload s 1 ([(frame.drop 38).getD 0 0, 0, 0, 0] ++ slice (frame.drop 38) 8 8)))

/-- The acknowledgement is one message; the CSEQ stands already. -/
theorem portSends_regAcked (s : State) (frame : Octets) (h : s.reg.up = true) :
    PortSends 1 { s with reg := { s.reg with lastCseq := fieldAt (frame.drop 38) 8 8 } } (s.regAcked frame) :=
  portSends_regSend _ 1 _ h

@[simp] theorem State.regAcked_adm (s : State) (frame : Octets) : (s.regAcked frame).adm = s.adm := by
  unfold State.regAcked State.regAck
  rw [regSend_adm]

theorem State.regAcked_out (s : State) (frame : Octets) (h : s.reg.up = true) : (s.regAcked frame).out = s.out
    ++ [.regFrame (regEth s) (regPayload s 1 ([(frame.drop 38).getD 0 0, 0, 0, 0] ++ slice (frame.drop 38) 8 8))] := by
  unfold State.regAcked State.regAck
  rw [regSend_of_up]
  · rfl
  · exact h

/-- An effect that keeps the CSEQ and takes back nothing sent leaves the command acknowledged. -/
theorem acknowledged_of_regAcked {frame : Octets} {s t : State} (h : s.reg.up = true)
    (hcseq : t.reg.lastCseq = (s.regAcked frame).reg.lastCseq) (hout : (s.regAcked frame).out <+: t.out) : Acknowledged frame s t := by
  obtain ⟨more, hmore⟩ := hout
  rw [State.regAcked_out s frame h] at hmore
  exact ⟨hcseq.trans (portSends_regAcked s frame h).lastCseq, more, by rw [← hmore, List.append_assoc]; rfl⟩

theorem RegAccepts.up {s : State} {msg : Nat} {frame : Octets} (h : RegAccepts s msg frame) : s.reg.up = true := by
  obtain ⟨-, hup, -⟩ := h
  exact hup

/-- A command that passes every check acts on the acknowledged state (16 R652, R653). -/
theorem regRow_of_accepts {s : State} {msg : Nat} {frame : Octets} (act : State → Octets → State) (h : RegAccepts s msg frame) :
    regRow msg frame act s = .next (act (s.regAcked frame) (frame.drop 38)) := by
  obtain ⟨hpower, hup, hhears, hcmd, hres⟩ := h
  simp [regRow, State.regAcked, hpower, hup, hhears, hcmd, hres]

/-- A command that fails a check is acknowledged with it and does nothing else (16 R653). -/
theorem regRow_of_refused {s : State} {msg : Nat} {frame : Octets} (act : State → Octets → State) (hpower : s.portPowered = true)
    (hup : s.reg.up = true) (hhears : s.regHears frame = true) (hcmd : isCommand msg (frame.drop 14) = true)
    (hres : s.regResult msg (frame.drop 14) ≠ 0) :
    regRow msg frame act s = .next (s.regAck (frame.drop 38) (s.regResult msg (frame.drop 14))) := by
  simp [regRow, hpower, hup, hhears, hcmd, hres]

/-- The effect of FREEZE on the state its acknowledgement leaves (16 R654; 01 R27). -/
def freezeEffect (t : State) (_ : Octets) : State :=
  (({ t with reg := { t.reg with frozen := true } }).pauseBit 0 true).raise 160 0
/-- The effect of RESUME: the pause itself is lifted at the next sill (16 R654). -/
def resumeEffect (t : State) (_ : Octets) : State := ({ t with reg := { t.reg with frozen := false } }).raise 161 0
/-- The effect of ATTEST_NOW, whose NONCE the body carries (16 R654). -/
def attestEffect (t : State) (body : Octets) : State := ((t.sendReport (slice body 16 32)).replayTrouble).raise 162 0

theorem exec_freeze (frame : Octets) (s : State) : exec (.freeze frame) s = regRow 16 frame freezeEffect s := rfl
theorem exec_resume (frame : Octets) (s : State) : exec (.resume frame) s = regRow 17 frame resumeEffect s := rfl
theorem exec_attestNow (frame : Octets) (s : State) : exec (.attestNow frame) s = regRow 18 frame attestEffect s := rfl

theorem freezeEffect_result (t : State) (body : Octets) :
    (freezeEffect t body).reg = { t.reg with frozen := true } ∧ (freezeEffect t body).adm.paused = t.adm.paused ||| 1
      ∧ t.out <+: (freezeEffect t body).out := by
  obtain ⟨hpaused, hreg, hout⟩ :=
    State.setPaused_result { t with reg := { t.reg with frozen := true } } (t.adm.paused ||| 1)
  rw [freezeEffect, State.raise_reg, State.raise_adm, State.raise_out]
  exact ⟨hreg, hpaused, hout⟩

theorem exec_freeze_result {s : State} {frame : Octets} (h : RegAccepts s 16 frame) : Completes (.freeze frame) s (fun t =>
    t.reg.frozen = true ∧ t.adm.paused = s.adm.paused ||| 1 ∧ Acknowledged frame s t) := by
  obtain ⟨hreg, hpaused, hout⟩ := freezeEffect_result (s.regAcked frame) (frame.drop 38)
  refine ⟨_, (exec_freeze frame s).trans (regRow_of_accepts freezeEffect h), ?_, ?_, ?_⟩
  · rw [hreg]
  · rw [hpaused, State.regAcked_adm]
  · exact acknowledged_of_regAcked h.up (by rw [hreg]) hout

theorem resumeEffect_result (t : State) (body : Octets) :
    (resumeEffect t body).reg = { t.reg with frozen := false } ∧ (resumeEffect t body).adm = t.adm
      ∧ (resumeEffect t body).out = t.out :=
  ⟨State.raise_reg _ 161 0, State.raise_adm _ 161 0, State.raise_out _ 161 0⟩

theorem exec_resume_result {s : State} {frame : Octets} (h : RegAccepts s 17 frame) : Completes (.resume frame) s (fun t =>
    t.reg.frozen = false ∧ t.adm.paused = s.adm.paused ∧ Acknowledged frame s t) := by
  obtain ⟨hreg, hadm, hout⟩ := resumeEffect_result (s.regAcked frame) (frame.drop 38)
  refine ⟨_, (exec_resume frame s).trans (regRow_of_accepts resumeEffect h), ?_, ?_, ?_⟩
  · rw [hreg]
  · rw [hadm, State.regAcked_adm]
  · exact acknowledged_of_regAcked h.up (by rw [hreg]) ⟨[], (List.append_nil _).trans hout.symm⟩

/-- One report and the whole trouble record (16 R651, R654). -/
theorem portSends_attestEffect (t : State) (body : Octets) (h : t.reg.up = true) :
    PortSends (1 + t.svc.tr.length) t (attestEffect t body) := by
  have report := portSends_sendReport t (slice body 16 32) h
  have replay := portSends_replayTrouble _ report.up
  rw [report.svc] at replay
  exact (report.trans replay).trans (portSends_raise _ 162 0 replay.up)

theorem exec_attestNow_result {s : State} {frame : Octets} (h : RegAccepts s 18 frame) : Completes (.attestNow frame) s (fun t =>
    t.reg.frozen = s.reg.frozen ∧ Acknowledged frame s t ∧ t.reg.seqOut = s.reg.seqOut + 2 + s.svc.tr.length) := by
  have acked := portSends_regAcked s frame h.up
  have attest := portSends_attestEffect _ (frame.drop 38) acked.up
  refine ⟨_, (exec_attestNow frame s).trans (regRow_of_accepts attestEffect h), attest.frozen.trans acked.frozen,
    acknowledged_of_regAcked h.up attest.lastCseq attest.out, ?_⟩
  have hseq : (s.regAcked frame).reg.seqOut = s.reg.seqOut + 1 := acked.seqOut
  have hsvc : (s.regAcked frame).svc = s.svc := acked.svc
  rw [attest.seqOut, hseq, hsvc]
  omega

/-- FREEZE, RESUME or ATTEST_NOW that fails a check. -/
theorem exec_regCommand_refused {s : State} {frame : Octets} (p : Nat × Instr)
    (hp : p ∈ [(16, Instr.freeze frame), (17, Instr.resume frame), (18, Instr.attestNow frame)])
    (hpower : s.portPowered = true) (hup : s.reg.up = true) (hhears : s.regHears frame = true)
    (hcmd : isCommand p.1 (frame.drop 14) = true) (hres : s.regResult p.1 (frame.drop 14) ≠ 0) :
    exec p.2 s = .next (s.regAck (frame.drop 38) (s.regResult p.1 (frame.drop 14))) := by
  simp only [List.mem_cons, List.not_mem_nil, or_false] at hp
  obtain rfl | rfl | rfl := hp
  · exact (exec_freeze frame s).trans (regRow_of_refused _ hpower hup hhears hcmd hres)
  · exact (exec_resume frame s).trans (regRow_of_refused _ hpower hup hhears hcmd hres)
  · exact (exec_attestNow frame s).trans (regRow_of_refused _ hpower hup hhears hcmd hres)

theorem exec_heartbeat_result (s : State) (hpower : s.portPowered = true) (hup : s.reg.up = true) :
    Completes .heartbeat s (fun t => t.reg.seqOut = s.reg.seqOut + 1 ∧ t.reg.since = [] ∧ t.reg.first = s.reg.seqOut + 2
      ∧ ∃ b sig, t.out = s.out ++ [.regFrame (regEth s) (regPayload s 7 (b ++ sig))] ∧ b = heartbeatBody s ∧ sig = s.sign 1 b) := by
  have hsend := regSend_of_up (s.useFree 48) 7 (heartbeatBody s ++ s.sign 1 (heartbeatBody s)) hup
  refine ⟨_, if_neg (by simp [hpower, hup]), ?_⟩
  rw [hsend]
  exact ⟨rfl, rfl, rfl, _, _, rfl, rfl, rfl⟩

theorem exec_periodicAttestReport_result (s : State) (hpower : s.portPowered = true) (hup : s.reg.up = true) :
    Completes .periodicAttestReport s (fun t => t.reg.seqOut = s.reg.seqOut + 1
      ∧ ∃ p, t.out = s.out ++ [.regFrame (regEth s) p] ∧ fieldAt p 1 1 = 6) := by
  obtain ⟨body, hout⟩ := s.ownReport_out hup
  exact ⟨s.ownReport, if_pos ⟨hpower, hup⟩, (portSends_ownReport s hup).seqOut, _, hout, fieldAt_regPayload_msg _ 6 body⟩

theorem exec_regLinkUp_result (s : State) (hpower : s.portPowered = true) (hdown : s.reg.up = false) :
    Completes .regLinkUp s (fun t => t.reg.up = true ∧ t.reg.held = []
      ∧ t.reg.seqOut = s.reg.seqOut + (s.reg.held.filter s.stillHeld).length + s.svc.tr.length + 1) := by
  have waited := portSends_foldl Prod.fst Prod.snd (s.reg.held.filter s.stillHeld)
    { s with reg := { s.reg with up := true, held := [] } } rfl
  have replayed := waited.trans (portSends_replayTrouble _ waited.up)
  have reported := replayed.trans (portSends_ownReport _ replayed.up)
  have hseq := reported.seqOut
  rw [waited.svc] at hseq
  exact ⟨_, if_neg (by simp [hpower, hdown]), reported.up, reported.held, by rw [hseq]; simp only [Nat.add_assoc]⟩

/-- Settles O46, each command by its own lemma: an accepted one acts on the state its acknowledgement leaves, and every message
sent while the link is up takes one sequence number. -/
theorem regulatorPort : Obligations.RegulatorPort := by
  unfold Obligations.RegulatorPort
  refine ⟨fun s frame => ⟨exec_freeze_result, exec_resume_result, exec_attestNow_result, exec_regCommand_refused⟩,
    fun s hpower hup => ⟨exec_heartbeat_result s hpower hup, exec_periodicAttestReport_result s hpower hup⟩,
    exec_regLinkUp_result, fun _ => rfl⟩

end Sys2Proof.Machine
end
